-- ==== Sys2Proof/Word.lean ====
section
/-! DEFINITION. The word and octet types of the part (00 section 6.1: a word is 32 bits, an octet is 8 bits). -/

namespace Sys2Proof

/-- A word: 32 bits, as stored in the pool and carried in payloads (00 section 5). Sums of words wrap modulo 2^32. -/
abbrev Word := BitVec 32

/-- An octet of a frame. -/
abbrev Byte := BitVec 8

end Sys2Proof
end

