-- ==== Sys2Proof/Config.lean ====
section
/-! DEFINITION. The fixed numbers of the part. No free value stands here: the spec leaves no result of a command open
(INVENTORY.md, What the manual leaves open). -/

namespace Sys2Proof.Config

/-- Blocks of the pool, numbered 0..1023 (04 section 4.1). -/
def poolBlocks : Nat := 1024

/-- Words of a block (04 section 4.1). -/
def blockWords : Nat := 64

/-- Largest declared word count of a record (R80 check 5). -/
def maxRecordWords : Nat := 4096

/-- Most committed records of one node once the trim is done (R63). -/
def maxCommitted : Nat := 4

/-- Longest payload of a frame the part receives (R157). -/
def maxPayload : Nat := 264

/-- Where a link error count stays (R158). -/
def maxErrors : Nat := 255

/-- Duration of a holdoff, in milliseconds (R110). -/
def holdoffMs : Nat := 20

/-- The NOT_READY run at which a further NOT_READY aborts (R110). -/
def maxNotReady : Nat := 15

/-- Most words one PEEK_NEXT reads (R74). -/
def peekWords : Nat := 16

/-- Largest reading and largest limit of a monitor channel (R138, R139). -/
def maxReading : Nat := 4095

/-- The sum that a good commissioning image and its check word make (11 section 11.3). -/
def arraySum : Word := 0x4B5A4160#32

/-- The last generation a node can be given (R62). -/
def lastGeneration : Word := 0xFFFFFFFF#32

end Sys2Proof.Config
end

