-- ==== Sys2Proof/Syntax.lean ====
section
/-! DEFINITION. The commands the part takes: one constructor of `Instr` per row of spec/opcode_table.json, with the row's
operands, and the names of the things the operands number (nodes, groups, restore channels, links, frame kinds). -/

namespace Sys2Proof

/-- A node position, 1..8 (00 section 6.1). -/
inductive NodeId
  | n1 | n2 | n3 | n4 | n5 | n6 | n7 | n8
  deriving DecidableEq, Repr

/-- A group, 1..4. -/
inductive GroupId
  | g1 | g2 | g3 | g4
  deriving DecidableEq, Repr

/-- A restore channel, 0 or 1. -/
inductive ChanId
  | c0 | c1
  deriving DecidableEq, Repr

/-- A link: link 0 runs to the supervisory computer, link n to node n (R1). -/
inductive Link
  | supervisor
  | node (n : NodeId)
  deriving DecidableEq, Repr

/-- A frame kind that the part accepts on some link (R162, code table of 10 section 10.5). The kinds that the part itself sends
are never accepted (R159 check 2) and are no `Kind`. -/
inductive Kind
  | hello | beat | quiet | awake | askRestart | resumed | who
  | openRecord | block | commit | drop | ack | taken
  | readNode | readGroup | readStore | readAlerts | peekAt | peekNext
  | restart | halt | release | limit | mask | set | apply | save | resync
  deriving DecidableEq, Repr

/-- What a disturbance of one pool word brings (R58, log entries 9 and 21): the contents it leaves in the word, and whether a commit
pass or a VERIFY that is under way and reads this word had read it before. -/
structure Disturbance where
  left : Word
  read : Bool
  deriving DecidableEq, Repr

/-- The commands, in the order of spec/opcode_table.json. A frame command carries the link the frame arrives on and its payload
octets in the order they lie on the link (R163). -/
inductive Instr
  | powerOnReset
  | resetAssert
  | pinReset
  | clockTick
  | frameDamaged (link : Link)
  | badKindFrame (link : Link) (kind : Byte)
  | hello (link : Link) (payload : List Byte)
  | beat (link : Link) (payload : List Byte)
  | quiet (link : Link) (payload : List Byte)
  | awake (link : Link) (payload : List Byte)
  | askRestart (link : Link) (payload : List Byte)
  | resumed (link : Link) (payload : List Byte)
  | who (link : Link) (payload : List Byte)
  | openRecord (link : Link) (payload : List Byte)
  | block (link : Link) (payload : List Byte)
  | commit (link : Link) (payload : List Byte)
  | drop (link : Link) (payload : List Byte)
  | commitPassComplete (node : NodeId)
  | ack (link : Link) (payload : List Byte)
  | taken (link : Link) (payload : List Byte)
  | readNode (link : Link) (payload : List Byte)
  | readGroup (link : Link) (payload : List Byte)
  | readStore (link : Link) (payload : List Byte)
  | readAlerts (link : Link) (payload : List Byte)
  | peekAt (link : Link) (payload : List Byte)
  | peekNext (link : Link) (payload : List Byte)
  | restart (link : Link) (payload : List Byte)
  | halt (link : Link) (payload : List Byte)
  | release (link : Link) (payload : List Byte)
  | limit (link : Link) (payload : List Byte)
  | mask (link : Link) (payload : List Byte)
  | set (link : Link) (payload : List Byte)
  | apply (link : Link) (payload : List Byte)
  | save (link : Link) (payload : List Byte)
  /-- The array write and read-back end, and `sum` is what the read-back summed to (R170). -/
  | saveComplete (sum : Word)
  | resync (link : Link) (payload : List Byte)
  | acquireExpiry (node : NodeId)
  | lapseExpiry (node : NodeId)
  | stableExpiry (node : NodeId)
  | pulseExpiry (node : NodeId)
  | bootExpiry (node : NodeId)
  | settleExpiry (node : NodeId)
  | answerTimerExpiry (node : NodeId)
  | holdoffExpiry (chan : ChanId)
  | verifyComplete (chan : ChanId)
  | takeoverPointReached (group : GroupId)
  | deadlineReached (group : GroupId)
  /-- A disturbance of the storage leaves new contents in one pool word, which no longer agrees with its parity check (R58). -/
  | storageDisturbance (block : Fin 1024) (word : Fin 64) (contents : Disturbance)
  | supplyLoss
  deriving DecidableEq, Repr

end Sys2Proof
end

