-- ==== Sys2Proof/Decode.lean ====
section
/-! DEFINITION. Words that spell commands (the table gives no row any bits, so there are none), and the reading of a KIND octet
by the code table of 10 section 10.5 (R162, R159 checks 1 and 2). -/

namespace Sys2Proof

/-- The command that a word spells by the bits of spec/opcode_table.json: every row's "fields" is empty, so no word spells one. -/
def decodeTableWord (_nbits _w : Nat) : Option Instr := none

/-- The number of a node, 1..8. -/
def NodeId.num : NodeId → Nat
  | .n1 => 1 | .n2 => 2 | .n3 => 3 | .n4 => 4 | .n5 => 5 | .n6 => 6 | .n7 => 7 | .n8 => 8

/-- The number of a group, 1..4. -/
def GroupId.num : GroupId → Nat
  | .g1 => 1 | .g2 => 2 | .g3 => 3 | .g4 => 4

/-- The number of a restore channel, 0 or 1. -/
def ChanId.num : ChanId → Nat
  | .c0 => 0 | .c1 => 1

/-- The nodes in increasing number. -/
def NodeId.all : List NodeId := [.n1, .n2, .n3, .n4, .n5, .n6, .n7, .n8]

/-- The groups in increasing number. -/
def GroupId.all : List GroupId := [.g1, .g2, .g3, .g4]

/-- The node of a number; none outside 1..8 (R1). -/
def NodeId.ofNum (k : Nat) : Option NodeId := NodeId.all.find? fun n => n.num = k

/-- The group of a number; none outside 1..4. -/
def GroupId.ofNum (k : Nat) : Option GroupId := GroupId.all.find? fun g => g.num = k

/-- The KIND octet of a kind (R162, code table of 10 section 10.5). -/
def Kind.code : Kind → Byte
  | .hello => 0x10#8 | .beat => 0x11#8 | .quiet => 0x12#8 | .awake => 0x13#8 | .askRestart => 0x14#8
  | .resumed => 0x15#8 | .who => 0x16#8 | .openRecord => 0x18#8 | .block => 0x19#8 | .commit => 0x1A#8
  | .drop => 0x1B#8 | .ack => 0x1C#8 | .taken => 0x1D#8
  | .readNode => 0x40#8 | .readGroup => 0x41#8 | .readStore => 0x42#8 | .readAlerts => 0x43#8
  | .peekAt => 0x44#8 | .peekNext => 0x45#8 | .restart => 0x46#8 | .halt => 0x47#8 | .release => 0x48#8
  | .limit => 0x49#8 | .mask => 0x4A#8 | .set => 0x4B#8 | .apply => 0x4C#8 | .save => 0x4D#8 | .resync => 0x4E#8

/-- Every kind, in the order of its code. -/
def Kind.all : List Kind :=
  [.hello, .beat, .quiet, .awake, .askRestart, .resumed, .who, .openRecord, .block, .commit, .drop, .ack, .taken,
   .readNode, .readGroup, .readStore, .readAlerts, .peekAt, .peekNext, .restart, .halt, .release, .limit, .mask, .set,
   .apply, .save, .resync]

/-- The kind of a KIND octet (R159 check 1). -/
def Kind.ofCode (c : Byte) : Option Kind := Kind.all.find? fun k => k.code = c

/-- A node kind is sent on links 1..8, a supervisory kind on link 0 (R159 check 2). -/
def Kind.ofNode : Kind → Bool
  | .hello | .beat | .quiet | .awake | .askRestart | .resumed | .who | .openRecord | .block | .commit | .drop | .ack
  | .taken => true
  | .readNode | .readGroup | .readStore | .readAlerts | .peekAt | .peekNext | .restart | .halt | .release | .limit | .mask
  | .set | .apply | .save | .resync => false

/-- R159 check 2: the kind may be sent to the part on this link. -/
def Kind.allowedOn (k : Kind) : Link → Bool
  | .supervisor => !k.ofNode
  | .node _ => k.ofNode

/-- The KIND octet passes checks 1 and 2 of R159 on this link. -/
def kindAccepted (l : Link) (c : Byte) : Bool :=
  match Kind.ofCode c with
  | some k => k.allowedOn l
  | none => false

end Sys2Proof
end

