-- ==== Sys2Proof/WellFormed.lean ====
section
/-! DEFINITION. Which commands are well formed. A frame command stands for an INTACT frame, whose payload has at most 264 octets
(R157: a longer one is a damaged frame, which is FRAME_DAMAGED). BAD_KIND_FRAME stands for a frame that fails R159 check 1 or 2. -/

namespace Sys2Proof

/-- The payload of a frame command. -/
def Instr.payload? : Instr → Option (List Byte)
  | .hello _ p | .beat _ p | .quiet _ p | .awake _ p | .askRestart _ p | .resumed _ p | .who _ p | .openRecord _ p
  | .block _ p | .commit _ p | .drop _ p | .ack _ p | .taken _ p | .readNode _ p | .readGroup _ p | .readStore _ p
  | .readAlerts _ p | .peekAt _ p | .peekNext _ p | .restart _ p | .halt _ p | .release _ p | .limit _ p | .mask _ p
  | .set _ p | .apply _ p | .save _ p | .resync _ p => some p
  | .powerOnReset | .resetAssert | .pinReset | .clockTick | .frameDamaged _ | .badKindFrame _ _ | .commitPassComplete _
  | .saveComplete _ | .acquireExpiry _ | .lapseExpiry _ | .stableExpiry _ | .pulseExpiry _ | .bootExpiry _
  | .settleExpiry _ | .answerTimerExpiry _ | .holdoffExpiry _ | .verifyComplete _ | .takeoverPointReached _
  | .deadlineReached _ | .storageDisturbance _ _ _ | .supplyLoss => none

/-- R157: an intact frame carries at most 264 payload octets. -/
def Instr.payloadFits (i : Instr) : Bool :=
  match i.payload? with
  | some p => decide (p.length ≤ Config.maxPayload)
  | none => true

/-- A BAD_KIND_FRAME holds a KIND that R159 check 1 or 2 turns away on its link. -/
def Instr.kindIsBad : Instr → Bool
  | .badKindFrame l c => !kindAccepted l c
  | _ => true

/-- A well-formed command. -/
def Instr.wellFormed (i : Instr) : Bool := i.payloadFits && i.kindIsBad

end Sys2Proof
end

