-- ==== Sys2Proof/Machine/Image.lean ====
section
/-! DEFINITION. The plan, the monitor channel settings and the commissioning image that SAVE writes and a load reads (11), with
the tables by node, group and restore channel. -/

namespace Sys2Proof.Machine

/-! ### Tables with one entry per node, group and restore channel -/

/-- One entry for each node 1..8. -/
structure PerNode (α : Type) where
  n1 : α
  n2 : α
  n3 : α
  n4 : α
  n5 : α
  n6 : α
  n7 : α
  n8 : α
  deriving DecidableEq, Repr

/-- One entry for each group 1..4. -/
structure PerGroup (α : Type) where
  g1 : α
  g2 : α
  g3 : α
  g4 : α
  deriving DecidableEq, Repr

/-- One entry for each restore channel. -/
structure PerChan (α : Type) where
  c0 : α
  c1 : α
  deriving DecidableEq, Repr

/-- The same entry at every node. -/
def PerNode.const {α : Type} (a : α) : PerNode α := ⟨a, a, a, a, a, a, a, a⟩

/-- The same entry at every group. -/
def PerGroup.const {α : Type} (a : α) : PerGroup α := ⟨a, a, a, a⟩

/-! ### The plan (01 sections 1.4 and 1.6, R165) -/

/-- DUTY or STANDBY, as a role, an initial role or a role claim (00 section 5). -/
inductive Role
  | duty | standby
  deriving DecidableEq, Repr

/-- The plan items of a node position. Times are in the units of R165. -/
structure NodePlan where
  present : Bool
  group : GroupId
  role : Role
  lapseExp : Nat
  resetDrive : Bool
  pulse : Nat
  bootWindow : Nat
  warmSettle : Nat
  coldSettle : Nat
  stable : Nat
  attemptLimit : Nat
  /-- The mark of the restart cause of code c stands at bit c − 1 (R165). -/
  warmCauses : Byte
  deriving DecidableEq, Repr

/-- The plan items of a group, in seconds. -/
structure GroupPlan where
  holdTime : Nat
  margin : Nat
  warmAge : Nat
  deriving DecidableEq, Repr

structure Plan where
  nodes : PerNode NodePlan
  groups : PerGroup GroupPlan
  answerTime : Nat
  deriving DecidableEq, Repr

/-- The defaults of 01 section 1.4. -/
def NodePlan.default : NodePlan where
  present := false
  group := .g1
  role := .standby
  lapseExp := 4
  resetDrive := true
  pulse := 20
  bootWindow := 30
  warmSettle := 20
  coldSettle := 60
  stable := 30
  attemptLimit := 3
  warmCauses := 0xFF#8

/-- The defaults of 01 section 1.6. -/
def GroupPlan.default : GroupPlan where
  holdTime := 30
  margin := 10
  warmAge := 600

/-- The empty plan: no node present, every other item at its default (R169). -/
def Plan.empty : Plan where
  nodes := .const NodePlan.default
  groups := .const GroupPlan.default
  answerTime := 50

/-! ### Monitor channel settings (08 section 8.1) -/

inductive MonMode
  | off | comparator | twoTimes
  deriving DecidableEq, Repr

/-- The six settings of a monitor channel. -/
structure MonSettings where
  group : GroupId
  mode : MonMode
  high : Nat
  hyst : Nat
  faultCount : Nat
  escalate : Bool
  deriving DecidableEq, Repr

/-- The default settings of R138. -/
def MonSettings.default : MonSettings where
  group := .g1
  mode := .off
  high := 4095
  hyst := 0
  faultCount := 1
  escalate := false

/-! ### The image -/

/-- What SAVE writes and the load reads (11 section 11.3). -/
structure Image where
  plan : Plan
  settings : Vector MonSettings 16
  deriving DecidableEq, Repr

/-- The image as delivered: the empty plan and the default settings (11 section 11.3). -/
def Image.delivered : Image := ⟨.empty, Vector.replicate 16 MonSettings.default⟩

/-- The entries of a table, node 1 first. -/
def PerNode.toList {α : Type} (t : PerNode α) : List α := [t.n1, t.n2, t.n3, t.n4, t.n5, t.n6, t.n7, t.n8]

/-- The entries of a table, group 1 first. -/
def PerGroup.toList {α : Type} (t : PerGroup α) : List α := [t.g1, t.g2, t.g3, t.g4]

/-- 1 for yes, 0 for no (10 section 10.6). -/
def yesNo (b : Bool) : Nat := if b then 1 else 0

/-- Codes of a role (10 section 10.6). -/
def Role.code : Role → Nat
  | .duty => 1
  | .standby => 2

/-- Codes of a monitor mode (10 section 10.6). -/
def MonMode.code : MonMode → Nat
  | .off => 0
  | .comparator => 1
  | .twoTimes => 2

/-- The values of a node's items in the order of R165. -/
def NodePlan.values (p : NodePlan) : List Nat :=
  [yesNo p.present, p.group.num, p.role.code, p.lapseExp, yesNo p.resetDrive, p.pulse, p.bootWindow, p.warmSettle,
   p.coldSettle, p.stable, p.attemptLimit, p.warmCauses.toNat]

/-- The values of a group's items in the order of R165. -/
def GroupPlan.values (p : GroupPlan) : List Nat := [p.holdTime, p.margin, p.warmAge]

/-- The values of a channel's settings in the order of LIMIT (10 section 10.6). -/
def MonSettings.values (m : MonSettings) : List Nat :=
  [m.group.num, m.mode.code, m.high, m.hyst, m.faultCount, yesNo m.escalate]

/-- The words of the image, one per item. DESIGN CHOICE (log entry 14): the spec speaks of the sum of the image's words and does
not lay them out. -/
def Image.words (img : Image) : List Word :=
  (img.plan.nodes.toList.flatMap NodePlan.values ++ img.plan.groups.toList.flatMap GroupPlan.values ++ [img.plan.answerTime]
    ++ img.settings.toList.flatMap MonSettings.values).map (BitVec.ofNat 32)

/-- The sum of words modulo 2^32 (00 section 6.1). -/
def wordSum (ws : List Word) : Word := ws.foldl (· + ·) 0#32

/-- The check word that completes the sum of an image (R170). -/
def Image.checkWord (img : Image) : Word := Config.arraySum - wordSum img.words

end Sys2Proof.Machine
end

