-- ==== Sys2Proof/Machine/State.lean ====
section
/-! DEFINITION. The state of the part, as plain data: every register, list, buffer, counter, timer, mode and line that spec/ gives
it, the frames it forms, and the state right after reset. Fields that the rules define from others (present and group of a node,
members and initial duty of a group, committed lists, free count, roles, the ALERT line) are computed in Machine/Ops.lean and
Machine/Store.lean, so that each item has one home. -/

namespace Sys2Proof.Machine

/-- No rule of spec/ stops the part: every request is answered, ignored or discarded, and every event has an effect or none.
So there is no fault, and the type has no constructor. -/
inductive Fault
  deriving DecidableEq, Repr

/-- Reasons for which a command has no meaning in this model. -/
inductive Refusal
  /-- Raised by an arm of `exec` whose row has no meaning yet; no arm does. Safe: the model stops where the part goes on. -/
  | notModelled (mnemonic : String)
  deriving DecidableEq, Repr

/-! ### Timers and points in time -/

/-- A timer (R14): absent when it does not run, else the advances of the millisecond time base that still lie before its expiry.
`some 0` is a timer whose expiry is due and not yet taken. -/
abbrev Timer := Option Nat

/-- A slot of the directory, 0..39 (04 section 4.3). -/
abbrev Slot := Fin 40

/-! ### Node records (01 section 1.2) -/

/-- The ten node states (01 section 1.3). -/
inductive NodeState
  | offline | unknown | running | quiet | reset | boot | queued | restoring | settling | halted
  deriving DecidableEq, Repr

/-- Restart causes (R3, R41). -/
inductive Cause
  | supply | lapse | commanded | requested | released | external | nodeWatchdog | unannounced
  deriving DecidableEq, Repr

/-- Drive reasons (R3, R34). -/
inductive DriveReason
  | lapse | commanded | requested | released
  deriving DecidableEq, Repr

/-- Boot reasons a HELLO reports (03 section 3.6). -/
inductive BootReason
  | power | resetLine | ownWatchdog | software
  deriving DecidableEq, Repr

/-- How a node entered SETTLING (01 section 1.3). -/
inductive SettleMark
  | warm | cold
  deriving DecidableEq, Repr

/-- The role a REPLY to RESUMED carries (R47). -/
inductive ResumeRole
  | duty | standby | later
  deriving DecidableEq, Repr

/-- The node record. `present` and `group` are those of the active plan (R2). -/
structure NodeRec where
  state : NodeState
  cause : Option Cause
  drive : Option DriveReason
  attempts : Nat
  warmCapable : Bool
  lastBeat : Option Word
  nudgeSent : Bool
  openRec : Option Slot
  channel : Option ChanId
  mark : Option SettleMark
  /-- Level of the node reset line: yes is asserted, driven low (R1, 10 section 10.8). -/
  resetLine : Bool
  acquire : Timer
  lapse : Timer
  stable : Timer
  pulse : Timer
  boot : Timer
  settle : Timer
  /-- A BEAT has been taken from the node since its group last entered PENDING (R8, R121). -/
  beatSincePending : Bool
  deriving DecidableEq, Repr

/-- The values of R5, R32 and R57 for a node that is not present. -/
def NodeRec.atReset : NodeRec where
  state := .offline
  cause := none
  drive := none
  attempts := 0
  warmCapable := false
  lastBeat := none
  nudgeSent := false
  openRec := none
  channel := none
  mark := none
  resetLine := false
  acquire := none
  lapse := none
  stable := none
  pulse := none
  boot := none
  settle := none
  beatSincePending := false

/-! ### Group records (01 section 1.5) -/

/-- The six group states (01 section 1.6). -/
inductive GroupState
  | vacant | pending | served | held | takenOver | unserved
  deriving DecidableEq, Repr

/-- The group record. Members and initial duty node are those of the active plan (R7). -/
structure GroupRec where
  state : GroupState
  duty : Option NodeId
  standby : Option NodeId
  deadline : Option Word
  point : Option Word
  outstanding : Bool
  declined : Bool
  escalated : Bool
  roleLater : Option NodeId
  /-- The reaching of the takeover point has been taken in this hold (R126: it is reached once in a hold). -/
  pointTaken : Bool
  deriving DecidableEq, Repr

/-- The values of R9 for a group without members. -/
def GroupRec.atReset : GroupRec where
  state := .vacant
  duty := none
  standby := none
  deadline := none
  point := none
  outstanding := false
  declined := false
  escalated := false
  roleLater := none
  pointTaken := false

/-! ### Condition monitor (08 section 8.1) -/

inductive MonState
  | clear | counting | tripped
  deriving DecidableEq, Repr

structure MonChannel where
  settings : MonSettings
  state : MonState
  run : Nat
  deriving DecidableEq, Repr

/-- A channel that is CLEAR with run counter 0 (R145, R148). -/
def MonChannel.cleared (m : MonSettings) : MonChannel := ⟨m, .clear, 0⟩

/-! ### Checkpoint store (04) -/

/-- FULL, or DELTA with its base generation. -/
inductive RecKind
  | full
  | delta (base : Word)
  deriving DecidableEq, Repr

/-- A word of the pool with the state of its parity check (R58). -/
structure PoolWord where
  value : Word
  sound : Bool
  deriving DecidableEq, Repr

/-- What a pass under way has read of words that were disturbed after it had read them: their pool addresses, and the words as it
read them. Every other word a pass reads as the pool holds it (R58, R87, R104, log entry 9). -/
abbrev SeenWords := List (Nat × PoolWord)

/-- OPEN; VERIFYING with the expected sum of R86, and what the commit pass has read of words disturbed since; COMMITTED with the
check word and the commit time of R88. -/
inductive RecStatus
  | opened
  | verifying (expected : Word) (seen : SeenWords)
  | committed (check : Word) (time : Word)
  deriving DecidableEq, Repr

/-- A descriptor of the directory (04 section 4.3). -/
structure Record where
  node : NodeId
  gen : Word
  kind : RecKind
  declared : Nat
  received : Nat
  blocks : List Nat
  status : RecStatus
  pinned : Bool
  deriving DecidableEq, Repr

/-- The pool, sparse: pairs of word address (64 × block + word) and contents, addresses rising, no entry equal to `PoolWord.zero`. -/
abbrev Pool := List (Nat × PoolWord)

/-- What an unlisted word reads as: 0 and sound (R77). -/
def PoolWord.zero : PoolWord := ⟨0#32, true⟩

/-- The peek cursor when it is not clear (R73). -/
structure Cursor where
  node : NodeId
  gen : Word
  offset : Nat
  deriving DecidableEq, Repr

structure Store where
  dir : Vector (Option Record) 40
  freeList : List Nat
  pool : Pool
  gens : PerNode Word
  peek : Option Cursor
  deriving DecidableEq, Repr

/-- The empty store of R77. -/
def Store.empty : Store where
  dir := Vector.replicate 40 none
  freeList := List.range 1024
  pool := []
  gens := .const 0#32
  peek := none

/-! ### Restore channels (06 section 6.2) -/

/-- VERIFY, SEND or HOLDOFF. A channel that is IDLE has no binding. -/
inductive ChanPhase
  | verify | send | holdoff
  deriving DecidableEq, Repr

/-- The record of a restore channel that is bound (06 section 6.2). -/
structure Binding where
  node : NodeId
  phase : ChanPhase
  /-- The set being restored, by directory slot: FULL first, then its DELTAs in generation order. -/
  set : List Slot
  position : Nat
  index : Nat
  resent : Bool
  notReady : Nat
  holdoff : Timer
  /-- What the VERIFY under way has read of words disturbed since; empty outside VERIFY. -/
  seen : SeenWords
  deriving DecidableEq, Repr

/-! ### Frames that the part forms (10 sections 10.5 and 10.6) -/

/-- The result codes of R162. -/
inductive Result
  | ok | busy | badKind | badLength | badValue | badState | notStandby | notPresent | badBase | listFull | poolFull | sequence
  | checkMismatch | storeError | partnerDown | planInvalid | planLocked | gone
  deriving DecidableEq, Repr

inductive ColdReason
  | causeNotWarm | notCapable | noSet | tooOld | damaged
  deriving DecidableEq, Repr

/-- WARM, or COLD with its reason (R42). -/
inductive Verdict
  | warm
  | cold (reason : ColdReason)
  deriving DecidableEq, Repr

inductive DoneStatus
  | ok | damaged | linkError | stalled | noAck | aborted
  deriving DecidableEq, Repr

/-- The queue items of R117 for a node in QUEUED. -/
structure QueueReport where
  position : Nat
  escalated : Bool
  deadline : Option Word
  deriving DecidableEq, Repr

/-- The channel items of R117 for a node in RESTORING. Position and index are absent while no block is being sent. -/
structure RestoreReport where
  chan : ChanId
  phase : ChanPhase
  position : Option Nat
  index : Option Nat
  notReady : Nat
  fullGen : Word
  deriving DecidableEq, Repr

/-- What READ_NODE reports (R153). -/
structure NodeReport where
  ms : Word
  number : NodeId
  present : Bool
  group : Option GroupId
  state : NodeState
  role : Option Role
  cause : Option Cause
  drive : Option DriveReason
  attempts : Nat
  warmCapable : Bool
  nudgeSent : Bool
  mark : Option SettleMark
  openRec : Option Slot
  errors : Nat
  lastBeat : Option Word
  queued : Option QueueReport
  restoring : Option RestoreReport
  deriving DecidableEq, Repr

/-- What READ_GROUP reports (R154). -/
structure GroupReport where
  ms : Word
  number : GroupId
  members : List NodeId
  initialDuty : Option NodeId
  state : GroupState
  duty : Option NodeId
  standby : Option NodeId
  deadline : Option Word
  point : Option Word
  outstanding : Bool
  declined : Bool
  escalated : Bool
  roleLater : Option NodeId
  deriving DecidableEq, Repr

/-- What READ_ALERTS reports (R152). -/
structure AlertsReport where
  flags : BitVec 27
  masks : BitVec 27
  enable : Bool
  channels : List (MonMode × MonState × Nat)
  link0Errors : Nat
  deriving DecidableEq, Repr

/-- What READ_STORE reports for one node (R76): records with their slots. -/
structure NodeStoreReport where
  node : NodeId
  counter : Word
  committed : List (Slot × Record)
  unfinished : Option (Slot × Record)
  deriving DecidableEq, Repr

/-- What READ_STORE reports (R76). -/
structure StoreReport where
  seconds : Word
  freeCount : Nat
  cursor : Option Cursor
  nodes : List NodeStoreReport
  deriving DecidableEq, Repr

/-- The body of a REPLY (10 section 10.6). -/
inductive Body
  | none
  | hello (verdict : Verdict) (cause : Cause) (attempts : Nat)
  | resumed (role : ResumeRole)
  | who (state : NodeState) (role : Option Role) (group : GroupId) (groupState : GroupState) (attempts : Nat)
  | opened (gen : Word) (blocks : Nat) (free : Nat)
  | progress (gen : Word) (index : Nat) (received : Nat) (free : Nat)
  | committed (gen : Word) (time : Word) (listLength : Nat)
  | damagedWord (gen : Word) (offset : Nat)
  | mismatch (gen : Word) (sum : Word)
  | dropped (gen : Word) (free : Nat)
  | newest (gen : Word)
  | node (r : NodeReport)
  | group (r : GroupReport)
  | alerts (r : AlertsReport)
  | store (r : StoreReport)
  | oldMasks (masks : BitVec 27) (enable : Bool)
  | oldChannel (state : MonState) (run : Nat)
  | peekedAt (kind : RecKind) (declared : Nat) (time : Word)
  | peeked (gen : Word) (offset : Nat) (words : List Word) (atEnd : Bool) (damagedOffset : Option Nat)
  | planItem (item : Nat) (index : Nat)
  deriving DecidableEq, Repr

/-- A frame that the part forms: a REPLY, a DATA or TAKE exchange, or a notice (R136, R116, R25). -/
inductive Frame
  | reply (kind : Byte) (result : Result) (body : Body)
  | data (position : Nat) (index : Nat) (words : List Word)
  | done (status : DoneStatus) (gen : Word)
  | verdict (reason : ColdReason)
  | take (group : GroupId)
  | role (group : GroupId) (role : Role)
  | nudge
  deriving DecidableEq, Repr

/-! ### Link interface (10) -/

/-- The condition of a link receiver (R157): hunting, or holding the octets of one frame after its SYNC octet, oldest first. -/
inductive Receiver
  | hunting
  | gathering (octets : List Byte)
  deriving DecidableEq, Repr

/-- One link's share of the link interface. -/
structure Port where
  rx : Receiver
  /-- The one request whose reply is still owed: a COMMIT on a node link, a SAVE on link 0 (R160). -/
  inProgress : Option Kind
  errors : Nat
  /-- The frames formed for this link since the last part reset, in the order of sending (R162). -/
  sent : List Frame
  deriving DecidableEq, Repr

/-- The condition of R164. -/
def Port.atReset : Port := ⟨.hunting, none, 0, []⟩

/-- An outstanding exchange that the part has started (R161). -/
inductive Exchange
  | data (position : Nat) (index : Nat)
  | take (group : GroupId)
  deriving DecidableEq, Repr

/-- The exchange slot of a node link and its answer timer (R161). -/
structure ExchangeSlot where
  outstanding : Option Exchange
  answer : Timer
  deriving DecidableEq, Repr

/-- The empty slot of R164. -/
def ExchangeSlot.empty : ExchangeSlot := ⟨none, none⟩

/-! ### Alert unit, part clock, commissioning array -/

/-- The 27 flags and masks as the 4-octet fields number them: flag k is bit k (10 section 10.6). -/
structure Alerts where
  flags : BitVec 27
  masks : BitVec 27
  enable : Bool
  deriving DecidableEq, Repr

/-- All clear and off (R156). -/
def Alerts.atReset : Alerts := ⟨0#27, 0#27, false⟩

/-- The part clock (R11): milliseconds, sub-second count 0..999, seconds. -/
structure Clock where
  ms : Word
  sub : Nat
  sec : Word
  deriving DecidableEq, Repr

/-- The commissioning array: an image with its check word, or what an interrupted or failed SAVE leaves, of which the spec says
only that its sum is not met (R170). -/
inductive CommArray
  | image (img : Image) (check : Word)
  | torn
  deriving DecidableEq, Repr

/-! ### The state of the part -/

structure State where
  nodes : PerNode NodeRec
  groups : PerGroup GroupRec
  supervisorPort : Port
  nodePorts : PerNode Port
  exchanges : PerNode ExchangeSlot
  store : Store
  queue : List NodeId
  channels : PerChan (Option Binding)
  monitor : Vector MonChannel 16
  alerts : Alerts
  active : Plan
  staged : Plan
  array : CommArray
  /-- The image of the SAVE in progress (R170). -/
  saving : Option Image
  clock : Clock
  /-- The RESET input is asserted (R164). -/
  resetAsserted : Bool
  /-- The supply is present (R170, row SUPPLY_LOSS). -/
  powered : Bool
  /-- The commands that wait, first in first out. -/
  pending : List Instr
  deriving DecidableEq, Repr

/-- The state right after power-on reset with the commissioning array as delivered (R5, R9, R77, R118, R148, R156, R164, R169):
the empty plan, so no node is present. Supply present, RESET input released, no command waiting. A command comes to run from
here when the outside puts it into `pending` (log entry 24). -/
def State.reset : State where
  nodes := .const NodeRec.atReset
  groups := .const GroupRec.atReset
  supervisorPort := Port.atReset
  nodePorts := .const Port.atReset
  exchanges := .const ExchangeSlot.empty
  store := Store.empty
  queue := []
  channels := ⟨none, none⟩
  monitor := Vector.replicate 16 (MonChannel.cleared MonSettings.default)
  alerts := Alerts.atReset
  active := Plan.empty
  staged := Plan.empty
  array := .image Image.delivered Image.delivered.checkWord
  saving := none
  clock := ⟨0#32, 0, 0#32⟩
  resetAsserted := false
  powered := true
  pending := []

end Sys2Proof.Machine
end

