-- ==== Sys2Proof/Machine/Ops.lean ====
section
/-! DEFINITION. The named operations over the state that every block uses: tables, records, timers, points in time, the plan as the
blocks read it, links and their exchange slots, and the forming of frames. -/

namespace Sys2Proof.Machine

/-! ### Tables -/

def PerNode.get {α : Type} (t : PerNode α) : NodeId → α
  | .n1 => t.n1 | .n2 => t.n2 | .n3 => t.n3 | .n4 => t.n4 | .n5 => t.n5 | .n6 => t.n6 | .n7 => t.n7 | .n8 => t.n8

def PerNode.set {α : Type} (t : PerNode α) (n : NodeId) (a : α) : PerNode α :=
  match n with
  | .n1 => { t with n1 := a } | .n2 => { t with n2 := a } | .n3 => { t with n3 := a } | .n4 => { t with n4 := a }
  | .n5 => { t with n5 := a } | .n6 => { t with n6 := a } | .n7 => { t with n7 := a } | .n8 => { t with n8 := a }

/-- The table whose entry at node n is `f n`. -/
def PerNode.ofFn {α : Type} (f : NodeId → α) : PerNode α := ⟨f .n1, f .n2, f .n3, f .n4, f .n5, f .n6, f .n7, f .n8⟩

def PerGroup.get {α : Type} (t : PerGroup α) : GroupId → α
  | .g1 => t.g1 | .g2 => t.g2 | .g3 => t.g3 | .g4 => t.g4

def PerGroup.set {α : Type} (t : PerGroup α) (g : GroupId) (a : α) : PerGroup α :=
  match g with
  | .g1 => { t with g1 := a } | .g2 => { t with g2 := a } | .g3 => { t with g3 := a } | .g4 => { t with g4 := a }

/-- The table whose entry at group g is `f g`. -/
def PerGroup.ofFn {α : Type} (f : GroupId → α) : PerGroup α := ⟨f .g1, f .g2, f .g3, f .g4⟩

def PerChan.get {α : Type} (t : PerChan α) : ChanId → α
  | .c0 => t.c0 | .c1 => t.c1

def PerChan.set {α : Type} (t : PerChan α) (c : ChanId) (a : α) : PerChan α :=
  match c with
  | .c0 => { t with c0 := a } | .c1 => { t with c1 := a }

/-- The table whose entry at channel c is `f c`. -/
def PerChan.ofFn {α : Type} (f : ChanId → α) : PerChan α := ⟨f .c0, f .c1⟩

/-! ### Records of the state -/

def State.node (s : State) (n : NodeId) : NodeRec := s.nodes.get n

def State.group (s : State) (g : GroupId) : GroupRec := s.groups.get g

def State.chan (s : State) (c : ChanId) : Option Binding := s.channels.get c

def State.exchange (s : State) (n : NodeId) : ExchangeSlot := s.exchanges.get n

def State.port (s : State) : Link → Port
  | .supervisor => s.supervisorPort
  | .node n => s.nodePorts.get n

def State.setNode (s : State) (n : NodeId) (r : NodeRec) : State := { s with nodes := s.nodes.set n r }

def State.modNode (s : State) (n : NodeId) (f : NodeRec → NodeRec) : State := s.setNode n (f (s.node n))

def State.setGroup (s : State) (g : GroupId) (r : GroupRec) : State := { s with groups := s.groups.set g r }

def State.modGroup (s : State) (g : GroupId) (f : GroupRec → GroupRec) : State := s.setGroup g (f (s.group g))

def State.setChan (s : State) (c : ChanId) (b : Option Binding) : State := { s with channels := s.channels.set c b }

def State.setExchange (s : State) (n : NodeId) (e : ExchangeSlot) : State := { s with exchanges := s.exchanges.set n e }

def State.setPort (s : State) (l : Link) (p : Port) : State :=
  match l with
  | .supervisor => { s with supervisorPort := p }
  | .node n => { s with nodePorts := s.nodePorts.set n p }

def State.modPort (s : State) (l : Link) (f : Port → Port) : State := s.setPort l (f (s.port l))

def State.setStore (s : State) (st : Store) : State := { s with store := st }

def State.setQueue (s : State) (q : List NodeId) : State := { s with queue := q }

/-! ### Timers and points in time -/

/-- A timer started with d ms expires at the (d + 1)-th advance after its start (R14). -/
def Timer.start (d : Nat) : Timer := some (d + 1)

/-- One advance of the millisecond time base. A timer that is due stays due until its expiry is taken (log entry 8). -/
def Timer.tick : Timer → Timer
  | none => none
  | some k => some (k - 1)

/-- The expiry of the timer can be taken. -/
def Timer.due (t : Timer) : Bool := t == some 0

/-- R13: t is in the past or is the present moment when T − t, modulo 2^32, is below 2^31. -/
def reached (t now : Word) : Bool := decide ((now - t).toNat < 2 ^ 31)

/-- R13: t lies in the past, and is not the present moment. -/
def strictlyPast (t now : Word) : Bool := reached t now && t != now

/-- Two points compared by their distance from the current time (R13, R97): the one further in the past, or less far in the
future, is the earlier. -/
def earlier (t u now : Word) : Bool := decide ((now - u).toInt < (now - t).toInt)

/-- A number of seconds as milliseconds. -/
def msOfSeconds (d : Nat) : Word := BitVec.ofNat 32 (d * 1000)

/-- The lapse time 16 ms × 2^e (R19). -/
def NodePlan.lapseMs (p : NodePlan) : Nat := 16 * 2 ^ p.lapseExp

/-- The boot window and acquire limit, in steps of 100 ms (R26, R35). -/
def NodePlan.bootMs (p : NodePlan) : Nat := p.bootWindow * 100

/-- The warm settle time, in steps of 100 ms (R46). -/
def NodePlan.warmSettleMs (p : NodePlan) : Nat := p.warmSettle * 100

/-- The cold settle time, in seconds (R44). -/
def NodePlan.coldSettleMs (p : NodePlan) : Nat := p.coldSettle * 1000

/-- The stable time, in seconds (R30). -/
def NodePlan.stableMs (p : NodePlan) : Nat := p.stable * 1000

/-! ### The plan as the blocks read it -/

/-- The active plan's items of node n (R6). -/
def State.nodePlan (s : State) (n : NodeId) : NodePlan := s.active.nodes.get n

/-- The active plan's items of group g (R10). -/
def State.groupPlan (s : State) (g : GroupId) : GroupPlan := s.active.groups.get g

/-- The present field of node record n (R2). -/
def State.present (s : State) (n : NodeId) : Bool := (s.nodePlan n).present

/-- The group item of a plan for a present node; absent otherwise (R2). -/
def Plan.groupOf (p : Plan) (n : NodeId) : Option GroupId :=
  if (p.nodes.get n).present then some (p.nodes.get n).group else none

/-- The group field of node record n (R2). -/
def State.groupOf (s : State) (n : NodeId) : Option GroupId := s.active.groupOf n

/-- The members of group g, in increasing node number (R7). -/
def Plan.members (p : Plan) (g : GroupId) : List NodeId := NodeId.all.filter fun n => p.groupOf n = some g

/-- The initial duty node of group g: the member whose initial role is DUTY (R7). -/
def Plan.initialDuty (p : Plan) (g : GroupId) : Option NodeId :=
  (p.members g).find? fun n => (p.nodes.get n).role = .duty

/-- The member of group g other than n. -/
def Plan.otherMember (p : Plan) (g : GroupId) (n : NodeId) : Option NodeId := (p.members g).find? fun m => m ≠ n

/-- The partner of node n: the other member of its group, if it has one (R50). -/
def State.partner (s : State) (n : NodeId) : Option NodeId := (s.groupOf n).bind fun g => s.active.otherMember g n

/-- The role of node n, read from the record of its group (R2). -/
def State.roleOf (s : State) (n : NodeId) : Option Role :=
  (s.groupOf n).bind fun g =>
    if (s.group g).duty = some n then some .duty
    else if (s.group g).standby = some n then some .standby
    else none

/-- A node is in service while it is in RUNNING or QUIET (01 section 1.3). -/
def NodeState.inService : NodeState → Bool
  | .running | .quiet => true
  | .offline | .unknown | .reset | .boot | .queued | .restoring | .settling | .halted => false

/-- The group's deadline runs (R8). -/
def GroupState.inHold : GroupState → Bool
  | .held | .unserved => true
  | .vacant | .pending | .served | .takenOver => false

/-- The groups of the members of a plan, as a predicate: some member of group g is in UNKNOWN. -/
def State.someUnknown (s : State) (g : GroupId) : Bool :=
  (s.active.members g).any fun n => (s.node n).state = .unknown

/-- The age of a commit time against the seconds counter, modulo 2^32 (R12). -/
def State.age (s : State) (time : Word) : Nat := (s.clock.sec - time).toNat

/-! ### Links -/

/-- A block forms a frame for a link, after the frames already formed (R162). While the RESET input is asserted the transmitters
stay idle, and the release of the input drops what was formed (R164), so nothing is recorded then (log entry 4). -/
def State.send (s : State) (l : Link) (f : Frame) : State :=
  if s.resetAsserted then s else s.modPort l fun p => { p with sent := p.sent ++ [f] }

/-- The REPLY to a request of kind k (R162). -/
def State.reply (s : State) (l : Link) (k : Kind) (r : Result) (b : Body := .none) : State := s.send l (.reply k.code r b)

/-- The owner of a request that takes time tells the link interface of its beginning (R160). -/
def State.beginRequest (s : State) (l : Link) (k : Kind) : State := s.modPort l fun p => { p with inProgress := some k }

/-- The owner tells the link interface that the request in progress has ended (R160). -/
def State.endRequest (s : State) (l : Link) : State := s.modPort l fun p => { p with inProgress := none }

/-- The exchange slot of link n is filled, and the answer timer started with the answer time read now (R161). -/
def State.startExchange (s : State) (n : NodeId) (e : Exchange) : State :=
  s.setExchange n ⟨some e, .start s.active.answerTime⟩

/-- The exchange slot of link n is emptied and its answer timer cancelled (R161). -/
def State.endExchange (s : State) (n : NodeId) : State := s.setExchange n .empty

/-! ### Events inside the part -/

/-- An event of the part itself (an expiry, a completion, a point reached, a tick) happens only with the supply present
(log entry 7). -/
def State.whenPowered (s : State) (f : State → State) : State := if s.powered then f s else s

/-- What a frame of a node kind does: its link is a node link, once R159 check 2 has passed. -/
def onNode (l : Link) (f : NodeId → State → State) : State → State :=
  match l with
  | .node n => f n
  | .supervisor => id

end Sys2Proof.Machine
end

