-- ==== Sys2Proof/Machine/Flags.lean ====
section
/-! DEFINITION. The alert unit's flags and the ALERT line (09). -/

namespace Sys2Proof.Machine

/-- The alert flags (09 section 9.1). -/
inductive Alert
  | lapse | halted | held | unserved | takeover | damaged | reclaim | poolFull | linkFault | planFault | coldStart
  | channel (c : Fin 16)
  deriving DecidableEq, Repr

/-- The place of a flag in the table of 09 section 9.1 and its bit in the 4-octet fields (10 section 10.6). -/
def Alert.bit : Alert → Nat
  | .lapse => 0 | .halted => 1 | .held => 2 | .unserved => 3 | .takeover => 4 | .damaged => 5 | .reclaim => 6
  | .poolFull => 7 | .linkFault => 8 | .planFault => 9 | .coldStart => 10
  | .channel c => 11 + c.val

/-- The field in which only this flag stands. -/
def Alert.mark (a : Alert) : BitVec 27 := 1#27 <<< a.bit

/-- The flag is set. -/
def State.flag (s : State) (a : Alert) : Bool := s.alerts.flags.getLsbD a.bit

/-- A block reports an event: its flag is set, whatever its mask and the global enable (R149). -/
def State.raise (s : State) (a : Alert) : State :=
  { s with alerts := { s.alerts with flags := s.alerts.flags ||| a.mark } }

/-- R150: the line is asserted while the global enable is on and a flag whose mask is clear is set, and released in every other
case and while the RESET input is asserted. Computed, so that it follows every step. -/
def State.alertLine (s : State) : Bool :=
  !s.resetAsserted && s.alerts.enable && (s.alerts.flags &&& ~~~s.alerts.masks) != 0#27

end Sys2Proof.Machine
end

