-- ==== Sys2Proof/Machine/Operands.lean ====
section
/-! DEFINITION. Every operand form of the frame commands: the fields of the payloads at the places R163 gives them, the codes of
their values, and the checks by which the link interface judges an arriving frame (R159, R160). -/

namespace Sys2Proof.Machine

/-! ### Fields of a payload -/

/-- An octet of a payload as a number. -/
def octetAt (p : List Byte) (i : Nat) : Nat := (p.getD i 0#8).toNat

/-- A two-octet field, least significant octet first. -/
def field2 (p : List Byte) (i : Nat) : Nat := octetAt p i + 256 * octetAt p (i + 1)

/-- A four-octet field, least significant octet first. -/
def field4 (p : List Byte) (i : Nat) : Word :=
  p.getD (i + 3) 0#8 ++ p.getD (i + 2) 0#8 ++ p.getD (i + 1) 0#8 ++ p.getD i 0#8

/-- n words from octet i on. -/
def fieldWords (p : List Byte) (i n : Nat) : List Word := (List.range n).map fun k => field4 p (i + 4 * k)

/-- Boot reason of a HELLO. A value outside the four is read as SOFTWARE (03 section 3.6). -/
def bootReason (p : List Byte) : BootReason :=
  match octetAt p 0 with
  | 0 => .power
  | 1 => .resetLine
  | 2 => .ownWatchdog
  | _ => .software

/-- Warm capable flag of a HELLO. A value other than 1 reads as no (R163). -/
def warmCapable (p : List Byte) : Bool := octetAt p 1 = 1

/-- Role claim of a BEAT. A value other than DUTY and STANDBY reads as NONE (R17). -/
def roleClaim (p : List Byte) : Option Role :=
  match octetAt p 0 with
  | 1 => some .duty
  | 2 => some .standby
  | _ => none

/-- The readings of a BEAT, as channel number and value, in the order in which they stand (R139). -/
def readings (p : List Byte) : List (Nat × Nat) :=
  (List.range (octetAt p 1)).map fun k => (octetAt p (2 + 3 * k), field2 p (3 + 3 * k))

/-- Kind and base generation of an OPEN. For a FULL the base is not read (05 section 5.1). None for a kind code that is neither. -/
def openKind (p : List Byte) : Option RecKind :=
  match octetAt p 0 with
  | 0 => some .full
  | 1 => some (.delta (field4 p 1))
  | _ => none

/-- Status of an ACK: OK, NOT_READY, and every other value taken as CRC_BAD (R107). -/
inductive AckStatus
  | ok | crcBad | notReady
  deriving DecidableEq, Repr

def ackStatus (p : List Byte) : AckStatus :=
  match octetAt p 2 with
  | 0 => .ok
  | 2 => .notReady
  | _ => .crcBad

/-- Answer of a TAKEN: a value other than ACCEPT is taken as DECLINE (R130). -/
def takenAccepts (p : List Byte) : Bool := octetAt p 1 = 1

/-- A yes-or-no field whose other values are refused. -/
def boolField (p : List Byte) (i : Nat) : Option Bool :=
  match octetAt p i with
  | 0 => some false
  | 1 => some true
  | _ => none

/-- Mode field of LIMIT. -/
def modeField (p : List Byte) (i : Nat) : Option MonMode :=
  match octetAt p i with
  | 0 => some .off
  | 1 => some .comparator
  | 2 => some .twoTimes
  | _ => none

/-- The settings are valid: R138. -/
def MonSettings.valid (m : MonSettings) : Bool :=
  decide (m.high ≤ Config.maxReading) && decide (m.hyst < m.high) && [1, 2, 4, 6].contains m.faultCount

/-- The monitor channel that a number names; none above 15. -/
def channelOf (k : Nat) : Option (Fin 16) := if h : k < 16 then some ⟨k, h⟩ else none

/-- The settings a LIMIT carries; none when the table of R145 refuses one of them. -/
def limitSettings (p : List Byte) : Option MonSettings := do
  let g ← GroupId.ofNum (octetAt p 1)
  let m ← modeField p 2
  let e ← boolField p 8
  let c : MonSettings := ⟨g, m, field2 p 3, field2 p 5, octetAt p 7, e⟩
  if c.valid then some c else none

/-! ### The link interface judges an arriving frame (R159, R160) -/

end Sys2Proof.Machine

namespace Sys2Proof

open Machine (octetAt)

/-- BEAT, ACK and TAKEN are never answered (R162). -/
def Kind.silent : Kind → Bool
  | .beat | .ack | .taken => true
  | _ => false

/-- The kinds that are always taken on a busy node link (R160). -/
def Kind.alwaysTaken : Kind → Bool
  | .beat | .hello | .ack | .taken => true
  | _ => false

/-- LEN is the length the layout gives for the kind and its count fields (R159 check 4, R163). -/
def Kind.lengthOk (k : Kind) (p : List Byte) : Bool :=
  match k with
  | .hello | .taken | .restart => p.length = 2
  | .beat => decide (octetAt p 1 ≤ 4) && p.length = 2 + 3 * octetAt p 1
  | .quiet | .awake | .askRestart | .resumed | .who | .drop | .readStore | .readAlerts | .peekNext | .apply | .save
  | .resync => p.length = 0
  | .openRecord | .peekAt => p.length = 7
  | .block => decide (1 ≤ octetAt p 1) && decide (octetAt p 1 ≤ 64) && p.length = 2 + 4 * octetAt p 1
  | .commit => p.length = 4
  | .ack => p.length = 3
  | .readNode | .readGroup | .halt | .release => p.length = 1
  | .limit => p.length = 9
  | .mask => p.length = 5
  | .set => p.length = 6

end Sys2Proof

namespace Sys2Proof.Machine

/-- The node of a node link is present (R159 check 3). -/
def State.linkPresent (s : State) : Link → Bool
  | .supervisor => true
  | .node n => s.present n

/-- What becomes of an arriving frame. -/
inductive Intake
  | lost
  | damaged
  | ignored
  | refused (r : Result)
  | accepted
  deriving DecidableEq, Repr

/-- A failed check of R159: a REPLY with its code, but a BEAT, ACK or TAKEN is ignored. -/
def failedCheck (k : Kind) (r : Result) : Intake := if k.silent then .ignored else .refused r

/-- Receivers take something: the supply is present and the RESET input is not asserted (R164). -/
def State.receiving (s : State) : Bool := s.powered && !s.resetAsserted

/-- R159: the checks in their order. A frame with more than 264 payload octets is a damaged one (R157). -/
def State.judge (s : State) (k : Kind) (l : Link) (p : List Byte) : Intake :=
  if !s.receiving then .lost
  else if Config.maxPayload < p.length then .damaged
  else if !k.allowedOn l then failedCheck k .badKind
  else if !s.linkPresent l then failedCheck k .notPresent
  else if !k.lengthOk p then failedCheck k .badLength
  else if (s.port l).inProgress.isSome && !k.alwaysTaken then .refused .busy
  else .accepted

/-- R158: a damaged frame is discarded whole, the link's error count raised (255 stays), and LINK_FAULT set. -/
def State.discardFrame (s : State) (l : Link) : State :=
  (s.modPort l fun q => { q with errors := min Config.maxErrors (q.errors + 1) }).raise .linkFault

/-- A frame of kind k arrives on link l: the link interface judges it, and its owner takes it if it passes (R159). -/
def State.receive (s : State) (k : Kind) (l : Link) (p : List Byte) (owner : State → State) : State :=
  match s.judge k l p with
  | .lost | .ignored => s
  | .damaged => s.discardFrame l
  | .refused r => s.reply l k r
  | .accepted => owner s

end Sys2Proof.Machine
end

