-- ==== Sys2Proof/Machine/Links.lean ====
section
/-! DEFINITION. Frames that reach no owner: FRAME_DAMAGED (R158) and BAD_KIND_FRAME (R159 checks 1 and 2). -/

namespace Sys2Proof.Machine

/-- FRAME_DAMAGED (R158). A receiver that takes nothing counts nothing (R164). -/
def execFrameDamaged (link : Link) (s : State) : Host.Outcome State Fault Refusal :=
  .next (if s.receiving then s.discardFrame link else s)

/-- The KIND octet is that of a kind which is never answered (R162). -/
def silentCode (c : Byte) : Bool :=
  match Kind.ofCode c with
  | some k => k.silent
  | none => false

/-- R159 checks 1 and 2: an intact frame of unknown kind, or of a kind not allowed on its link, is answered BAD_KIND, which echoes
its KIND. A BEAT, ACK or TAKEN is ignored. A KIND that passes both checks makes no such frame, and does nothing here (log entry
20). -/
def State.badKind (s : State) (l : Link) (c : Byte) : State :=
  if !s.receiving || kindAccepted l c || silentCode c then s else s.send l (.reply c .badKind .none)

/-- BAD_KIND_FRAME (R159). -/
def execBadKindFrame (link : Link) (kind : Byte) (s : State) : Host.Outcome State Fault Refusal :=
  .next (s.badKind link kind)

end Sys2Proof.Machine
end

