-- ==== Sys2Proof/Machine/Store.lean ====
section
/-! DEFINITION. The checkpoint store (04): the block pool, the free list, the directory, committed lists, sets, removal of records,
trimming, reclaim, damage discard and pins. -/

namespace Sys2Proof.Machine

/-! ### The block pool -/

/-- A read of a word returns its contents and whether it is sound (R58). -/
def Pool.read : Pool → Nat → PoolWord
  | [], _ => .zero
  | (a, w) :: rest, k => if a = k then w else Pool.read rest k

/-- A write of a word, keeping the canonical form. -/
def Pool.write : Pool → Nat → PoolWord → Pool
  | [], k, w => if w = .zero then [] else [(k, w)]
  | (a, v) :: rest, k, w =>
    if k < a then (if w = .zero then (a, v) :: rest else (k, w) :: (a, v) :: rest)
    else if k = a then (if w = .zero then rest else (k, w) :: rest)
    else (a, v) :: Pool.write rest k w

/-- The canonical form: addresses strictly rising, no entry equal to what an unlisted word reads as. -/
abbrev Memory.wf (p : Pool) : Prop := p.Pairwise (fun a b => a.1 < b.1) ∧ ∀ e ∈ p, e.2 ≠ PoolWord.zero

/-- The address of word i of block b. -/
def wordAddr (b i : Nat) : Nat := Config.blockWords * b + i

/-- Words written from an address on. -/
def Pool.writeFrom (p : Pool) (a : Nat) : List PoolWord → Pool
  | [] => p
  | w :: ws => Pool.writeFrom (p.write a w) (a + 1) ws

/-- The 64 words that an allocation writes: the carried words, then words of value 0, every one of them sound (R60, R83). -/
def blockContents (ws : List Word) : List PoolWord :=
  (List.range Config.blockWords).map fun i => ⟨ws.getD i 0#32, true⟩

/-- The allocation writes a block in full (R60). -/
def Pool.writeBlock (p : Pool) (b : Nat) (ws : List Word) : Pool := p.writeFrom (wordAddr b 0) (blockContents ws)

/-! ### Records -/

/-- The number of blocks that w words take: w / 64 rounded up (04 section 4.1). -/
def blocksFor (w : Nat) : Nat := (w + (Config.blockWords - 1)) / Config.blockWords

/-- The last index of a record (R81). -/
def Record.lastIndex (r : Record) : Nat := blocksFor r.declared - 1

/-- The count that block `index` carries: 64, or the remainder at the last index (R81). -/
def Record.wordsAt (r : Record) (index : Nat) : Nat :=
  if index < r.lastIndex then Config.blockWords else r.declared - Config.blockWords * r.lastIndex

/-- The next expected index is the number of blocks in the block list (R81). -/
def Record.nextIndex (r : Record) : Nat := r.blocks.length

/-- The pool address of word k of a record, through its block list (04 section 4.1). -/
def Record.addr (r : Record) (k : Nat) : Nat := wordAddr (r.blocks.getD (k / Config.blockWords) 0) (k % Config.blockWords)

/-- n words of a record from offset o, as the pool holds them. -/
def Record.wordsFrom (r : Record) (p : Pool) (o n : Nat) : List PoolWord :=
  (List.range n).map fun i => p.read (r.addr (o + i))

/-- The pool addresses of words 0 to w − 1 of a record, in the order in which the commit pass and VERIFY read them (R87, R104). -/
def Record.reading (r : Record) : List Nat := (List.range r.declared).map r.addr

/-- A word as a pass reads it: as it was when the pass read it before a disturbance, else as the pool holds it. -/
def Pool.readAs (p : Pool) (seen : SeenWords) (a : Nat) : PoolWord :=
  match seen.find? fun e => e.1 = a with
  | some e => e.2
  | none => p.read a

/-- Every word of a record, as a pass reads it (R87, R104). -/
def Record.words (r : Record) (p : Pool) (seen : SeenWords) : List PoolWord := r.reading.map (p.readAs seen)

/-- The place of the first damaged word. -/
def firstDamaged (ws : List PoolWord) : Option Nat := ws.findIdx? fun w => !w.sound

/-- The sum of the words as read, modulo 2^32 (R87). -/
def sumRead (ws : List PoolWord) : Word := wordSum (ws.map PoolWord.value)

def Record.isCommitted (r : Record) : Bool :=
  match r.status with
  | .committed _ _ => true
  | .opened | .verifying _ _ => false

def Record.isVerifying (r : Record) : Bool :=
  match r.status with
  | .verifying _ _ => true
  | .opened | .committed _ _ => false

def Record.isFull (r : Record) : Bool :=
  match r.kind with
  | .full => true
  | .delta _ => false

/-- The commit time of a committed record. -/
def Record.time (r : Record) : Word :=
  match r.status with
  | .committed _ t => t
  | .opened | .verifying _ _ => 0#32

/-- The record belongs to the set of the FULL of generation g: it is that FULL, or a DELTA based on it (R64). -/
def Record.inSetOf (r : Record) (g : Word) : Bool :=
  match r.kind with
  | .full => r.gen = g
  | .delta b => b = g

/-! ### The directory -/

/-- A directory entry: its slot and its descriptor. -/
abbrev Entry := Slot × Record

/-- The descriptors held, in slot order. -/
def Store.entries (st : Store) : List Entry := (List.finRange 40).filterMap fun i => (st.dir[i]).map fun r => (i, r)

/-- Increasing order of generation. -/
def byGeneration (es : List Entry) : List Entry := es.insertionSort fun a b => a.2.gen.toNat ≤ b.2.gen.toNat

/-- All records of a node, in increasing generation. -/
def Store.recordsOf (st : Store) (n : NodeId) : List Entry := byGeneration (st.entries.filter fun e => e.2.node = n)

/-- The committed list of a node (R63). -/
def Store.committed (st : Store) (n : NodeId) : List Entry := (st.recordsOf n).filter fun e => e.2.isCommitted

/-- The committed FULL records of a node, oldest generation first. -/
def Store.fulls (st : Store) (n : NodeId) : List Entry := (st.committed n).filter fun e => e.2.isFull

/-- The node's newest committed FULL (R64). -/
def Store.newestFull (st : Store) (n : NodeId) : Option Entry := (st.fulls n).getLast?

/-- The set of the FULL of generation g: that FULL, then its DELTAs in generation order (R64). -/
def Store.setOf (st : Store) (n : NodeId) (g : Word) : List Entry := (st.committed n).filter fun e => e.2.inSetOf g

/-- The restore set: the set of the newest committed FULL, or nothing (R64). -/
def Store.restoreSet (st : Store) (n : NodeId) : List Entry :=
  match st.newestFull n with
  | some f => st.setOf n f.2.gen
  | none => []

/-- The newest committed generation of a node, 0 if its committed list is empty (R79). -/
def Store.newestGen (st : Store) (n : NodeId) : Word :=
  match (st.committed n).getLast? with
  | some e => e.2.gen
  | none => 0#32

/-- The FULLs of a node whose sets are older than its newest FULL (R64). -/
def Store.olderFulls (st : Store) (n : NodeId) : List Entry := (st.fulls n).dropLast

/-- The lowest-numbered free slot (R61). -/
def Store.freeSlot (st : Store) : Option Slot := (List.finRange 40).find? fun i => st.dir[i].isNone

/-- The free count (R59). -/
def Store.freeCount (st : Store) : Nat := st.freeList.length

/-- The cursor points into the record of this node and generation (R75). -/
def Cursor.pointsInto (c : Cursor) (n : NodeId) (g : Word) : Bool := c.node = n && c.gen = g

/-! ### Removal (R66) -/

/-- The store's part of a removal: blocks to the tail of the free list, cursor cleared if it points into the record, slot freed. -/
def Store.remove (st : Store) (i : Slot) (r : Record) : Store :=
  { st with
    dir := st.dir.set i none
    freeList := st.freeList ++ r.blocks
    peek := st.peek.filter fun c => !c.pointsInto r.node r.gen }

/-- R66: the removal of the record in slot i, in one step. The committed list is computed from the directory, so freeing the slot
takes the record out of it. -/
def State.removeRecord (s : State) (i : Slot) : State :=
  match s.store.dir[i] with
  | none => s
  | some r =>
    (s.setStore (s.store.remove i r)).modNode r.node fun q =>
      { q with openRec := if q.openRec = some i then none else q.openRec }

/-- Several records removed in the order given. -/
def State.removeRecords (s : State) (slots : List Slot) : State := slots.foldl State.removeRecord s

/-- R65: a committed list of 5 records or more loses its oldest set, the set of the FULL of the lowest generation. -/
def State.trim (s : State) (n : NodeId) : State :=
  if Config.maxCommitted < (s.store.committed n).length then
    match (s.store.fulls n).head? with
    | some f => s.removeRecords ((s.store.setOf n f.2.gen).map Prod.fst)
    | none => s
  else s

/-! ### Reclaim (R70, R71) and allocation (R60) -/

/-- The reclaim candidates, each by its FULL, in the order of node number and then generation (R70). -/
def Store.candidates (st : Store) : List Entry :=
  NodeId.all.flatMap fun n => (st.olderFulls n).filter fun f => (st.setOf n f.2.gen).all fun e => !e.2.pinned

/-- The older of two candidates by the age of their commit times, the first of them where they tie (R70, log entry 15). -/
def State.olderCandidate (s : State) (best : Option Entry) (e : Entry) : Option Entry :=
  match best with
  | none => some e
  | some b => if s.age b.2.time < s.age e.2.time then some e else some b

/-- The candidate that reclaim removes: the one whose FULL has the oldest commit time, the lower node number and then the lower
generation deciding a tie (R70). -/
def State.reclaimChoice (s : State) : Option Entry := s.store.candidates.foldl s.olderCandidate none

/-- R71: the chosen set is removed whole, in generation order, and RECLAIM is raised. -/
def State.reclaim (s : State) (f : Entry) : State :=
  (s.removeRecords ((s.store.setOf f.2.node f.2.gen).map Prod.fst)).raise .reclaim

/-- R60: the head of the free list is written in full and appended to the record's block list, and the carried words are counted
as received (R83). -/
def Store.takeHead (st : Store) (i : Slot) (ws : List Word) : Store :=
  match st.freeList, st.dir[i] with
  | b :: rest, some r =>
    { st with
      freeList := rest
      pool := st.pool.writeBlock b ws
      dir := st.dir.set i (some { r with blocks := r.blocks ++ [b], received := r.received + ws.length }) }
  | _, _ => st

/-- R60: an allocation for the record in slot i. With the free list empty it reclaims first. Without a candidate it fails and
raises POOL_FULL, and nothing else changes. The flag says whether a block was taken. -/
def State.allocate (s : State) (i : Slot) (ws : List Word) : State × Bool :=
  if s.store.freeList = [] then
    match s.reclaimChoice with
    | none => (s.raise .poolFull, false)
    | some f => let s := s.reclaim f; (s.setStore (s.store.takeHead i ws), true)
  else (s.setStore (s.store.takeHead i ws), true)

/-! ### Damage discard (R68) and pins (R72) -/

/-- The records that the discard of a damaged record takes: all of its set if it is the FULL, else that DELTA and every later
DELTA of the set (R68). -/
def Store.discardSet (st : Store) (r : Record) : List Entry :=
  match r.kind with
  | .full => st.setOf r.node r.gen
  | .delta b => (st.setOf r.node b).filter fun e => !e.2.isFull && decide (r.gen.toNat ≤ e.2.gen.toNat)

/-- R68: the removal of a damaged record and its successors in the set. -/
def State.discardDamaged (s : State) (r : Record) : State := s.removeRecords ((s.store.discardSet r).map Prod.fst)

/-- The pin marks of the records that satisfy p are set to b. -/
def Store.markPins (st : Store) (p : Slot → Record → Bool) (b : Bool) : Store :=
  { st with dir := st.dir.mapFinIdx fun i o h => o.map fun r => if p ⟨i, h⟩ r then { r with pinned := b } else r }

/-- The store pins every record of a set (R72). -/
def State.pin (s : State) (slots : List Slot) : State := s.setStore (s.store.markPins (fun i _ => i ∈ slots) true)

/-- The store clears the pin of every record of a node (R72). -/
def State.unpin (s : State) (n : NodeId) : State := s.setStore (s.store.markPins (fun _ r => r.node = n) false)

/-- The record in a slot is changed. -/
def State.modRecord (s : State) (i : Slot) (f : Record → Record) : State :=
  s.setStore { s.store with dir := s.store.dir.set i ((s.store.dir[i]).map f) }

/-! ### Disturbances (R58) -/

/-- What a pass that reads the addresses `order`, in that order, keeps when the word at address a, which held w, is disturbed: that
word as it was, if the pass had read it. It had if the disturbance says so, or if it is known to have read this word or a later one
before an earlier disturbance; what it kept then stands. -/
def SeenWords.note (seen : SeenWords) (order : List Nat) (a : Nat) (w : PoolWord) (read : Bool) : SeenWords :=
  if a ∈ order ∧ (∀ e ∈ seen, e.1 ≠ a) ∧ (read = true ∨ ∃ e ∈ seen, order.idxOf a ≤ order.idxOf e.1) then seen ++ [(a, w)]
  else seen

/-- The pool addresses that VERIFY of a set reads, in position order (R104). -/
def Store.reading (st : Store) (set : List Slot) : List Nat :=
  set.flatMap fun i => match st.dir[i] with | some r => r.reading | none => []

/-- A record in VERIFYING keeps what its commit pass had read of the word at address a. -/
def Record.disturbed (r : Record) (p : Pool) (a : Nat) (read : Bool) : Record :=
  match r.status with
  | .verifying expected seen => { r with status := .verifying expected (seen.note r.reading a (p.read a) read) }
  | .opened | .committed _ _ => r

/-- A channel in VERIFY keeps what it had read of the word at address a. -/
def Binding.disturbed (b : Binding) (st : Store) (a : Nat) (read : Bool) : Binding :=
  if b.phase = .verify then { b with seen := b.seen.note (st.reading b.set) a (st.pool.read a) read } else b

/-- R58: the word at address a is disturbed. Its contents no longer agree with its parity check, and the passes under way keep what
they had read of it. That no disturbance leaves changed contents which still agree with the check, and so a sound word, is the
model's reading (log entry 34). -/
def State.disturb (s : State) (a : Nat) (d : Disturbance) : State :=
  { s with
    store := { s.store with
      dir := s.store.dir.map fun o => o.map fun r => r.disturbed s.store.pool a d.read
      pool := s.store.pool.write a ⟨d.left, false⟩ }
    channels := .ofFn fun c => (s.chan c).map fun b => b.disturbed s.store a d.read }

end Sys2Proof.Machine
end

