-- ==== Sys2Proof/Machine/Queue.lean ====
section
/-! DEFINITION. The restart queue and its order, the binding and unbinding of restore channels, and the arbiter (06 sections 6.1 and
6.2). -/

namespace Sys2Proof.Machine

/-! ### The order key (R97) -/

/-- The order key of a node, its number apart: class, and deadline or none (R97). -/
structure OrderKey where
  escalated : Bool
  deadline : Option Word
  deriving DecidableEq, Repr

/-- R97, read from the group record of the node's group at the moment of use: only a group's duty node has a class other than NORMAL
or, while the group is HELD or UNSERVED, a deadline. -/
def State.orderKey (s : State) (n : NodeId) : OrderKey :=
  match s.groupOf n with
  | none => ⟨false, none⟩
  | some g =>
    let r := s.group g
    if r.duty = some n then ⟨r.escalated, if r.state.inHold then r.deadline else none⟩ else ⟨false, none⟩

/-- R97: node a stands before node b. -/
def State.keyBefore (s : State) (a b : NodeId) : Bool :=
  let ka := s.orderKey a
  let kb := s.orderKey b
  if ka.escalated != kb.escalated then ka.escalated
  else
    match ka.deadline, kb.deadline with
    | some t, some u => if t = u then decide (a.num < b.num) else earlier t u s.clock.ms
    | some _, none => true
    | none, some _ => false
    | none, none => decide (a.num < b.num)

/-- A node is placed in a queue at the position its key gives (R98). -/
def State.placed (s : State) (q : List NodeId) (n : NodeId) : List NodeId := q.orderedInsert (fun a b => s.keyBefore a b) n

/-- R98: node n, which has entered QUEUED, is placed in the queue. -/
def State.enqueue (s : State) (n : NodeId) : State := s.setQueue (s.placed s.queue n)

/-- R100: node n, which has left QUEUED, is taken out. The other entries keep their order. -/
def State.dequeue (s : State) (n : NodeId) : State := s.setQueue (s.queue.erase n)

/-- R99: on a change of a group record, the group's members that stand in the queue are put back at the positions their new keys
give. The other entries keep their order. -/
def State.reorderGroup (s : State) (g : GroupId) : State :=
  let moved := s.queue.filter fun n => s.groupOf n = some g
  let stay := s.queue.filter fun n => s.groupOf n ≠ some g
  s.setQueue (moved.foldl s.placed stay)

/-- The whole queue in the order of its keys (R97: the order follows from the keys at every moment). -/
def State.resortQueue (s : State) : State := s.setQueue (s.queue.foldl s.placed [])

/-! ### Binding (R102) and unbinding (R103) -/

/-- R102: the head of the queue is bound to channel c, if the channel is IDLE and the queue holds a node: its restore set is pinned,
the node enters RESTORING and VERIFY begins. The group hold manager's part is "no effect" (R120). -/
def State.bindHead (s : State) (c : ChanId) : State :=
  match s.queue, s.chan c with
  | n :: rest, none =>
    let set := (s.store.restoreSet n).map Prod.fst
    (((s.setQueue rest).pin set).setChan c
        (some ⟨n, .verify, set, 0, 0, false, 0, none, []⟩)).modNode n fun r => { r with state := .restoring, channel := some c }
  | _, _ => s

/-- R102: the arbiter. With both channels IDLE the head goes to channel 0 and the next node to channel 1. -/
def State.arbiter (s : State) : State := (s.bindHead .c0).bindHead .c1

/-- The exchange slot holds a DATA. -/
def ExchangeSlot.holdsData (e : ExchangeSlot) : Bool :=
  match e.outstanding with
  | some (.data _ _) => true
  | _ => false

/-- R103 step 2: a DATA outstanding on link n is ended. -/
def State.endData (s : State) (n : NodeId) : State := if (s.exchange n).holdsData then s.endExchange n else s

/-- R103: channel c unbinds, and the arbiter runs in the same step. -/
def State.unbind (s : State) (c : ChanId) : State :=
  match s.chan c with
  | none => s
  | some b => ((((s.unpin b.node).endData b.node).setChan c none).modNode b.node fun r => { r with channel := none }).arbiter

/-- The generation of the FULL of the set being restored (R112, R115). -/
def State.fullGen (s : State) (b : Binding) : Word :=
  match b.set.head?.bind fun i => s.store.dir[i] with
  | some r => r.gen
  | none => 0#32

end Sys2Proof.Machine
end

