-- ==== Sys2Proof/Machine/Group.lean ====
section
/-! DEFINITION. The group hold manager (07): resolution of roles, the hold, takeover, and the roles given at resumption. -/

namespace Sys2Proof.Machine

/-! ### Sending TAKE (R128) -/

/-- The monitor's answer at a hold entry: some channel of the group with escalate yes is TRIPPED (R146). -/
def State.escalatingTripped (s : State) (g : GroupId) : Bool :=
  s.monitor.toList.any fun m => m.settings.escalate && m.settings.group = g && m.state = .tripped

/-- R128: the standby of group g, if it is eligible for TAKE. -/
def State.eligible (s : State) (g : GroupId) : Option NodeId :=
  if (s.group g).state.inHold && !(s.group g).outstanding then
    (s.group g).standby.filter fun n => (s.node n).state = .running
  else none

/-- R128: TAKE is sent to node n, the exchange registered and takeover outstanding set, in one step. -/
def State.sendTake (s : State) (g : GroupId) (n : NodeId) : State :=
  ((s.send (.node n) (.take g)).startExchange n (.take g)).modGroup g fun r => { r with outstanding := true }

/-- TAKE goes to an eligible standby, declined this hold or not: trigger 2 of R128. -/
def State.seekTakeover (s : State) (g : GroupId) : State :=
  match s.eligible g with
  | some n => s.sendTake g n
  | none => s

/-- TAKE goes to an eligible standby if declined this hold is no: triggers 1 and 3 of R128. -/
def State.seekUndeclined (s : State) (g : GroupId) : State := if (s.group g).declined then s else s.seekTakeover g

/-- The takeover point has passed: its reaching has been taken, or it lies strictly in the past (R126, R129, log entry 10). -/
def State.pointPassed (s : State) (g : GroupId) : Bool :=
  match (s.group g).point with
  | some t => (s.group g).pointTaken || strictlyPast t s.clock.ms
  | none => false

/-- R129: trigger 3, when the standby reaches RUNNING. -/
def State.standbyReachedRunning (s : State) (g : GroupId) : State :=
  if s.pointPassed g || (s.group g).escalated then s.seekUndeclined g else s

/-! ### The hold (R123, R124) -/

/-- R123, and the hold entry of R121: the deadline is counted from `base`, the group enters HELD, or passes straight on to UNSERVED,
and escalation and the triggers are evaluated. -/
def State.enterHold (s : State) (g : GroupId) (base : Word) : State :=
  let now := s.clock.ms
  let deadline := base + msOfSeconds (s.groupPlan g).holdTime
  let point := deadline - msOfSeconds (s.groupPlan g).margin
  let tripped := s.escalatingTripped g
  let s := s.modGroup g fun r =>
    { r with
      state := if reached deadline now then .unserved else .held
      deadline := some deadline
      point := some point
      pointTaken := reached point now
      escalated := tripped
      declined := false
      outstanding := false
      roleLater := none }
  let s := s.raise .held
  let s := if reached deadline now then s.raise .unserved else s
  let s := s.reorderGroup g
  if reached point now || tripped then s.seekTakeover g else s

/-- R124: the group leaves the hold for the state given. -/
def State.leaveHold (s : State) (g : GroupId) (after : GroupState) : State :=
  (s.modGroup g fun r =>
    { r with
      state := after
      deadline := none
      point := none
      pointTaken := false
      escalated := false
      declined := false }).reorderGroup g

/-! ### The end of a TAKE exchange (R130, R131, R135) -/

/-- R131: a decline. A duty node that waits on LATER is told ROLE DUTY, which ends the hold (R135). -/
def State.declineTake (s : State) (g : GroupId) : State :=
  let later := (s.group g).roleLater
  let s := s.modGroup g fun r => { r with outstanding := false, declined := true }
  match later with
  | some n =>
    if (s.group g).duty = some n then
      ((s.send (.node n) (.role g .duty)).modGroup g fun r => { r with roleLater := none }).leaveHold g .served
    else s
  | none => s

/-- R130: an accepted TAKE swaps the roles and ends the hold. A former duty node that waits on LATER is told ROLE STANDBY, and the
group passes on to SERVED (R135). -/
def State.acceptTake (s : State) (g : GroupId) : State :=
  let former := (s.group g).duty
  let later := (s.group g).roleLater
  let s := s.modGroup g fun r => { r with outstanding := false, duty := r.standby, standby := r.duty }
  let s := (s.leaveHold g .takenOver).raise .takeover
  match later with
  | some n =>
    if former = some n then
      (s.send (.node n) (.role g .standby)).modGroup g fun r => { r with roleLater := none, state := .served }
    else s
  | none => s

/-! ### Resolving the roles (R121, R122) -/

/-- A RUNNING node is told its role by a ROLE notice (R122). -/
def State.tellRole (s : State) (g : GroupId) (n : Option NodeId) (r : Role) : State :=
  match n with
  | some n => if (s.node n).state = .running then s.send (.node n) (.role g r) else s
  | none => s

/-- Both role fields are written in one step, the group enters SERVED, and the restore scheduler is told (R121, R99). -/
def State.assignRoles (s : State) (g : GroupId) (duty : NodeId) (standby : Option NodeId) : State :=
  (s.modGroup g fun r => { r with duty := some duty, standby := standby, state := .served }).reorderGroup g

/-- R121, first event: a duty claim. The claimant is sent no ROLE (R122). -/
def State.claimDuty (s : State) (g : GroupId) (n : NodeId) : State :=
  let other := s.active.otherMember g n
  (s.assignRoles g n other).tellRole g other .standby

/-- The moment from which a duty node that is designated out of service has its deadline counted (R8, R121). -/
def State.designationBase (s : State) (n : NodeId) : Word :=
  match (s.node n).lastBeat with
  | some t => if (s.node n).beatSincePending then t else s.clock.ms
  | none => s.clock.ms

/-- R121, second event, by the three cases of its table, with the ROLE notices of R122. -/
def State.resolveRoles (s : State) (g : GroupId) : State :=
  match s.active.initialDuty g with
  | none => s
  | some d =>
    let other := s.active.otherMember g d
    if (s.node d).state = .running then ((s.assignRoles g d other).tellRole g (some d) .duty).tellRole g other .standby
    else
      match other.filter fun o => (s.node o).state = .running with
      | some o => (s.assignRoles g o (some d)).tellRole g (some o) .duty
      | none => (s.assignRoles g d other).enterHold g (s.designationBase d)

/-- R121: the group is PENDING and no member is left in UNKNOWN. -/
def State.resolveIfKnown (s : State) (g : GroupId) : State :=
  if (s.group g).state = .pending && !s.someUnknown g then s.resolveRoles g else s

/-! ### Notices from the node sequencer (R120) -/

/-- Node n has left UNKNOWN by HELLO, acquire expiry or HALT. -/
def State.noteLeftUnknown (s : State) (n : NodeId) : State :=
  match s.groupOf n with
  | some g => s.resolveIfKnown g
  | none => s

/-- Node n has moved from UNKNOWN to RUNNING by a BEAT with this role claim (R27, R121, R122). -/
def State.noteAcquired (s : State) (n : NodeId) (claim : Option Role) : State :=
  match s.groupOf n with
  | none => s
  | some g =>
    if (s.group g).state = .pending then
      if claim = some .duty then s.claimDuty g n else s.resolveIfKnown g
    else if (s.group g).standby = some n then
      let s := if claim = some .standby then s else s.send (.node n) (.role g .standby)
      s.standbyReachedRunning g
    else s

/-- Node n has left RUNNING or QUIET for a state outside service (R31, R120). -/
def State.noteLeftService (s : State) (n : NodeId) : State :=
  match s.groupOf n with
  | none => s
  | some g =>
    let r := s.group g
    if r.duty = some n then
      if r.state = .served || r.state = .takenOver then s.enterHold g ((s.node n).lastBeat.getD s.clock.ms)
      else s.modGroup g fun q => { q with roleLater := if q.roleLater = some n then none else q.roleLater }
    else if r.standby = some n && r.outstanding then (s.endExchange n).declineTake g
    else s

/-- Node n has reached RUNNING by AWAKE or RESUMED: trigger 3 if it is the standby of its group (R23, R129, R133). -/
def State.noteStandbyRunning (s : State) (n : NodeId) : State :=
  match s.groupOf n with
  | some g => if (s.group g).standby = some n then s.standbyReachedRunning g else s
  | none => s

/-- The role given at the RESUMED of node n: R133, R134, R135, and LATER while the group is PENDING (R122). -/
def State.roleAtResume (s : State) (n : NodeId) : ResumeRole :=
  match s.groupOf n with
  | none => .later
  | some g =>
    let r := s.group g
    if r.standby = some n then .standby
    else if r.duty = some n then (if r.outstanding then .later else .duty)
    else .later

/-- What the RESUMED of node n does to its group, before the REPLY: R133 to R135. -/
def State.noteResumed (s : State) (n : NodeId) : State :=
  match s.groupOf n with
  | none => s
  | some g =>
    let r := s.group g
    if r.standby = some n then
      (if r.state = .takenOver then s.modGroup g fun q => { q with state := .served } else s)
    else if r.duty = some n then
      (if r.outstanding then s.modGroup g fun q => { q with roleLater := some n } else s.leaveHold g .served)
    else s

/-- R127: a channel with escalate yes has tripped and names group g. -/
def State.reportTrip (s : State) (g : GroupId) : State :=
  if (s.group g).state.inHold && !(s.group g).escalated then
    ((s.modGroup g fun r => { r with escalated := true }).reorderGroup g).seekTakeover g
  else s

end Sys2Proof.Machine
end

