-- ==== Sys2Proof/Machine/Node.lean ====
section
/-! DEFINITION. The node sequencer's shared operations (02, 03): leaving service, beginning a restart, attempts, HALTED, cause
classification, the start verdict and the outcomes of a restore. -/

namespace Sys2Proof.Machine

/-! ### Timers and states of a node -/

/-- Every node sequencer timer of the node is cancelled, and with SETTLING's timer its mark goes (R34, R48, R52, R54). -/
def NodeRec.stopTimers (r : NodeRec) : NodeRec :=
  { r with acquire := none, lapse := none, stable := none, pulse := none, boot := none, settle := none, mark := none }

/-- The node enters RUNNING from outside service: the lapse and stable timers start (R19, R30). -/
def NodeRec.enterRunning (r : NodeRec) (p : NodePlan) (now : Word) : NodeRec :=
  { r.stopTimers with
    state := .running
    lastBeat := some now
    nudgeSent := false
    lapse := .start p.lapseMs
    stable := .start p.stableMs }

/-- The record of a present node that enters UNKNOWN: the values of R5 and R26, with the acquire timer started. -/
def NodeRec.entersUnknown (p : NodePlan) : NodeRec :=
  { NodeRec.atReset with state := .unknown, acquire := .start p.bootMs }

/-! ### Leaving service (R31, R67, R91) -/

/-- R67, R91, R93: the node's open or verifying record is removed. A commit verification pass ends with it and frees the link. Its
COMMIT is answered BAD_STATE with the newest committed generation, unless the event is one that sends no reply. -/
def State.dropOpenRecord (s : State) (n : NodeId) (answered : Bool) : State :=
  match (s.node n).openRec with
  | none => s
  | some i =>
    if (s.store.dir[i]).any Record.isVerifying then
      let s := (s.removeRecord i).endRequest (.node n)
      if answered then s.reply (.node n) .commit .badState (.newest (s.store.newestGen n)) else s
    else s.removeRecord i

/-- R31 steps 1, 2 and 4: the node leaves RUNNING or QUIET. The group is told once the new state is written. -/
def State.leaveService (s : State) (n : NodeId) (answered : Bool) : State :=
  (s.modNode n fun r => { r with lapse := none, stable := none, nudgeSent := false }).dropOpenRecord n answered

/-! ### HALTED, attempts and restarts -/

/-- R54: every entry into HALTED. With reset drive yes the line is held asserted, with reset drive no it is released. -/
def State.enterHalted (s : State) (n : NodeId) : State :=
  (s.modNode n fun r =>
    { r.stopTimers with state := .halted, resetLine := (s.nodePlan n).resetDrive }).raise .halted

/-- R35: an entry into BOOT is an attempt; at the limit the node enters HALTED instead. -/
def State.enterBoot (s : State) (n : NodeId) : State :=
  let p := s.nodePlan n
  if (s.node n).attempts < p.attemptLimit then
    s.modNode n fun r =>
      { r.stopTimers with state := .boot, attempts := r.attempts + 1, resetLine := false, boot := .start p.bootMs }
  else s.enterHalted n

/-- R34: a restart begins with a drive reason, by a reset pulse or, with reset drive no, by an entry into BOOT. -/
def State.beginRestart (s : State) (n : NodeId) (why : DriveReason) : State :=
  let p := s.nodePlan n
  let s := s.modNode n fun r => { r.stopTimers with drive := some why }
  if p.resetDrive then s.modNode n fun r => { r with state := .reset, resetLine := true, pulse := .start p.pulse }
  else s.enterBoot n

/-- A restart that takes the node out of service (R20, R31, R51, R52). -/
def State.restartFromService (s : State) (n : NodeId) (why : DriveReason) : State :=
  ((s.leaveService n true).beginRestart n why).noteLeftService n

/-- R20, R24: a lapse in service. -/
def State.lapseNode (s : State) (n : NodeId) : State := (s.raise .lapse).restartFromService n .lapse

/-- R39: the drive reason of a restart after a settle expiry or a restore abort, from the last restart cause. -/
def reasonAfter : Option Cause → DriveReason
  | some .commanded => .commanded
  | some .requested => .requested
  | some .released => .released
  | _ => .lapse

/-- R39: a failed attempt after a HELLO. -/
def State.failedAfterHello (s : State) (n : NodeId) : State := s.beginRestart n (reasonAfter (s.node n).cause)

/-- The node enters SETTLING, warm or cold, with the settle time read now (R44, R46). -/
def State.enterSettling (s : State) (n : NodeId) (m : SettleMark) : State :=
  let p := s.nodePlan n
  s.modNode n fun r =>
    { r.stopTimers with
      state := .settling
      mark := some m
      settle := .start (match m with | .warm => p.warmSettleMs | .cold => p.coldSettleMs) }

/-- R50: the partner check of ASK_RESTART and of RESTART without force. -/
def State.partnerPasses (s : State) (n : NodeId) : Bool :=
  match s.partner n with
  | some m => (s.node m).state.inService
  | none => true

/-! ### HELLO (R40 to R45) -/

/-- R41: the restart cause from the boot reason, the drive reason held and the node's reset drive. -/
def classify (b : BootReason) (d : Option DriveReason) (resetDrive : Bool) : Cause :=
  match b, d with
  | .power, _ => .supply
  | .ownWatchdog, _ => .nodeWatchdog
  | .resetLine, some .lapse => .lapse
  | .resetLine, some .commanded => .commanded
  | .resetLine, some .requested => .requested
  | .resetLine, some .released => .released
  | .resetLine, none => .external
  | .software, some .commanded => if resetDrive then .unannounced else .commanded
  | .software, some .requested => if resetDrive then .unannounced else .requested
  | .software, some .released => if resetDrive then .unannounced else .released
  | .software, some .lapse => .unannounced
  | .software, none => .unannounced

/-- The bit of a cause in the warm-allowed set (R165). -/
def Cause.bit (c : Cause) : Nat :=
  match c with
  | .supply => 0 | .lapse => 1 | .commanded => 2 | .requested => 3 | .released => 4 | .external => 5 | .nodeWatchdog => 6
  | .unannounced => 7

/-- The warm age limit of the node's group (R10). -/
def State.warmAgeLimit (s : State) (n : NodeId) : Nat := (s.groupPlan (s.nodePlan n).group).warmAge

/-- R12, R42: the age of a set's newest record does not exceed the warm age limit of the node's group. -/
def State.youngEnough (s : State) (n : NodeId) (newest : Entry) : Bool := decide (s.age newest.2.time ≤ s.warmAgeLimit n)

/-- R42: the verdict, by the first of the four conditions that fails. Cause and warm capable are those of the node record, written
just before. -/
def State.verdict (s : State) (n : NodeId) : Verdict :=
  let r := s.node n
  let allowed := match r.cause with | some c => (s.nodePlan n).warmCauses.getLsbD c.bit | none => false
  if !allowed then .cold .causeNotWarm
  else if !r.warmCapable then .cold .notCapable
  else
    match (s.store.restoreSet n).getLast? with
    | none => .cold .noSet
    | some e => if s.youngEnough n e then .warm else .cold .tooOld

/-- R40 steps 2 to 4: cause written, drive reason cleared, warm capable written; the timers of the state left have ended. -/
def State.takeHello (s : State) (n : NodeId) (p : List Byte) : State :=
  let drive := (s.nodePlan n).resetDrive
  s.modNode n fun r =>
    { r.stopTimers with
      cause := some (classify (bootReason p) r.drive drive)
      drive := none
      warmCapable := warmCapable p }

/-- R43, R44: the verdict goes out in the REPLY, and the node enters QUEUED, or SETTLING cold with COLD_START raised. -/
def State.giveVerdict (s : State) (n : NodeId) : State :=
  let r := s.node n
  let v := s.verdict n
  let s := s.reply (.node n) .hello .ok (.hello v (r.cause.getD .unannounced) r.attempts)
  match v with
  | .warm => s.modNode n fun q => { q with state := .queued }
  | .cold _ => (s.enterSettling n .cold).raise .coldStart

/-- R98: a node that has entered QUEUED is placed in the queue, and the arbiter runs. -/
def State.queueIfWarm (s : State) (n : NodeId) : State :=
  if (s.node n).state = .queued then (s.enqueue n).arbiter else s

/-- R114: a HELLO in RESTORING ends the restore without a frame. -/
def State.silentAbort (s : State) (n : NodeId) : State :=
  match (s.node n).channel with
  | some c => s.unbind c
  | none => s

/-- R45 step 1: the state that an unannounced HELLO ends. The COMMIT of a pass that ends with it gets no reply (R91). -/
def State.endForHello (s : State) (n : NodeId) : State :=
  match (s.node n).state with
  | .running | .quiet => s.leaveService n false
  | .queued => s.dequeue n
  | .restoring => s.silentAbort n
  | .settling | .offline | .unknown | .reset | .boot | .halted => s

/-- R45: an unannounced restart. An attempt is counted; at the limit the node enters HALTED and the HELLO is answered BAD_STATE. -/
def State.unannounced (s : State) (n : NodeId) (p : List Byte) : State :=
  let wasInService := (s.node n).state.inService
  let s := (s.endForHello n).takeHello n p
  let s :=
    if (s.node n).attempts < (s.nodePlan n).attemptLimit then
      (s.modNode n fun r => { r with attempts := r.attempts + 1 }).giveVerdict n
    else (s.enterHalted n).reply (.node n) .hello .badState
  let s := if wasInService then s.noteLeftService n else s
  s.queueIfWarm n

/-- R40: a HELLO by the node's state. -/
def State.helloTaken (s : State) (n : NodeId) (p : List Byte) : State :=
  match (s.node n).state with
  | .unknown => (((s.takeHello n p).giveVerdict n).noteLeftUnknown n).queueIfWarm n
  | .boot => ((s.takeHello n p).giveVerdict n).queueIfWarm n
  | .running | .quiet | .queued | .restoring | .settling => s.unannounced n p
  | .reset | .halted | .offline => s.reply (.node n) .hello .badState

/-! ### HALT (R53, R115) -/

/-- R115: DONE ABORTED goes to a node in RESTORING, and its channel unbinds. -/
def State.abortForHalt (s : State) (n : NodeId) : State :=
  match (s.node n).channel with
  | none => s
  | some c =>
    match s.chan c with
    | some b => (s.send (.node n) (.done .aborted (s.fullGen b))).unbind c
    | none => s

/-- R53: what a HALT ends in the state it finds. Timers and the mark end in `enterHalted`. -/
def State.endForHalt (s : State) (n : NodeId) : State :=
  match (s.node n).state with
  | .running | .quiet => s.leaveService n true
  | .queued => s.dequeue n
  | .restoring => s.abortForHalt n
  | .offline | .unknown | .reset | .boot | .settling | .halted => s

/-- R53, R54: the node is halted, the REPLY sent, and the group told. -/
def State.haltNode (s : State) (n : NodeId) : State :=
  let was := (s.node n).state
  let s := ((s.endForHalt n).enterHalted n).reply .supervisor .halt .ok
  match was with
  | .running | .quiet => s.noteLeftService n
  | .unknown => s.noteLeftUnknown n
  | _ => s

end Sys2Proof.Machine
end

