-- ==== Sys2Proof/Machine/Monitor.lean ====
section
/-! DEFINITION. The condition monitor (08): readings, trips in the two modes, and LIMIT. -/

namespace Sys2Proof.Machine

def State.setMonitor (s : State) (c : Fin 16) (m : MonChannel) : State := { s with monitor := s.monitor.set c m }

/-- R141: the channel enters TRIPPED. It keeps its run counter at the fault count, its flag is set, and with escalate yes the trip is
reported to the group hold manager (R146). -/
def State.tripChannel (s : State) (c : Fin 16) (m : MonChannel) : State :=
  let s := (s.setMonitor c { m with state := .tripped, run := m.settings.faultCount }).raise (.channel c)
  if m.settings.escalate then s.reportTrip m.settings.group else s

/-- R141: a reading at a channel in CLEAR or COUNTING. -/
def State.countReading (s : State) (c : Fin 16) (m : MonChannel) (value : Nat) : State :=
  if m.settings.high < value then
    if m.run + 1 = m.settings.faultCount then s.tripChannel c m
    else s.setMonitor c { m with state := .counting, run := m.run + 1 }
  else s.setMonitor c { m with state := .clear, run := 0 }

/-- R142: a reading at a COMPARATOR channel in TRIPPED. Above high the flag is set if it is clear, which setting it does. -/
def State.comparatorReading (s : State) (c : Fin 16) (m : MonChannel) (value : Nat) : State :=
  if m.settings.high < value then s.raise (.channel c)
  else if value < m.settings.hyst then s.setMonitor c { m with state := .clear, run := 0 }
  else s

/-- R143: a reading at a TWO_TIMES channel in TRIPPED. At the return to CLEAR the flag is set if it is clear. -/
def State.twoTimesReading (s : State) (c : Fin 16) (m : MonChannel) (value : Nat) : State :=
  if value < m.settings.hyst then (s.setMonitor c { m with state := .clear, run := 0 }).raise (.channel c) else s

/-- R139: one reading, as channel number and value. It is ignored above channel 15, above 4095, or at a channel in mode OFF. -/
def State.takeReading (s : State) (r : Nat × Nat) : State :=
  match channelOf r.1 with
  | none => s
  | some c =>
    let m := s.monitor[c]
    if Config.maxReading < r.2 then s
    else
      match m.settings.mode with
      | .off => s
      | .comparator => if m.state = .tripped then s.comparatorReading c m r.2 else s.countReading c m r.2
      | .twoTimes => if m.state = .tripped then s.twoTimesReading c m r.2 else s.countReading c m r.2

/-- R139: the readings of a BEAT are taken in the order in which they stand, each whole before the next. -/
def State.takeReadings (s : State) (rs : List (Nat × Nat)) : State := rs.foldl State.takeReading s

/-- R145: LIMIT. -/
def State.limitTaken (s : State) (p : List Byte) : State :=
  match channelOf (octetAt p 0), limitSettings p with
  | some c, some settings =>
    let m := s.monitor[c]
    (s.setMonitor c (.cleared settings)).reply .supervisor .limit .ok (.oldChannel m.state m.run)
  | _, _ => s.reply .supervisor .limit .badValue

/-- LIMIT (R145). -/
def execLimit (link : Link) (payload : List Byte) (s : State) : Host.Outcome State Fault Refusal :=
  .next (s.receive .limit link payload fun s => s.limitTaken payload)

end Sys2Proof.Machine
end

