-- ==== Sys2Proof/Machine/NodeFrames.lean ====
section
/-! DEFINITION. The frames that concern a node's life and its group: HELLO, BEAT, QUIET, AWAKE, ASK_RESTART, RESUMED, WHO (02, 03, 09)
and TAKEN (07). -/

namespace Sys2Proof.Machine

/-- HELLO (R40). -/
def execHello (link : Link) (payload : List Byte) (s : State) : Host.Outcome State Fault Refusal :=
  .next (s.receive .hello link payload (onNode link fun n s => s.helloTaken n payload))

/-! ### BEAT (R17, R18, R27) -/

/-- R4, R18: the last beat time is written. -/
def State.noteBeat (s : State) (n : NodeId) : State :=
  s.modNode n fun r => { r with lastBeat := some s.clock.ms, beatSincePending := true }

/-- R18, R27: a BEAT by the node's state. -/
def State.beatTaken (s : State) (n : NodeId) (p : List Byte) : State :=
  let plan := s.nodePlan n
  match (s.node n).state with
  | .halted | .offline => s
  | .unknown =>
    (((s.noteBeat n).modNode n fun r => r.enterRunning plan s.clock.ms).takeReadings (readings p)).noteAcquired n (roleClaim p)
  | .running => ((s.noteBeat n).modNode n fun r => { r with lapse := .start plan.lapseMs }).takeReadings (readings p)
  | .quiet =>
    ((s.noteBeat n).modNode n fun r => { r with lapse := .start plan.lapseMs, nudgeSent := false }).takeReadings (readings p)
  | .reset | .boot | .queued | .restoring | .settling => (s.noteBeat n).takeReadings (readings p)

/-- BEAT (R18). -/
def execBeat (link : Link) (payload : List Byte) (s : State) : Host.Outcome State Fault Refusal :=
  .next (s.receive .beat link payload (onNode link fun n s => s.beatTaken n payload))

/-! ### QUIET and AWAKE (R22, R23) -/

/-- A TAKE is outstanding for the node's group. -/
def State.takeOutstanding (s : State) (n : NodeId) : Bool :=
  match s.groupOf n with
  | some g => (s.group g).outstanding
  | none => false

/-- R22: QUIET is open to a RUNNING standby with no TAKE outstanding. -/
def State.quietTaken (s : State) (n : NodeId) : State :=
  if (s.node n).state = .running then
    if s.roleOf n = some .standby then
      if s.takeOutstanding n then s.reply (.node n) .quiet .badState
      else (s.modNode n fun r => { r with state := .quiet, nudgeSent := false }).reply (.node n) .quiet .ok
    else s.reply (.node n) .quiet .notStandby
  else s.reply (.node n) .quiet .badState

/-- QUIET (R22). -/
def execQuiet (link : Link) (payload : List Byte) (s : State) : Host.Outcome State Fault Refusal :=
  .next (s.receive .quiet link payload (onNode link fun n s => s.quietTaken n))

/-- R23: AWAKE returns a node in QUIET to RUNNING, after which trigger 3 is evaluated (R129). -/
def State.awakeTaken (s : State) (n : NodeId) : State :=
  if (s.node n).state = .quiet then
    ((s.modNode n fun r => { r with state := .running, nudgeSent := false }).reply (.node n) .awake .ok).noteStandbyRunning n
  else s.reply (.node n) .awake .badState

/-- AWAKE (R23). -/
def execAwake (link : Link) (payload : List Byte) (s : State) : Host.Outcome State Fault Refusal :=
  .next (s.receive .awake link payload (onNode link fun n s => s.awakeTaken n))

/-! ### ASK_RESTART, RESUMED, WHO -/

/-- R51: a node in service asks for its own restart. -/
def State.askRestartTaken (s : State) (n : NodeId) : State :=
  if (s.node n).state.inService then
    if s.partnerPasses n then (s.reply (.node n) .askRestart .ok).restartFromService n .requested
    else s.reply (.node n) .askRestart .partnerDown
  else s.reply (.node n) .askRestart .badState

/-- ASK_RESTART (R51). -/
def execAskRestart (link : Link) (payload : List Byte) (s : State) : Host.Outcome State Fault Refusal :=
  .next (s.receive .askRestart link payload (onNode link fun n s => s.askRestartTaken n))

/-- R47, R49: RESUMED in SETTLING returns the node to service. The REPLY carries the role and goes out before a TAKE that follows it
(R133, R162). -/
def State.resumedTaken (s : State) (n : NodeId) : State :=
  if (s.node n).state = .settling then
    let plan := s.nodePlan n
    let role := s.roleAtResume n
    let s := (s.modNode n fun r => r.enterRunning plan s.clock.ms).noteResumed n
    (s.reply (.node n) .resumed .ok (.resumed role)).noteStandbyRunning n
  else s.reply (.node n) .resumed .badState

/-- RESUMED (R47). -/
def execResumed (link : Link) (payload : List Byte) (s : State) : Host.Outcome State Fault Refusal :=
  .next (s.receive .resumed link payload (onNode link fun n s => s.resumedTaken n))

/-- R155: WHO reports the node's state, role, group, group state and attempt count, and changes nothing. -/
def State.whoTaken (s : State) (n : NodeId) : State :=
  let r := s.node n
  let g := (s.nodePlan n).group
  s.reply (.node n) .who .ok (.who r.state (s.roleOf n) g (s.group g).state r.attempts)

/-- WHO (R155). -/
def execWho (link : Link) (payload : List Byte) (s : State) : Host.Outcome State Fault Refusal :=
  .next (s.receive .who link payload (onNode link fun n s => s.whoTaken n))

/-! ### TAKEN (R130 to R132) -/

/-- R130, R161: a TAKEN matches when a TAKE is outstanding on the link and carries its group. A stray one is ignored. -/
def State.takenTaken (s : State) (n : NodeId) (p : List Byte) : State :=
  match (s.exchange n).outstanding with
  | some (.take g) =>
    if g.num = octetAt p 0 then
      let s := s.endExchange n
      if takenAccepts p then s.acceptTake g else s.declineTake g
    else s
  | _ => s

/-- TAKEN (R130). -/
def execTaken (link : Link) (payload : List Byte) (s : State) : Host.Outcome State Fault Refusal :=
  .next (s.receive .taken link payload (onNode link fun n s => s.takenTaken n payload))

end Sys2Proof.Machine
end

