-- ==== Sys2Proof/Machine/PlanUnit.lean ====
section
/-! DEFINITION. The plan unit (11): SET, the plan lock and the checks of APPLY, the activation of the staged plan, SAVE and its
completion, and the load of the commissioning array. -/

namespace Sys2Proof.Machine

/-! ### SET (R165, R166) -/

/-- A value within a range of R165. -/
def within {α : Type} (lo hi v : Nat) (a : α) : Option α := if lo ≤ v ∧ v ≤ hi then some a else none

/-- A yes-or-no item (R165). -/
def yesNoValue (v : Nat) : Option Bool :=
  match v with
  | 0 => some false
  | 1 => some true
  | _ => none

/-- An initial role (R165). -/
def roleValue (v : Nat) : Option Role :=
  match v with
  | 1 => some .duty
  | 2 => some .standby
  | _ => none

/-- R165: the node items, by item code, with their ranges. None for another code or a value outside the range. -/
def NodePlan.setItem (p : NodePlan) (item v : Nat) : Option NodePlan :=
  match item with
  | 0 => (yesNoValue v).map fun b => { p with present := b }
  | 1 => (GroupId.ofNum v).map fun g => { p with group := g }
  | 2 => (roleValue v).map fun r => { p with role := r }
  | 3 => within 0 7 v { p with lapseExp := v }
  | 4 => (yesNoValue v).map fun b => { p with resetDrive := b }
  | 5 => within 1 255 v { p with pulse := v }
  | 6 => within 1 255 v { p with bootWindow := v }
  | 7 => within 1 255 v { p with warmSettle := v }
  | 8 => within 1 255 v { p with coldSettle := v }
  | 9 => within 1 255 v { p with stable := v }
  | 10 => within 1 7 v { p with attemptLimit := v }
  | 11 => within 0 255 v { p with warmCauses := BitVec.ofNat 8 v }
  | _ => none

/-- R165: the group items. -/
def GroupPlan.setItem (p : GroupPlan) (item v : Nat) : Option GroupPlan :=
  match item with
  | 16 => within 1 600 v { p with holdTime := v }
  | 17 => within 0 600 v { p with margin := v }
  | 18 => within 1 3600 v { p with warmAge := v }
  | _ => none

/-- The item code of the answer time, and the group items (R165). -/
def answerTimeItem : Nat := 24

def isGroupItem (item : Nat) : Bool := item = 16 || item = 17 || item = 18

/-- R166: an item at an index takes a value; none where the item code, the index or the value is not one of R165. -/
def Plan.setItem (p : Plan) (item index v : Nat) : Option Plan :=
  if item = answerTimeItem then (if index = 0 then within 5 255 v { p with answerTime := v } else none)
  else if isGroupItem item then
    (GroupId.ofNum index).bind fun g =>
      ((p.groups.get g).setItem item v).map fun q => { p with groups := p.groups.set g q }
  else
    (NodeId.ofNum index).bind fun n =>
      ((p.nodes.get n).setItem item v).map fun q => { p with nodes := p.nodes.set n q }

/-- R166: SET writes the staged plan. -/
def State.setTaken (s : State) (p : List Byte) : State :=
  match s.staged.setItem (octetAt p 0) (octetAt p 1) (field4 p 2).toNat with
  | none => s.reply .supervisor .set .badValue
  | some q => { s.reply .supervisor .set .ok with staged := q }

/-- SET (R166). -/
def execSet (link : Link) (payload : List Byte) (s : State) : Host.Outcome State Fault Refusal :=
  .next (s.receive .set link payload fun s => s.setTaken payload)

/-! ### The plan lock and the plan checks (R167) -/

/-- The states of a node in which a restart is under way. -/
def NodeState.restarting : NodeState → Bool
  | .reset | .boot | .queued | .restoring | .settling => true
  | .offline | .unknown | .running | .quiet | .halted => false

/-- A group is HELD or UNSERVED and its duty node is not in HALTED. -/
def State.groupLocks (s : State) (g : GroupId) : Bool :=
  (s.group g).state.inHold && !((s.group g).duty.any fun n => (s.node n).state = .halted)

/-- R167: the plan lock. -/
def State.planLocked (s : State) : Bool :=
  GroupId.all.any s.groupLocks || s.channels.c0.isSome || s.channels.c1.isSome
    || NodeId.all.any fun n => (s.node n).state.restarting

/-- Checks 1 and 2 of R167 for one group: the item and index of the first that fails. -/
def Plan.groupFault (p : Plan) (g : GroupId) : Option (Nat × Nat) :=
  let members := p.members g
  let duties := members.filter fun n => (p.nodes.get n).role = .duty
  match members, members[2]?, duties with
  | [], _, _ => none
  | _, some third, _ => some (1, third.num)
  | lowest :: _, none, [] => some (2, lowest.num)
  | _, none, [_] => none
  | _, none, _ :: second :: _ => some (2, second.num)

/-- R167: the first failing check, group by group (log entry 29). -/
def Plan.firstFault (p : Plan) : Option (Nat × Nat) := GroupId.all.findSome? p.groupFault

/-! ### Activation (R168) -/

/-- R168: a node that becomes absent, or stays present with a different group, leaves its state: from RUNNING or QUIET it leaves
service, and its records are removed (R69). -/
def State.uproot (s : State) (n : NodeId) : State :=
  let s := if (s.node n).state.inService then s.leaveService n true else s
  s.removeRecords ((s.store.recordsOf n).map Prod.fst)

/-- The group of node n differs between two plans, absence counted as no group. -/
def Plan.moves (old new : Plan) (n : NodeId) : Bool := old.groupOf n ≠ new.groupOf n

/-- R168: the node record after activation, by the three cases of the rule. -/
def settleNode (old new : Plan) (n : NodeId) (r : NodeRec) : NodeRec :=
  if old.moves new n then
    if (new.nodes.get n).present then .entersUnknown (new.nodes.get n) else .atReset
  else { r with attempts := min r.attempts (new.nodes.get n).attemptLimit }

/-- R168: a member of a group whose members change. One in QUIET returns to RUNNING, its timers running on. -/
def NodeRec.regrouped (r : NodeRec) : NodeRec :=
  { r with
    state := if r.state = .quiet then .running else r.state
    nudgeSent := if r.state = .quiet then false else r.nudgeSent
    beatSincePending := false }

/-- A TAKE outstanding for the group is ended with the pending exchange and its answer timer, without a decline (R168). -/
def State.forgetTake (s : State) (g : GroupId) : State :=
  if (s.group g).outstanding then
    match (s.group g).standby with
    | some n => s.endExchange n
    | none => s
  else s

/-- The group record at a part reset, or when the group's members change (R9). -/
def GroupRec.afterReset (members : List NodeId) : GroupRec :=
  { GroupRec.atReset with state := if members = [] then .vacant else .pending }

/-- R168: a group whose members change takes the values of R9, and resolves its roles at once if it is PENDING with no member in
UNKNOWN. A member that it keeps HALTED is then designated out of service, and the hold entry raises HELD in the APPLY (log entry
31). -/
def State.regroup (s : State) (g : GroupId) : State :=
  let members := s.active.members g
  let s := s.forgetTake g
  let s := members.foldl (fun s n => s.modNode n NodeRec.regrouped) s
  (s.setGroup g (.afterReset members)).resolveIfKnown g

/-- R168: the staged plan becomes active, in one step. -/
def State.activate (s : State) : State :=
  let old := s.active
  let new := s.staged
  let s := (NodeId.all.filter fun n => (old.groupOf n).isSome && old.moves new n).foldl State.uproot s
  let s := { s with active := new, nodes := .ofFn fun n => settleNode old new n (s.node n) }
  (GroupId.all.filter fun g => old.members g ≠ new.members g).foldl State.regroup s

/-- R167: APPLY. -/
def State.applyTaken (s : State) : State :=
  if s.planLocked then s.reply .supervisor .apply .planLocked
  else
    match s.staged.firstFault with
    | some (item, index) => s.reply .supervisor .apply .planInvalid (.planItem item index)
    | none => s.activate.reply .supervisor .apply .ok

/-- APPLY (R167). -/
def execApply (link : Link) (payload : List Byte) (s : State) : Host.Outcome State Fault Refusal :=
  .next (s.receive .apply link payload fun s => s.applyTaken)

/-! ### SAVE (R170) -/

/-- The settings of the sixteen channels as they stand. -/
def State.settings (s : State) : Vector MonSettings 16 := s.monitor.map MonChannel.settings

/-- R170: SAVE begins. Link 0 becomes busy and the writing of the image begins, so that the array holds a good image again only at
a completion that is OK (log entry 14). -/
def State.saveTaken (s : State) : State :=
  { s.beginRequest .supervisor .save with saving := some ⟨s.active, s.settings⟩, array := .torn }

/-- SAVE (R170). -/
def execSave (link : Link) (payload : List Byte) (s : State) : Host.Outcome State Fault Refusal :=
  .next (s.receive .save link payload fun s => s.saveTaken)

/-- R170: the write and the read-back of the image end, and the read-back sums to `sum`. -/
def State.saveDone (s : State) (img : Image) (sum : Word) : State :=
  let s := { s.endRequest .supervisor with saving := none }
  if sum = Config.arraySum then { s with array := .image img img.checkWord }.reply .supervisor .save .ok
  else { s with array := .torn }.reply .supervisor .save .storeError

/-- SAVE_COMPLETE (R170): it happens only while a SAVE is in progress. -/
def execSaveComplete (sum : Word) (s : State) : Host.Outcome State Fault Refusal :=
  .next (s.whenPowered fun s =>
    match s.saving with
    | none => s
    | some img => s.saveDone img sum)

/-! ### The load (R169) -/

/-- Every item of a node lies in its range (R165). -/
def NodePlan.inRange (p : NodePlan) : Bool :=
  decide (p.lapseExp ≤ 7)
    && [p.pulse, p.bootWindow, p.warmSettle, p.coldSettle, p.stable].all (fun v => decide (1 ≤ v ∧ v ≤ 255))
    && decide (1 ≤ p.attemptLimit ∧ p.attemptLimit ≤ 7)

/-- Every item of a group lies in its range (R165). -/
def GroupPlan.inRange (p : GroupPlan) : Bool :=
  decide (1 ≤ p.holdTime ∧ p.holdTime ≤ 600) && decide (p.margin ≤ 600) && decide (1 ≤ p.warmAge ∧ p.warmAge ≤ 3600)

/-- Every item of a plan lies in its range (R165). -/
def Plan.inRange (p : Plan) : Bool :=
  NodeId.all.all (fun n => (p.nodes.get n).inRange) && GroupId.all.all (fun g => (p.groups.get g).inRange)
    && decide (5 ≤ p.answerTime ∧ p.answerTime ≤ 255)

/-- R169: the image is good. -/
def Image.good (img : Image) (check : Word) : Bool :=
  wordSum img.words + check = Config.arraySum && img.plan.inRange && img.settings.toList.all MonSettings.valid
    && img.plan.firstFault.isNone

/-- R169: what a load of the array gives, and whether it finds the image not good and so raises PLAN_FAULT. R149 and R156 name only a
bad check word; where the check word is met and the items or the plan checks are not, R169 is followed (log entry 33). -/
def CommArray.load : CommArray → Image × Bool
  | .image img check => if img.good check then (img, false) else (.delivered, true)
  | .torn => (.delivered, true)

end Sys2Proof.Machine
end

