-- ==== Sys2Proof/Machine/Resets.lean ====
section
/-! DEFINITION. The three part resets, RESET_ASSERT, SUPPLY_LOSS and STORAGE_DISTURBANCE (00 section 6.5). -/

namespace Sys2Proof.Machine

/-! ### The values that every part reset gives -/

/-- R5, R26, R32, R57: the record of node n after a part reset. -/
def NodeRec.afterReset (p : NodePlan) : NodeRec := if p.present then .entersUnknown p else .atReset

/-- R156: the alert unit after a part reset. -/
def Alerts.afterReset (planFault : Bool) : Alerts :=
  { Alerts.atReset with flags := if planFault then Alert.planFault.mark else 0#27 }

/-- The values that node table, group table, links, queue, restore channels, monitor channels and alert unit take at every part
reset, under the active plan and the channel settings that stand after it (R5, R9, R32, R57, R118, R148, R156, R164). -/
def State.resetBlocks (s : State) (planFault : Bool) : State :=
  { s with
    nodes := .ofFn fun n => .afterReset (s.active.nodes.get n)
    groups := .ofFn fun g => .afterReset (s.active.members g)
    supervisorPort := .atReset
    nodePorts := .const .atReset
    exchanges := .const .empty
    queue := []
    channels := ⟨none, none⟩
    monitor := s.monitor.map fun m => .cleared m.settings
    alerts := .afterReset planFault }

/-- R169: the plan and the channel settings of an image become those in use, and the staged plan a copy of the active one. -/
def State.loadImage (s : State) (img : Image) : State :=
  { s with active := img.plan, staged := img.plan, monitor := img.settings.map .cleared }

/-! ### The store at a pin reset and a resync (R78) -/

/-- R78 steps 1 and 2 for node n: open and verifying records go, and every record goes where the node's group is not kept. -/
def State.dropForReset (s : State) (keep : NodeId → Bool) (n : NodeId) : State :=
  s.removeRecords (((s.store.recordsOf n).filter fun e => !(keep n && e.2.isCommitted)).map Prod.fst)

/-- R78: removals node by node, then the pins and the peek cursor are cleared. -/
def State.storeReset (s : State) (keep : NodeId → Bool) : State :=
  let s := NodeId.all.foldl (fun s n => s.dropForReset keep n) s
  s.setStore { s.store.markPins (fun _ _ => true) false with peek := none }

/-- R78: the loaded plan keeps the records of the nodes that it leaves present in the group they held before. -/
def Plan.keeps (old new : Plan) (n : NodeId) : Bool := (new.groupOf n).isSome && old.groupOf n = new.groupOf n

/-! ### The commands -/

/-- POWER_ON_RESET (R5, R9, R11, R77, R169): the supply is applied. The level of the RESET input and the array are not of the
part's making and stay. -/
def execPowerOnReset (s : State) : Host.Outcome State Fault Refusal :=
  let (img, fault) := s.array.load
  .next
    ({ s.loadImage img with
        store := .empty
        clock := ⟨0#32, 0, 0#32⟩
        saving := none
        powered := true }.resetBlocks fault)

/-- RESET_ASSERT (R164, R150): what the asserted level stops is read from it by `State.receiving`, `State.send` and
`State.alertLine`. -/
def execResetAssert (s : State) : Host.Outcome State Fault Refusal := .next { s with resetAsserted := true }

/-- R78, R169: the pin reset. A SAVE in progress ends without a reply (R170). -/
def State.pinReset (s : State) : State :=
  let (img, fault) := s.array.load
  let old := s.active
  (({ s with saving := none }.loadImage img).storeReset (old.keeps img.plan)).resetBlocks fault

/-- PIN_RESET: the RESET input is released, which is the pin reset (00 section 6.5, log entries 5 and 6). -/
def execPinReset (s : State) : Host.Outcome State Fault Refusal :=
  .next ({ s with resetAsserted := false }.whenPowered State.pinReset)

/-- R171: RESYNC. The plans, the settings, the clock and the committed records are kept, and the REPLY is the first frame after the
reset. -/
def State.resyncTaken (s : State) : State :=
  ((s.storeReset fun _ => true).resetBlocks false).reply .supervisor .resync .ok

/-- RESYNC (R171). -/
def execResync (link : Link) (payload : List Byte) (s : State) : Host.Outcome State Fault Refusal :=
  .next (s.receive .resync link payload fun s => s.resyncTaken)

/-- SUPPLY_LOSS (R170): a SAVE in progress ends without a reply, and the array holds what its begun write has left. Until the
supply returns nothing acts (log entry 7). -/
def execSupplyLoss (s : State) : Host.Outcome State Fault Refusal :=
  let s := if s.saving.isSome then s.endRequest .supervisor else s
  .next { s with powered := false, saving := none }

/-- STORAGE_DISTURBANCE (R58, log entries 9 and 21): the word's contents no longer agree with its parity check. -/
def execStorageDisturbance (block : Fin 1024) (word : Fin 64) (contents : Disturbance) (s : State) :
    Host.Outcome State Fault Refusal :=
  .next (s.whenPowered fun s => s.disturb (wordAddr block word) contents)

end Sys2Proof.Machine
end

