-- ==== Sys2Proof/Machine/Restore.lean ====
section
/-! DEFINITION. The restore scheduler at work (06 sections 6.3 to 6.9): VERIFY, the DATA and ACK exchange, holdoff, damage fallback,
aborts, and the commands ACK, HOLDOFF_EXPIRY and VERIFY_COMPLETE. -/

namespace Sys2Proof.Machine

/-- The record in a slot of the set being restored. -/
def State.setRecord (s : State) (b : Binding) (k : Nat) : Option Record := (b.set[k]?).bind fun i => s.store.dir[i]

/-! ### Endings -/

/-- R106: a second COLD verdict. VERDICT goes to the node, the channel unbinds, and the node enters SETTLING cold (R46). -/
def State.secondCold (s : State) (c : ChanId) (b : Binding) (why : ColdReason) : State :=
  ((((s.send (.node b.node) (.verdict why)).unbind c).enterSettling b.node .cold).raise .coldStart)

/-- R112: an abort. DONE goes out with the status and the generation of the FULL, the channel unbinds, and the outcome is a failed
attempt (R39). -/
def State.abortRestore (s : State) (c : ChanId) (b : Binding) (st : DoneStatus) : State :=
  ((s.send (.node b.node) (.done st (s.fullGen b))).unbind c).failedAfterHello b.node

/-- R108: DONE OK with the newest generation restored, the channel unbinds, and the node enters SETTLING warm (R46). -/
def State.finishRestore (s : State) (c : ChanId) (b : Binding) : State :=
  let gen := match s.setRecord b (b.set.length - 1) with | some r => r.gen | none => 0#32
  ((s.send (.node b.node) (.done .ok gen)).unbind c).enterSettling b.node .warm

/-! ### Damage (R105, R106, R111) -/

/-- A binding that begins VERIFY on a set, from position 0. -/
def Binding.restartVerify (b : Binding) (set : List Slot) : Binding :=
  { b with
    phase := .verify, set := set, position := 0, index := 0, resent := false, notReady := 0, holdoff := none, seen := [] }

/-- R105, R106: the fallback after the record at position k of the set has been found damaged. The record and its successors are
discarded and DAMAGED raised. With the FULL sound the shortened set is verified again, without an age check. Without it the node's
older set is taken if it is young enough; else a second COLD verdict follows. -/
def State.fallBack (s : State) (c : ChanId) (b : Binding) (k : Nat) (r : Record) : State :=
  let s := (s.discardDamaged r).raise .damaged
  match r.kind with
  | .delta _ => s.setChan c (some (b.restartVerify (b.set.take k)))
  | .full =>
    match (s.store.restoreSet b.node).getLast? with
    | none => s.secondCold c b .damaged
    | some newest =>
      if s.youngEnough b.node newest then
        let set := (s.store.restoreSet b.node).map Prod.fst
        (s.pin set).setChan c (some (b.restartVerify set))
      else s.secondCold c b .tooOld

/-! ### SEND (R107, R111) -/

/-- R107: the block at the channel's record position and block index is read afresh and sent, or its damage is taken (R111). -/
def State.sendBlock (s : State) (c : ChanId) (b : Binding) : State :=
  match s.setRecord b b.position with
  | none => s.setChan c (some { b with phase := .send })
  | some r =>
    let ws := r.wordsFrom s.store.pool (Config.blockWords * b.index) (r.wordsAt b.index)
    if ws.all PoolWord.sound then
      ((s.send (.node b.node) (.data b.position b.index (ws.map PoolWord.value))).startExchange b.node
        (.data b.position b.index)).setChan c (some { b with phase := .send, holdoff := none })
    else (s.send (.node b.node) (.done .damaged r.gen)).fallBack c b b.position r

/-- R108: the channel advances to the next block, the next record, or the end of the restore. -/
def State.advance (s : State) (c : ChanId) (b : Binding) : State :=
  let b := { b with resent := false, notReady := 0 }
  match s.setRecord b b.position with
  | none => s.finishRestore c b
  | some r =>
    if b.index < r.lastIndex then s.sendBlock c { b with index := b.index + 1 }
    else if b.position + 1 < b.set.length then s.sendBlock c { b with position := b.position + 1, index := 0 }
    else s.finishRestore c b

/-- R109: CRC_BAD. The block is sent once more, and the second CRC_BAD for it aborts with LINK_ERROR. -/
def State.crcBad (s : State) (c : ChanId) (b : Binding) : State :=
  if b.resent then s.abortRestore c b .linkError
  else s.sendBlock c { b with resent := true, notReady := 0 }

/-- R110: NOT_READY. The channel holds off 20 ms, and the sixteenth in a row aborts with STALLED. -/
def State.notReady (s : State) (c : ChanId) (b : Binding) : State :=
  if b.notReady < Config.maxNotReady then
    s.setChan c (some { b with phase := .holdoff, notReady := b.notReady + 1, holdoff := .start Config.holdoffMs })
  else s.abortRestore c b .stalled

/-- R107 to R110: an ACK from node n. It matches when a DATA is outstanding and it echoes its position and index (R161). A stray one
is ignored. -/
def State.ackTaken (s : State) (n : NodeId) (p : List Byte) : State :=
  if (s.exchange n).outstanding = some (.data (octetAt p 0) (octetAt p 1)) then
    let s := s.endExchange n
    match (s.node n).channel with
    | none => s
    | some c =>
      match s.chan c with
      | none => s
      | some b =>
        match ackStatus p with
        | .ok => s.advance c b
        | .crcBad => s.crcBad c b
        | .notReady => s.notReady c b
  else s

/-! ### VERIFY (R104, R105) -/

/-- R104: a record is sound when every word, as VERIFY reads it, is sound and the sum equals the record's check word. -/
def Record.soundIn (r : Record) (p : Pool) (seen : SeenWords) : Bool :=
  let ws := r.words p seen
  match r.status with
  | .committed check _ => ws.all PoolWord.sound && sumRead ws = check
  | .opened | .verifying _ _ => false

/-- R104: the first position of the set whose record is damaged. -/
def State.firstDamagedRecord (s : State) (b : Binding) : Option Nat :=
  b.set.findIdx? fun i => match s.store.dir[i] with | some r => !r.soundIn s.store.pool b.seen | none => false

/-- R105: VERIFY completes. The first block is read afresh for its sending (R107), so a word of it that was disturbed after VERIFY
had read it is found there (R111). -/
def State.verifyDone (s : State) (c : ChanId) (b : Binding) : State :=
  match s.firstDamagedRecord b with
  | none => s.sendBlock c { b with phase := .send, position := 0, index := 0, resent := false, notReady := 0, seen := [] }
  | some k =>
    match s.setRecord b k with
    | some r => s.fallBack c b k r
    | none => s

/-! ### The commands -/

/-- R112: the answer timer of a DATA to node n has expired: NO_ACK. -/
def State.dataUnanswered (s : State) (n : NodeId) : State :=
  match (s.node n).channel with
  | none => s
  | some c =>
    match s.chan c with
    | some b => s.abortRestore c b .noAck
    | none => s

/-- ACK (R108). -/
def execAck (link : Link) (payload : List Byte) (s : State) : Host.Outcome State Fault Refusal :=
  .next (s.receive .ack link payload (onNode link fun n s => s.ackTaken n payload))

/-- HOLDOFF_EXPIRY (R110): the channel enters SEND and sends the same block again. -/
def execHoldoffExpiry (c : ChanId) (s : State) : Host.Outcome State Fault Refusal :=
  .next (s.whenPowered fun s =>
    match s.chan c with
    | some b => if b.phase = .holdoff && Timer.due b.holdoff then s.sendBlock c { b with phase := .send, holdoff := none } else s
    | none => s)

/-- VERIFY_COMPLETE (R105): it happens only while the channel is in VERIFY. -/
def execVerifyComplete (c : ChanId) (s : State) : Host.Outcome State Fault Refusal :=
  .next (s.whenPowered fun s =>
    match s.chan c with
    | some b => if b.phase = .verify then s.verifyDone c b else s
    | none => s)

end Sys2Proof.Machine
end

