-- ==== Sys2Proof/Machine/Supervisor.lean ====
section
/-! DEFINITION. The supervisory requests that read the part (READ_NODE, READ_GROUP, READ_STORE, READ_ALERTS, PEEK_AT, PEEK_NEXT; 04
section 4.8, 09), that act on a node (RESTART, HALT, RELEASE; 03 section 3.13), and MASK (09 section 9.3). -/

namespace Sys2Proof.Machine

/-- The REPLY to a supervisory request, on link 0, the one link its kind is taken on (R159, R162). -/
def State.answer (s : State) (k : Kind) (r : Result) (b : Body := .none) : State := s.reply .supervisor k r b

/-! ### READ_NODE (R153) -/

/-- The queue items of R117: for a node in QUEUED. The head has position 1. -/
def State.queueReport (s : State) (n : NodeId) : Option QueueReport :=
  if (s.node n).state = .queued then
    some ⟨s.queue.idxOf n + 1, (s.orderKey n).escalated, (s.orderKey n).deadline⟩
  else none

/-- The channel items of R117: for a node in RESTORING. Record position and block index are those of the block being sent, so
in VERIFY they are absent (06 section 6.2, log entry 18). -/
def State.restoreReport (s : State) (n : NodeId) : Option RestoreReport :=
  if (s.node n).state = .restoring then do
    let c ← (s.node n).channel
    let b ← s.chan c
    let sending := b.phase ≠ .verify
    some ⟨c, b.phase, if sending then some b.position else none, if sending then some b.index else none, b.notReady,
      s.fullGen b⟩
  else none

/-- R153: the picture of node record n. -/
def State.nodeReport (s : State) (n : NodeId) : NodeReport :=
  let r := s.node n
  { ms := s.clock.ms
    number := n
    present := s.present n
    group := s.groupOf n
    state := r.state
    role := s.roleOf n
    cause := r.cause
    drive := r.drive
    attempts := r.attempts
    warmCapable := r.warmCapable
    nudgeSent := r.nudgeSent
    mark := r.mark
    openRec := r.openRec
    errors := (s.port (.node n)).errors
    lastBeat := r.lastBeat
    queued := s.queueReport n
    restoring := s.restoreReport n }

/-- R153: READ_NODE. -/
def State.readNodeTaken (s : State) (p : List Byte) : State :=
  match NodeId.ofNum (octetAt p 0) with
  | none => s.answer .readNode .badValue
  | some n => s.answer .readNode .ok (.node (s.nodeReport n))

/-- READ_NODE (R153). -/
def execReadNode (link : Link) (payload : List Byte) (s : State) : Host.Outcome State Fault Refusal :=
  .next (s.receive .readNode link payload fun s => s.readNodeTaken payload)

/-! ### READ_GROUP (R154) -/

/-- R154: the picture of group record g. -/
def State.groupReport (s : State) (g : GroupId) : GroupReport :=
  let r := s.group g
  { ms := s.clock.ms
    number := g
    members := s.active.members g
    initialDuty := s.active.initialDuty g
    state := r.state
    duty := r.duty
    standby := r.standby
    deadline := r.deadline
    point := r.point
    outstanding := r.outstanding
    declined := r.declined
    escalated := r.escalated
    roleLater := r.roleLater }

/-- R154: READ_GROUP. -/
def State.readGroupTaken (s : State) (p : List Byte) : State :=
  match GroupId.ofNum (octetAt p 0) with
  | none => s.answer .readGroup .badValue
  | some g => s.answer .readGroup .ok (.group (s.groupReport g))

/-- READ_GROUP (R154). -/
def execReadGroup (link : Link) (payload : List Byte) (s : State) : Host.Outcome State Fault Refusal :=
  .next (s.receive .readGroup link payload fun s => s.readGroupTaken payload)

/-! ### READ_STORE (R76) -/

/-- R76: what is reported of one node. -/
def Store.nodeReport (st : Store) (n : NodeId) : NodeStoreReport where
  node := n
  counter := st.gens.get n
  committed := st.committed n
  unfinished := (st.recordsOf n).find? fun e => !e.2.isCommitted

/-- R76: the picture of the store. -/
def State.storeReport (s : State) : StoreReport where
  seconds := s.clock.sec
  freeCount := s.store.freeCount
  cursor := s.store.peek
  nodes := NodeId.all.map s.store.nodeReport

/-- READ_STORE (R76). -/
def execReadStore (link : Link) (payload : List Byte) (s : State) : Host.Outcome State Fault Refusal :=
  .next (s.receive .readStore link payload fun s => s.answer .readStore .ok (.store s.storeReport))

/-! ### READ_ALERTS (R152) -/

/-- R152: the snapshot. -/
def State.alertsReport (s : State) : AlertsReport where
  flags := s.alerts.flags
  masks := s.alerts.masks
  enable := s.alerts.enable
  channels := s.monitor.toList.map fun m => (m.settings.mode, m.state, m.run)
  link0Errors := (s.port .supervisor).errors

/-- R152: the reply carries the snapshot, and every flag that it shows set is cleared. -/
def State.readAlertsTaken (s : State) : State :=
  let r := s.alertsReport
  { s.answer .readAlerts .ok (.alerts r) with alerts := { s.alerts with flags := s.alerts.flags &&& ~~~r.flags } }

/-- READ_ALERTS (R152). -/
def execReadAlerts (link : Link) (payload : List Byte) (s : State) : Host.Outcome State Fault Refusal :=
  .next (s.receive .readAlerts link payload fun s => s.readAlertsTaken)

/-! ### The peek cursor (R73, R74) -/

/-- The committed record of a node with a generation. -/
def Store.committedRecord (st : Store) (n : NodeId) (g : Word) : Option Record :=
  ((st.committed n).find? fun e => e.2.gen = g).map Prod.snd

def State.setPeek (s : State) (c : Option Cursor) : State := s.setStore { s.store with peek := c }

/-- R73: PEEK_AT. -/
def State.peekAtTaken (s : State) (p : List Byte) : State :=
  let gen := field4 p 1
  let offset := field2 p 5
  match NodeId.ofNum (octetAt p 0) with
  | none => s.answer .peekAt .badValue
  | some n =>
    if !s.present n then s.answer .peekAt .notPresent
    else
      match s.store.committedRecord n gen with
      | none => s.answer .peekAt .gone
      | some r =>
        if r.declared ≤ offset then s.answer .peekAt .badValue
        else (s.setPeek (some ⟨n, gen, offset⟩)).answer .peekAt .ok (.peekedAt r.kind r.declared r.time)

/-- PEEK_AT (R73). -/
def execPeekAt (link : Link) (payload : List Byte) (s : State) : Host.Outcome State Fault Refusal :=
  .next (s.receive .peekAt link payload fun s => s.peekAtTaken payload)

/-- R74: a read at cursor c of record r. -/
def State.peekRead (s : State) (c : Cursor) (r : Record) : State :=
  let n := min Config.peekWords (r.declared - c.offset)
  let ws := r.wordsFrom s.store.pool c.offset n
  match firstDamaged ws with
  | none =>
    let next := c.offset + n
    (s.setPeek (some { c with offset := next })).answer .peekNext .ok
      (.peeked c.gen c.offset (ws.map PoolWord.value) (next = r.declared) .none)
  | some k =>
    let next := c.offset + k + 1
    (s.setPeek (some { c with offset := next })).answer .peekNext .storeError
      (.peeked c.gen c.offset ((ws.take k).map PoolWord.value) (next = r.declared) (some (c.offset + k)))

/-- R74: PEEK_NEXT. -/
def State.peekNextTaken (s : State) : State :=
  match s.store.peek with
  | none => s.answer .peekNext .gone
  | some c =>
    match s.store.committedRecord c.node c.gen with
    | none => s.answer .peekNext .gone
    | some r => s.peekRead c r

/-- PEEK_NEXT (R74). -/
def execPeekNext (link : Link) (payload : List Byte) (s : State) : Host.Outcome State Fault Refusal :=
  .next (s.receive .peekNext link payload fun s => s.peekNextTaken)

/-! ### RESTART, HALT, RELEASE (R52, R53, R56) -/

/-- A supervisory request about a node: BAD_VALUE for a number outside 1..8 (R1), NOT_PRESENT for an absent node (03 section
3.13). -/
def State.aboutNode (s : State) (k : Kind) (number : Nat) (f : NodeId → State) : State :=
  match NodeId.ofNum number with
  | none => s.answer k .badValue
  | some n => if s.present n then f n else s.answer k .notPresent

/-- R52: RESTART of a present node. -/
def State.restartNode (s : State) (n : NodeId) (force : Bool) : State :=
  match (s.node n).state with
  | .running | .quiet =>
    if force || s.partnerPasses n then (s.answer .restart .ok).restartFromService n .commanded
    else s.answer .restart .partnerDown
  | .settling =>
    if force || s.partnerPasses n then (s.answer .restart .ok).beginRestart n .commanded
    else s.answer .restart .partnerDown
  | .offline | .unknown | .reset | .boot | .queued | .restoring | .halted => s.answer .restart .badState

/-- R52: RESTART. The values of both payload fields are checked before the node's presence and state (log entry 16). -/
def State.restartTaken (s : State) (p : List Byte) : State :=
  match NodeId.ofNum (octetAt p 0), boolField p 1 with
  | some n, some force => if s.present n then s.restartNode n force else s.answer .restart .notPresent
  | _, _ => s.answer .restart .badValue

/-- RESTART (R52). -/
def execRestart (link : Link) (payload : List Byte) (s : State) : Host.Outcome State Fault Refusal :=
  .next (s.receive .restart link payload fun s => s.restartTaken payload)

/-- R53: HALT. -/
def State.haltTaken (s : State) (p : List Byte) : State :=
  s.aboutNode .halt (octetAt p 0) fun n =>
    if (s.node n).state = .halted then s.answer .halt .ok else s.haltNode n

/-- HALT (R53). -/
def execHalt (link : Link) (payload : List Byte) (s : State) : Host.Outcome State Fault Refusal :=
  .next (s.receive .halt link payload fun s => s.haltTaken payload)

/-- R56: RELEASE. -/
def State.releaseTaken (s : State) (p : List Byte) : State :=
  s.aboutNode .release (octetAt p 0) fun n =>
    if (s.node n).state = .halted then
      ((s.answer .release .ok).modNode n fun r => { r with attempts := 0 }).beginRestart n .released
    else s.answer .release .badState

/-- RELEASE (R56). -/
def execRelease (link : Link) (payload : List Byte) (s : State) : Host.Outcome State Fault Refusal :=
  .next (s.receive .release link payload fun s => s.releaseTaken payload)

/-! ### MASK (R151) -/

/-- R151: MASK. Bits 27 to 31 of the mask field are not read (R163). That the global enable's octet is 1 for on and 0 for off, and
every other value is refused, is the model's reading of a code the spec does not give (log entry 32). -/
def State.maskTaken (s : State) (p : List Byte) : State :=
  match boolField p 4 with
  | none => s.answer .mask .badValue
  | some enable =>
    { s.answer .mask .ok (.oldMasks s.alerts.masks s.alerts.enable) with
      alerts := { s.alerts with masks := (field4 p 0).setWidth 27, enable := enable } }

/-- MASK (R151). -/
def execMask (link : Link) (payload : List Byte) (s : State) : Host.Outcome State Fault Refusal :=
  .next (s.receive .mask link payload fun s => s.maskTaken payload)

end Sys2Proof.Machine
end

