-- ==== Sys2Proof/Machine/Timers.lean ====
section
/-! DEFINITION. The part clock (01 section 1.7), the expiries of the timers (01 section 1.8) and the points in time of the groups
(R13). An expiry command acts only when its timer is due (log entry 8). -/

namespace Sys2Proof.Machine

/-! ### CLOCK_TICK (R11, R14) -/

/-- R11: one advance of the millisecond time base. -/
def Clock.tick (c : Clock) : Clock :=
  if c.sub < 999 then ⟨c.ms + 1#32, c.sub + 1, c.sec⟩ else ⟨c.ms + 1#32, 0, c.sec + 1#32⟩

/-- One advance of every node sequencer timer. -/
def NodeRec.tick (r : NodeRec) : NodeRec :=
  { r with
    acquire := Timer.tick r.acquire
    lapse := Timer.tick r.lapse
    stable := Timer.tick r.stable
    pulse := Timer.tick r.pulse
    boot := Timer.tick r.boot
    settle := Timer.tick r.settle }

/-- One advance of the answer timer. -/
def ExchangeSlot.tick (e : ExchangeSlot) : ExchangeSlot := { e with answer := Timer.tick e.answer }

/-- One advance of the holdoff timer. -/
def Binding.tick (b : Binding) : Binding := { b with holdoff := Timer.tick b.holdoff }

/-- R11, R14: the time base advances, and every timer with it. The queue keeps the order of its keys, which are compared against the
current time (R97, log entry 23). -/
def State.tick (s : State) : State :=
  { s with
    clock := s.clock.tick
    nodes := .ofFn fun n => (s.node n).tick
    exchanges := .ofFn fun n => (s.exchange n).tick
    channels := ⟨s.channels.c0.map Binding.tick, s.channels.c1.map Binding.tick⟩ }.resortQueue

/-- CLOCK_TICK (R11). -/
def execClockTick (s : State) : Host.Outcome State Fault Refusal := .next (s.whenPowered State.tick)

/-! ### Node sequencer timers -/

/-- R29: silence in UNKNOWN. -/
def State.acquireExpired (s : State) (n : NodeId) : State :=
  ((s.raise .lapse).beginRestart n .lapse).noteLeftUnknown n

/-- ACQUIRE_EXPIRY (R29). -/
def execAcquireExpiry (n : NodeId) (s : State) : Host.Outcome State Fault Refusal :=
  .next (s.whenPowered fun s =>
    if (s.node n).state = .unknown && Timer.due (s.node n).acquire then s.acquireExpired n else s)

/-- R24, R25: the first lapse of a quiet spell. -/
def State.nudge (s : State) (n : NodeId) : State :=
  let p := s.nodePlan n
  (s.send (.node n) .nudge).modNode n fun r => { r with nudgeSent := true, lapse := .start p.lapseMs }

/-- R20, R24: the lapse timer has expired. -/
def State.lapseExpired (s : State) (n : NodeId) : State :=
  match (s.node n).state with
  | .running => s.lapseNode n
  | .quiet => if (s.node n).nudgeSent then s.lapseNode n else s.nudge n
  | .offline | .unknown | .reset | .boot | .queued | .restoring | .settling | .halted => s

/-- LAPSE_EXPIRY (R20). -/
def execLapseExpiry (n : NodeId) (s : State) : Host.Outcome State Fault Refusal :=
  .next (s.whenPowered fun s => if Timer.due (s.node n).lapse then s.lapseExpired n else s)

/-- STABLE_EXPIRY (R30). -/
def execStableExpiry (n : NodeId) (s : State) : Host.Outcome State Fault Refusal :=
  .next (s.whenPowered fun s =>
    if Timer.due (s.node n).stable then s.modNode n fun r => { r with attempts := 0, stable := none } else s)

/-- PULSE_EXPIRY (R36). -/
def execPulseExpiry (n : NodeId) (s : State) : Host.Outcome State Fault Refusal :=
  .next (s.whenPowered fun s =>
    if (s.node n).state = .reset && Timer.due (s.node n).pulse then s.enterBoot n else s)

/-- R39: a boot expiry keeps the drive reason held. In BOOT one is held. -/
def State.bootExpired (s : State) (n : NodeId) : State := s.beginRestart n ((s.node n).drive.getD .lapse)

/-- BOOT_EXPIRY (R38). -/
def execBootExpiry (n : NodeId) (s : State) : Host.Outcome State Fault Refusal :=
  .next (s.whenPowered fun s =>
    if (s.node n).state = .boot && Timer.due (s.node n).boot then s.bootExpired n else s)

/-- SETTLE_EXPIRY (R48). -/
def execSettleExpiry (n : NodeId) (s : State) : Host.Outcome State Fault Refusal :=
  .next (s.whenPowered fun s =>
    if (s.node n).state = .settling && Timer.due (s.node n).settle then s.failedAfterHello n else s)

/-! ### Answer timers (R161) -/

/-- R161: the expiry empties the slot and goes to the owner of the exchange: NO_ACK for a DATA, a decline for a TAKE. -/
def State.unanswered (s : State) (n : NodeId) : State :=
  match (s.exchange n).outstanding with
  | none => s.endExchange n
  | some (.data _ _) => (s.endExchange n).dataUnanswered n
  | some (.take g) => (s.endExchange n).declineTake g

/-- ANSWER_TIMER_EXPIRY (R161). -/
def execAnswerTimerExpiry (n : NodeId) (s : State) : Host.Outcome State Fault Refusal :=
  .next (s.whenPowered fun s => if Timer.due (s.exchange n).answer then s.unanswered n else s)

/-! ### Points in time of a group (R13) -/

/-- A point that is set has been reached. -/
def pointReached (t : Option Word) (now : Word) : Bool := t.any fun t => reached t now

/-- TAKEOVER_POINT_REACHED (R126): once in a hold, trigger 1. -/
def execTakeoverPointReached (g : GroupId) (s : State) : Host.Outcome State Fault Refusal :=
  .next (s.whenPowered fun s =>
    if (s.group g).state.inHold && pointReached (s.group g).point s.clock.ms && !(s.group g).pointTaken then
      (s.modGroup g fun r => { r with pointTaken := true }).seekUndeclined g
    else s)

/-- DEADLINE_REACHED (R125). -/
def execDeadlineReached (g : GroupId) (s : State) : Host.Outcome State Fault Refusal :=
  .next (s.whenPowered fun s =>
    if (s.group g).state = .held && pointReached (s.group g).deadline s.clock.ms then
      (s.modGroup g fun r => { r with state := .unserved }).raise .unserved
    else s)

end Sys2Proof.Machine
end

