-- ==== Sys2Proof/Machine/Upload.lean ====
section
/-! DEFINITION. The checkpoint upload (05): OPEN, BLOCK, COMMIT, DROP and the completion of the commit verification pass. -/

namespace Sys2Proof.Machine

/-- A refusal of BLOCK, COMMIT or DROP with BAD_STATE carries the newest committed generation (R79). -/
def State.refuseUpload (s : State) (n : NodeId) (k : Kind) : State :=
  s.reply (.node n) k .badState (.newest (s.store.newestGen n))

/-- The node's record in status OPEN, while the node is in service (R79). -/
def State.openEntry (s : State) (n : NodeId) : Option Entry :=
  if (s.node n).state.inService then
    match (s.node n).openRec with
    | none => none
    | some i =>
      match s.store.dir[i] with
      | some r => if r.status = .opened then some (i, r) else none
      | none => none
  else none

/-! ### OPEN (R80, R81) -/

/-- R80 check 6: the base of a DELTA is the node's newest committed FULL. -/
def State.baseOk (s : State) (n : NodeId) : RecKind → Bool
  | .full => true
  | .delta b => match s.store.newestFull n with | some f => f.2.gen = b | none => false

/-- R80 check 7: a DELTA is not opened on a list of 4 records that all belong to the restore set. -/
def State.listOk (s : State) (n : NodeId) : RecKind → Bool
  | .full => true
  | .delta _ => decide ((s.store.committed n).length < Config.maxCommitted) || !(s.store.olderFulls n).isEmpty

/-- The descriptor of a record just opened (R61). -/
def newRecord (n : NodeId) (g : Word) (k : RecKind) (declared : Nat) : Record where
  node := n
  gen := g
  kind := k
  declared := declared
  received := 0
  blocks := []
  status := .opened
  pinned := false

/-- R81: the generation counter is raised, the descriptor placed in the lowest-numbered free slot, and the slot written into the node
record. -/
def State.placeRecord (s : State) (n : NodeId) (i : Slot) (k : RecKind) (declared : Nat) : State :=
  let g := s.store.gens.get n + 1#32
  (s.setStore { s.store with
      gens := s.store.gens.set n g
      dir := s.store.dir.set i (some (newRecord n g k declared)) }).modNode n fun r => { r with openRec := some i }

/-- R80: the checks of OPEN, in their order, and the acceptance of R81. -/
def State.openTaken (s : State) (n : NodeId) (p : List Byte) : State :=
  let declared := field2 p 5
  let refuse (r : Result) := s.reply (.node n) .openRecord r
  if !(s.node n).state.inService then refuse .badState
  else if (s.node n).openRec.isSome then refuse .badState
  else if s.store.gens.get n = Config.lastGeneration then refuse .badState
  else
    match openKind p with
    | none => refuse .badValue
    | some k =>
      if declared = 0 || Config.maxRecordWords < declared then refuse .badValue
      else if !s.baseOk n k then refuse .badBase
      else if !s.listOk n k then refuse .listFull
      else
        match s.store.freeSlot with
        | none => refuse .badState
        | some i =>
          let s := s.placeRecord n i k declared
          s.reply (.node n) .openRecord .ok (.opened (s.store.gens.get n) (blocksFor declared) s.store.freeCount)

/-- OPEN (R80). -/
def execOpen (link : Link) (payload : List Byte) (s : State) : Host.Outcome State Fault Refusal :=
  .next (s.receive .openRecord link payload (onNode link fun n s => s.openTaken n payload))

/-! ### BLOCK (R82 to R84) -/

/-- The progress that OK, SEQUENCE and POOL_FULL report (10 section 10.6). -/
def State.progressOf (s : State) (r : Record) (index : Nat) : Body := .progress r.gen index r.received s.store.freeCount

/-- R82 to R84: the checks of BLOCK, in their order, and the allocation. -/
def State.blockTaken (s : State) (n : NodeId) (p : List Byte) : State :=
  match s.openEntry n with
  | none => s.refuseUpload n .block
  | some (i, r) =>
    let index := octetAt p 0
    let count := octetAt p 1
    if r.declared ≤ r.received || index ≠ r.nextIndex then
      s.reply (.node n) .block .sequence (s.progressOf r r.nextIndex)
    else if count ≠ r.wordsAt index then s.reply (.node n) .block .badLength
    else
      let (s, taken) := s.allocate i (fieldWords p 2 count)
      if taken then s.reply (.node n) .block .ok (.progress r.gen index (r.received + count) s.store.freeCount)
      else s.reply (.node n) .block .poolFull (s.progressOf r r.nextIndex)

/-- BLOCK (R82). -/
def execBlock (link : Link) (payload : List Byte) (s : State) : Host.Outcome State Fault Refusal :=
  .next (s.receive .block link payload (onNode link fun n s => s.blockTaken n payload))

/-! ### COMMIT (R86) -/

/-- R86: COMMIT begins the verification pass when every declared word has been received. -/
def State.commitTaken (s : State) (n : NodeId) (p : List Byte) : State :=
  match s.openEntry n with
  | none => s.refuseUpload n .commit
  | some (i, r) =>
    if r.received < r.declared then s.reply (.node n) .commit .sequence (s.progressOf r r.nextIndex)
    else (s.modRecord i fun q => { q with status := .verifying (field4 p 0) [] }).beginRequest (.node n) .commit

/-- COMMIT (R86). -/
def execCommit (link : Link) (payload : List Byte) (s : State) : Host.Outcome State Fault Refusal :=
  .next (s.receive .commit link payload (onNode link fun n s => s.commitTaken n payload))

/-! ### DROP (R85) -/

/-- R85: DROP removes a record in OPEN. -/
def State.dropTaken (s : State) (n : NodeId) : State :=
  match s.openEntry n with
  | none => s.refuseUpload n .drop
  | some (i, r) =>
    let s := s.removeRecord i
    s.reply (.node n) .drop .ok (.dropped r.gen s.store.freeCount)

/-- DROP (R85). -/
def execDrop (link : Link) (payload : List Byte) (s : State) : Host.Outcome State Fault Refusal :=
  .next (s.receive .drop link payload (onNode link fun n s => s.dropTaken n))

/-! ### The end of the commit verification pass (R87 to R89) -/

/-- R88: the record is committed with the check word and the commit time, the open record field cleared, and the list trimmed. -/
def State.commitRecord (s : State) (n : NodeId) (i : Slot) (check : Word) : State :=
  ((s.modRecord i fun q => { q with status := .committed check s.clock.sec }).modNode n fun r =>
    { r with openRec := none }).trim n

/-- R87 to R89: the pass of node n completes on the record in slot i. -/
def State.passDone (s : State) (n : NodeId) (i : Slot) (r : Record) (expected : Word) (seen : SeenWords) : State :=
  let ws := r.words s.store.pool seen
  let link : Link := .node n
  match firstDamaged ws with
  | some o => ((s.removeRecord i).endRequest link).reply link .commit .storeError (.damagedWord r.gen o)
  | none =>
    if sumRead ws = expected then
      let s := (s.commitRecord n i expected).endRequest link
      s.reply link .commit .ok (.committed r.gen s.clock.sec (s.store.committed n).length)
    else ((s.removeRecord i).endRequest link).reply link .commit .checkMismatch (.mismatch r.gen (sumRead ws))

/-- COMMIT_PASS_COMPLETE (R87): it happens only while a pass of node n runs. -/
def execCommitPassComplete (n : NodeId) (s : State) : Host.Outcome State Fault Refusal :=
  .next (s.whenPowered fun s =>
    match (s.node n).openRec with
    | none => s
    | some i =>
      match s.store.dir[i] with
      | none => s
      | some r =>
        match r.status with
        | .verifying expected seen => s.passDone n i r expected seen
        | .opened | .committed _ _ => s)

end Sys2Proof.Machine
end

