-- ==== Sys2Proof/Machine/Wire.lean ====
section
/-! DEFINITION. Frames as octets (10): the codes and layouts of R163, the frame and its check of R157, and the link receiver. -/

namespace Sys2Proof.Machine

/-! ### Codes (10 section 10.6) -/

def octet (k : Nat) : Byte := BitVec.ofNat 8 k

def flagOctet (b : Bool) : Byte := octet (yesNo b)

/-- Two octets, least significant first. -/
def le2 (k : Nat) : List Byte := [octet k, octet (k / 256)]

/-- A word in four octets, least significant first. -/
def le4 (w : Word) : List Byte :=
  [w.extractLsb' 0 8, w.extractLsb' 8 8, w.extractLsb' 16 8, w.extractLsb' 24 8]

def Result.code : Result → Nat
  | .ok => 0 | .busy => 1 | .badKind => 2 | .badLength => 3 | .badValue => 4 | .badState => 5 | .notStandby => 6
  | .notPresent => 7 | .badBase => 8 | .listFull => 9 | .poolFull => 10 | .sequence => 11 | .checkMismatch => 12
  | .storeError => 13 | .partnerDown => 14 | .planInvalid => 15 | .planLocked => 16 | .gone => 17

def Cause.code : Cause → Nat
  | .supply => 1 | .lapse => 2 | .commanded => 3 | .requested => 4 | .released => 5 | .external => 6 | .nodeWatchdog => 7
  | .unannounced => 8

def DriveReason.code : DriveReason → Nat
  | .lapse => 1 | .commanded => 2 | .requested => 3 | .released => 4

def ColdReason.code : ColdReason → Nat
  | .causeNotWarm => 1 | .notCapable => 2 | .noSet => 3 | .tooOld => 4 | .damaged => 5

def ResumeRole.code : ResumeRole → Nat
  | .duty => 1 | .standby => 2 | .later => 3

def NodeState.code : NodeState → Nat
  | .offline => 0 | .unknown => 1 | .running => 2 | .quiet => 3 | .reset => 4 | .boot => 5 | .queued => 6 | .restoring => 7
  | .settling => 8 | .halted => 9

def GroupState.code : GroupState → Nat
  | .vacant => 0 | .pending => 1 | .served => 2 | .held => 3 | .takenOver => 4 | .unserved => 5

def DoneStatus.code : DoneStatus → Nat
  | .ok => 0 | .damaged => 1 | .linkError => 2 | .stalled => 3 | .noAck => 4 | .aborted => 5

def RecKind.code : RecKind → Nat
  | .full => 0
  | .delta _ => 1

def RecStatus.code : RecStatus → Nat
  | .opened => 0
  | .verifying _ _ => 1
  | .committed _ _ => 2

def SettleMark.code : SettleMark → Nat
  | .warm => 1 | .cold => 2

def ChanPhase.code : ChanPhase → Nat
  | .verify => 1 | .send => 2 | .holdoff => 3

def MonState.code : MonState → Nat
  | .clear => 0 | .counting => 1 | .tripped => 2

/-- The base generation of a DELTA, 0 for a FULL. -/
def RecKind.base : RecKind → Word
  | .full => 0#32
  | .delta b => b

/-- An optional value whose absence is written 0. -/
def orZero {α : Type} (o : Option α) (f : α → Nat) : Byte := octet ((o.map f).getD 0)

/-- An optional value whose absence is written 255. -/
def orFF {α : Type} (o : Option α) (f : α → Nat) : Byte := octet ((o.map f).getD 255)

/-! ### Payloads (10 section 10.6) -/

/-- READ_NODE OK. -/
def NodeReport.octets (r : NodeReport) : List Byte :=
  le4 r.ms
    ++ [octet r.number.num, flagOctet r.present, orZero r.group GroupId.num, octet r.state.code, orZero r.role Role.code,
        orZero r.cause Cause.code, orZero r.drive DriveReason.code, octet r.attempts, flagOctet r.warmCapable,
        flagOctet r.nudgeSent, orZero r.mark SettleMark.code, orFF r.openRec (fun i => i.val), octet r.errors,
        flagOctet r.lastBeat.isSome]
    ++ le4 (r.lastBeat.getD 0#32)
    ++ [orZero r.queued (fun q => q.position), orZero r.queued (fun q => if q.escalated then 2 else 1),
        flagOctet (r.queued.bind fun q => q.deadline).isSome]
    ++ le4 ((r.queued.bind fun q => q.deadline).getD 0#32)
    ++ [orFF (r.restoring.map fun c => c.chan) ChanId.num, orZero (r.restoring.map fun c => c.phase) ChanPhase.code,
        orFF (r.restoring.bind fun c => c.position) (fun k => k), orFF (r.restoring.bind fun c => c.index) (fun k => k),
        orFF (r.restoring.map fun c => c.notReady) (fun k => k)]
    ++ le4 ((r.restoring.map fun c => c.fullGen).getD 0#32)

/-- READ_GROUP OK. -/
def GroupReport.octets (r : GroupReport) : List Byte :=
  le4 r.ms
    ++ [octet r.number.num, octet r.members.length, orZero r.members[0]? NodeId.num, orZero r.members[1]? NodeId.num,
        orZero r.initialDuty NodeId.num, octet r.state.code, orZero r.duty NodeId.num, orZero r.standby NodeId.num,
        flagOctet r.deadline.isSome]
    ++ le4 (r.deadline.getD 0#32) ++ le4 (r.point.getD 0#32)
    ++ [flagOctet r.outstanding, flagOctet r.declined, flagOctet r.escalated, orZero r.roleLater NodeId.num]

/-- The 4-octet flag and mask fields: bits 27 to 31 are sent as 0. -/
def alertField (f : BitVec 27) : List Byte := le4 (f.setWidth 32)

/-- READ_ALERTS OK. -/
def AlertsReport.octets (r : AlertsReport) : List Byte :=
  alertField r.flags ++ alertField r.masks ++ [flagOctet r.enable]
    ++ (r.channels.flatMap fun c => [octet c.1.code, octet c.2.1.code, octet c.2.2]) ++ [octet r.link0Errors]

/-- A committed record in READ_STORE: 18 octets. -/
def committedOctets (e : Slot × Record) : List Byte :=
  [octet e.1.val] ++ le4 e.2.gen ++ [octet e.2.kind.code] ++ le4 e.2.kind.base ++ le2 e.2.declared
    ++ [octet e.2.blocks.length] ++ le4 (match e.2.status with | .committed _ t => t | _ => 0#32) ++ [flagOctet e.2.pinned]

/-- An open or verifying record in READ_STORE: 15 octets. -/
def unfinishedOctets (e : Slot × Record) : List Byte :=
  [octet e.1.val] ++ le4 e.2.gen ++ [octet e.2.kind.code] ++ le4 e.2.kind.base ++ le2 e.2.declared ++ le2 e.2.received
    ++ [octet e.2.status.code]

/-- One node in READ_STORE. -/
def NodeStoreReport.octets (r : NodeStoreReport) : List Byte :=
  [octet r.node.num] ++ le4 r.counter ++ [octet r.committed.length] ++ r.committed.flatMap committedOctets
    ++ match r.unfinished with
       | some e => flagOctet true :: unfinishedOctets e
       | none => flagOctet false :: List.replicate 15 0#8

/-- READ_STORE OK. The layout gives a clear cursor's node as 0 and is silent on its generation and offset; that these are sent as 0 too
is the model's reading (log entry 35). -/
def StoreReport.octets (r : StoreReport) : List Byte :=
  le4 r.seconds ++ le2 r.freeCount
    ++ (match r.cursor with
        | some c => [octet c.node.num] ++ le4 c.gen ++ le2 c.offset
        | none => List.replicate 7 0#8)
    ++ r.nodes.flatMap NodeStoreReport.octets

/-- The body of a REPLY. -/
def Body.octets : Body → List Byte
  | .none => []
  | .hello .warm cause attempts => [octet 0, octet 0, octet cause.code, octet attempts]
  | .hello (.cold reason) cause attempts => [octet 1, octet reason.code, octet cause.code, octet attempts]
  | .resumed role => [octet role.code]
  | .who st rl g gst count =>
    [octet st.code, orZero rl Role.code, octet g.num, octet gst.code, octet count]
  | .opened gen blocks free => le4 gen ++ [octet blocks] ++ le2 free
  | .progress gen index received free => le4 gen ++ [octet index] ++ le2 received ++ le2 free
  | .committed gen time listLength => le4 gen ++ le4 time ++ [octet listLength]
  | .damagedWord gen offset => le4 gen ++ le2 offset
  | .mismatch gen sum => le4 gen ++ le4 sum
  | .dropped gen free => le4 gen ++ le2 free
  | .newest gen => le4 gen
  | .node r => r.octets
  | .group r => r.octets
  | .alerts r => r.octets
  | .store r => r.octets
  | .oldMasks masks enable => alertField masks ++ [flagOctet enable]
  | .oldChannel state run => [octet state.code, octet run]
  | .peekedAt kind declared time => [octet kind.code] ++ le4 kind.base ++ le2 declared ++ le4 time
  | .peeked gen offset words atEnd damagedOffset =>
    le4 gen ++ le2 offset ++ [octet words.length, flagOctet atEnd] ++ words.flatMap le4
      ++ (damagedOffset.map le2).getD []
  | .planItem item index => [octet item, octet index]

/-- The KIND octet of a frame that the part sends (R162). -/
def Frame.kind : Frame → Byte
  | .reply _ _ _ => 0x80#8
  | .data _ _ _ => 0x81#8
  | .done _ _ => 0x82#8
  | .verdict _ => 0x83#8
  | .take _ => 0x84#8
  | .role _ _ => 0x85#8
  | .nudge => 0x86#8

/-- The payload of a frame that the part sends. -/
def Frame.payload : Frame → List Byte
  | .reply kind result body => [kind, octet result.code] ++ body.octets
  | .data position index words => [octet position, octet index, octet words.length] ++ words.flatMap le4
  | .done status gen => [octet status.code] ++ le4 gen
  | .verdict reason => [octet 1, octet reason.code]
  | .take g => [octet g.num]
  | .role g r => [octet g.num, octet r.code]
  | .nudge => []

/-! ### The frame and its check (R157) -/

/-- One shift of the CRC register with generator x^16 + x^12 + x^5 + 1. -/
def crcShift (r : BitVec 16) : BitVec 16 := if r.msb then (r <<< 1) ^^^ 0x1021#16 else r <<< 1

/-- An octet is taken most significant bit first. -/
def crcOctet (r : BitVec 16) (b : Byte) : BitVec 16 :=
  let x := r ^^^ (b.setWidth 16 <<< 8)
  crcShift (crcShift (crcShift (crcShift (crcShift (crcShift (crcShift (crcShift x)))))))

/-- The register starts at 0xFFFF, and the result is not inverted. -/
def crc (bs : List Byte) : BitVec 16 := bs.foldl crcOctet 0xFFFF#16

/-- The octets that the CRC covers: KIND, LEN and the payload. -/
def frameHead (kind : Byte) (payload : List Byte) : List Byte := kind :: le2 payload.length ++ payload

/-- The octet that begins a frame. -/
def sync : Byte := 0xC3#8

/-- The octets of a frame (R163): SYNC, KIND, LEN, payload, CRC, LEN and CRC least significant octet first. -/
def frameOctets (kind : Byte) (payload : List Byte) : List Byte :=
  let head := frameHead kind payload
  sync :: head ++ le2 (crc head).toNat

/-- A frame of the part as it goes out. -/
def Frame.octets (f : Frame) : List Byte := frameOctets f.kind f.payload

/-! ### The link receiver (R157)

The commands of the table are whole frames (log entry 1). This is the receiver that turns the octets of a link into them. -/

/-- What a receiver meets: an octet, with its stop bit or without, or a gap of more than 1 ms. -/
inductive LineEvent
  | octet (b : Byte) (stopBit : Bool)
  | gap
  deriving DecidableEq, Repr

/-- What a receiver hands on: an intact frame or a damaged one. -/
inductive Received
  | intact (kind : Byte) (payload : List Byte)
  | damaged
  deriving DecidableEq, Repr

/-- LEN, once KIND and LEN have been read. -/
def gatheredLen (bs : List Byte) : Nat := (bs.getD 1 0#8).toNat + 256 * (bs.getD 2 0#8).toNat

/-- A frame whose last octet has come: intact when the CRC received is the CRC computed. -/
def judgeFrame (bs : List Byte) : Received :=
  let head := bs.take (3 + gatheredLen bs)
  if bs.drop (3 + gatheredLen bs) = le2 (crc head).toNat then .intact (bs.getD 0 0#8) (head.drop 3) else .damaged

/-- The receiver takes one event. It hunts for 0xC3, gathers KIND, LEN, payload and CRC, gives a frame up as damaged at a LEN above
264, a missing stop bit or a gap, and hunts again when the frame ends. The SYNC octet is an octet of the frame, so that a 0xC3
without its stop bit begins a frame that is damaged. R157 says only for a LEN above 264 when a damaged frame is given up: that one
without a stop bit ends with that octet, and one with a gap at the gap, is the model's choice (log entry 30). -/
def Receiver.take (r : Receiver) (e : LineEvent) : Receiver × Option Received :=
  match r, e with
  | .hunting, .octet b stop =>
    if b = sync then (if stop then (.gathering [], none) else (.hunting, some .damaged)) else (.hunting, none)
  | .hunting, .gap => (.hunting, none)
  | .gathering _, .gap => (.hunting, some .damaged)
  | .gathering bs, .octet b stop =>
    let bs := bs ++ [b]
    if !stop then (.hunting, some .damaged)
    else if bs.length = 3 ∧ Config.maxPayload < gatheredLen bs then (.hunting, some .damaged)
    else if 3 ≤ bs.length ∧ bs.length = 5 + gatheredLen bs then (.hunting, some (judgeFrame bs))
    else (.gathering bs, none)

/-- The frames that a run of events brings, in order, and the receiver afterwards. -/
def Receiver.run : Receiver → List LineEvent → Receiver × List Received
  | r, [] => (r, [])
  | r, e :: es =>
    let (r', got) := r.take e
    let (r'', rest) := Receiver.run r' es
    (r'', got.toList ++ rest)

/-- The command that a received frame is: FRAME_DAMAGED, the command of its kind, or BAD_KIND_FRAME for a KIND that R159 check 1
or 2 turns away. -/
def Received.command (l : Link) : Received → Instr
  | .damaged => .frameDamaged l
  | .intact c p =>
    match Kind.ofCode c with
    | none => .badKindFrame l c
    | some k =>
      match k with
      | .hello => .hello l p | .beat => .beat l p | .quiet => .quiet l p | .awake => .awake l p
      | .askRestart => .askRestart l p | .resumed => .resumed l p | .who => .who l p | .openRecord => .openRecord l p
      | .block => .block l p | .commit => .commit l p | .drop => .drop l p | .ack => .ack l p | .taken => .taken l p
      | .readNode => .readNode l p | .readGroup => .readGroup l p | .readStore => .readStore l p
      | .readAlerts => .readAlerts l p | .peekAt => .peekAt l p | .peekNext => .peekNext l p | .restart => .restart l p
      | .halt => .halt l p | .release => .release l p | .limit => .limit l p | .mask => .mask l p | .set => .set l p
      | .apply => .apply l p | .save => .save l p | .resync => .resync l p

end Sys2Proof.Machine
end

