-- ==== Sys2Proof/Machine/Dispatch.lean ====
section
/-! DEFINITION. The effect of each command: one arm per row of spec/opcode_table.json. -/

namespace Sys2Proof.Machine

def exec (i : Instr) (s : State) : Host.Outcome State Fault Refusal :=
  match i with
  | .powerOnReset => Sys2Proof.Machine.execPowerOnReset s
  | .resetAssert => Sys2Proof.Machine.execResetAssert s
  | .pinReset => Sys2Proof.Machine.execPinReset s
  | .clockTick => Sys2Proof.Machine.execClockTick s
  | .frameDamaged link => Sys2Proof.Machine.execFrameDamaged link s
  | .badKindFrame link kind => Sys2Proof.Machine.execBadKindFrame link kind s
  | .hello link payload => Sys2Proof.Machine.execHello link payload s
  | .beat link payload => Sys2Proof.Machine.execBeat link payload s
  | .quiet link payload => Sys2Proof.Machine.execQuiet link payload s
  | .awake link payload => Sys2Proof.Machine.execAwake link payload s
  | .askRestart link payload => Sys2Proof.Machine.execAskRestart link payload s
  | .resumed link payload => Sys2Proof.Machine.execResumed link payload s
  | .who link payload => Sys2Proof.Machine.execWho link payload s
  | .openRecord link payload => Sys2Proof.Machine.execOpen link payload s
  | .block link payload => Sys2Proof.Machine.execBlock link payload s
  | .commit link payload => Sys2Proof.Machine.execCommit link payload s
  | .drop link payload => Sys2Proof.Machine.execDrop link payload s
  | .commitPassComplete node => Sys2Proof.Machine.execCommitPassComplete node s
  | .ack link payload => Sys2Proof.Machine.execAck link payload s
  | .taken link payload => Sys2Proof.Machine.execTaken link payload s
  | .readNode link payload => Sys2Proof.Machine.execReadNode link payload s
  | .readGroup link payload => Sys2Proof.Machine.execReadGroup link payload s
  | .readStore link payload => Sys2Proof.Machine.execReadStore link payload s
  | .readAlerts link payload => Sys2Proof.Machine.execReadAlerts link payload s
  | .peekAt link payload => Sys2Proof.Machine.execPeekAt link payload s
  | .peekNext link payload => Sys2Proof.Machine.execPeekNext link payload s
  | .restart link payload => Sys2Proof.Machine.execRestart link payload s
  | .halt link payload => Sys2Proof.Machine.execHalt link payload s
  | .release link payload => Sys2Proof.Machine.execRelease link payload s
  | .limit link payload => Sys2Proof.Machine.execLimit link payload s
  | .mask link payload => Sys2Proof.Machine.execMask link payload s
  | .set link payload => Sys2Proof.Machine.execSet link payload s
  | .apply link payload => Sys2Proof.Machine.execApply link payload s
  | .save link payload => Sys2Proof.Machine.execSave link payload s
  | .saveComplete sum => Sys2Proof.Machine.execSaveComplete sum s
  | .resync link payload => Sys2Proof.Machine.execResync link payload s
  | .acquireExpiry node => Sys2Proof.Machine.execAcquireExpiry node s
  | .lapseExpiry node => Sys2Proof.Machine.execLapseExpiry node s
  | .stableExpiry node => Sys2Proof.Machine.execStableExpiry node s
  | .pulseExpiry node => Sys2Proof.Machine.execPulseExpiry node s
  | .bootExpiry node => Sys2Proof.Machine.execBootExpiry node s
  | .settleExpiry node => Sys2Proof.Machine.execSettleExpiry node s
  | .answerTimerExpiry node => Sys2Proof.Machine.execAnswerTimerExpiry node s
  | .holdoffExpiry chan => Sys2Proof.Machine.execHoldoffExpiry chan s
  | .verifyComplete chan => Sys2Proof.Machine.execVerifyComplete chan s
  | .takeoverPointReached group => Sys2Proof.Machine.execTakeoverPointReached group s
  | .deadlineReached group => Sys2Proof.Machine.execDeadlineReached group s
  | .storageDisturbance block word contents => Sys2Proof.Machine.execStorageDisturbance block word contents s
  | .supplyLoss => Sys2Proof.Machine.execSupplyLoss s

end Sys2Proof.Machine
end

