-- ==== Sys2Proof/Machine/Step.lean ====
section
/-! DEFINITION. A step of the part: the command at the front of the queue (log entry 2). -/

namespace Sys2Proof.Machine

/-- The front command is taken off the queue and its effect made. With no command waiting the part idles: its time advances by
CLOCK_TICK, a row of the table, so that nothing happens without a command. -/
def step (s : State) : Host.Outcome State Fault Refusal :=
  match s.pending with
  | [] => .next s
  | c :: rest => exec c { s with pending := rest }

/-- The command that a word spells, put at the front of the queue. No row of the table gives bits, so no word spells one and the
state stays as it is. -/
def State.withFetchWord (s : State) (nbits w : Nat) : State :=
  match decodeTableWord nbits w with
  | some c => { s with pending := c :: s.pending }
  | none => s

end Sys2Proof.Machine
end

