-- ==== Sys2Proof/Safety.lean ====
section
/-! DEFINITION. The laws that spec/ states of the part, as predicates of a state, and the conditions under which a frame is taken
by its owner. -/

namespace Sys2Proof.Machine

/-! ### Frames -/

/-- The kind, link and payload of a frame command. -/
def frameOf : Instr → Option (Kind × Link × List Byte)
  | .hello l p => some (.hello, l, p) | .beat l p => some (.beat, l, p) | .quiet l p => some (.quiet, l, p)
  | .awake l p => some (.awake, l, p) | .askRestart l p => some (.askRestart, l, p)
  | .resumed l p => some (.resumed, l, p) | .who l p => some (.who, l, p)
  | .openRecord l p => some (.openRecord, l, p) | .block l p => some (.block, l, p)
  | .commit l p => some (.commit, l, p) | .drop l p => some (.drop, l, p) | .ack l p => some (.ack, l, p)
  | .taken l p => some (.taken, l, p) | .readNode l p => some (.readNode, l, p)
  | .readGroup l p => some (.readGroup, l, p) | .readStore l p => some (.readStore, l, p)
  | .readAlerts l p => some (.readAlerts, l, p) | .peekAt l p => some (.peekAt, l, p)
  | .peekNext l p => some (.peekNext, l, p) | .restart l p => some (.restart, l, p) | .halt l p => some (.halt, l, p)
  | .release l p => some (.release, l, p) | .limit l p => some (.limit, l, p) | .mask l p => some (.mask, l, p)
  | .set l p => some (.set, l, p) | .apply l p => some (.apply, l, p) | .save l p => some (.save, l, p)
  | .resync l p => some (.resync, l, p)
  | .powerOnReset | .resetAssert | .pinReset | .clockTick | .frameDamaged _ | .badKindFrame _ _ | .commitPassComplete _
  | .saveComplete _ | .acquireExpiry _ | .lapseExpiry _ | .stableExpiry _ | .pulseExpiry _ | .bootExpiry _
  | .settleExpiry _ | .answerTimerExpiry _ | .holdoffExpiry _ | .verifyComplete _ | .takeoverPointReached _
  | .deadlineReached _ | .storageDisturbance _ _ _ | .supplyLoss => none

/-- The command arrives on a link: a frame, whole, damaged or of a bad kind. -/
def arrivesOnLink : Instr → Bool
  | .frameDamaged _ | .badKindFrame _ _ => true
  | i => (frameOf i).isSome

/-- The receivers take what arrives: supply present, RESET input released (R164). -/
abbrev State.listens (s : State) : Prop := s.powered = true ∧ s.resetAsserted = false

/-- The frame passes the five checks of R159 and goes to its owner. -/
abbrev State.passes (s : State) (k : Kind) (l : Link) (p : List Byte) : Prop :=
  s.listens ∧ p.length ≤ Config.maxPayload ∧ k.allowedOn l = true ∧ s.linkPresent l = true ∧ k.lengthOk p = true
    ∧ ((s.port l).inProgress = none ∨ k.alwaysTaken = true)

/-! ### What a command leaves and what it sends -/

/-- The plans, the array, a SAVE under way, the clock, the RESET input, the supply and the waiting commands are kept. -/
abbrev State.sameSetup (s t : State) : Prop :=
  t.active = s.active ∧ t.staged = s.staged ∧ t.array = s.array ∧ t.saving = s.saving ∧ t.clock = s.clock
    ∧ t.resetAsserted = s.resetAsserted ∧ t.powered = s.powered ∧ t.pending = s.pending

/-- The frames `fs` are formed for link l, in this order, and no link changes otherwise. With the RESET input asserted none is
formed (R164, log entry 4). -/
abbrev State.sends (s t : State) (l : Link) (fs : List Frame) : Prop :=
  t.port l = { s.port l with sent := (s.port l).sent ++ (if s.resetAsserted then [] else fs) }
    ∧ ∀ m, m ≠ l → t.port m = s.port m

/-- R34, R35, R54: what the beginning of a restart leaves in the node record. The reset pulse begins; or, with reset drive no, an
attempt is counted and the boot window begins; or, at the limit, the node is halted. -/
def NodeRec.beginsRestart (before after : NodeRec) (p : NodePlan) (why : DriveReason) : Prop :=
  after.drive = some why ∧ after.cause = before.cause ∧ after.warmCapable = before.warmCapable
    ∧ after.lastBeat = before.lastBeat ∧ after.mark = none ∧ after.acquire = none ∧ after.lapse = none
    ∧ after.stable = none ∧ after.settle = none
    ∧ if p.resetDrive then
        after.state = .reset ∧ after.resetLine = true ∧ after.pulse = Timer.start p.pulse ∧ after.boot = none
          ∧ after.attempts = before.attempts
      else if before.attempts < p.attemptLimit then
        after.state = .boot ∧ after.resetLine = false ∧ after.pulse = none ∧ after.boot = Timer.start p.bootMs
          ∧ after.attempts = before.attempts + 1
      else
        after.state = .halted ∧ after.resetLine = false ∧ after.pulse = none ∧ after.boot = none
          ∧ after.attempts = before.attempts

/-- R39, R48: the drive reason of a restart after a failed attempt that follows a HELLO. -/
def reasonFromCause : Option Cause → DriveReason
  | some .commanded => .commanded
  | some .requested => .requested
  | some .released => .released
  | some .lapse | some .supply | some .external | some .nodeWatchdog | some .unannounced | none => .lapse

/-- R42: the verdict by its four conditions in their order, from the cause, the warm capable flag of the HELLO, the warm-allowed set,
the restore set and the warm age limit. -/
def State.expectedVerdict (s : State) (n : NodeId) (cause : Cause) (capable : Bool) : Verdict :=
  if (s.nodePlan n).warmCauses.getLsbD cause.bit = false then .cold .causeNotWarm
  else if capable = false then .cold .notCapable
  else
    match (s.store.restoreSet n).getLast? with
    | none => .cold .noSet
    | some e => if (s.clock.sec - e.2.time).toNat ≤ (s.groupPlan (s.nodePlan n).group).warmAge then .warm else .cold .tooOld

/-! ### Nodes that leave service or UNKNOWN -/

/-- R50: the other member of the node's group, if it has one, is in service. -/
def State.partnerServes (s : State) (n : NodeId) : Prop := ∀ m, s.partner n = some m → (s.node m).state.inService = true

/-- R31: the command takes node n out of service: a lapse (R20, R24), an unannounced HELLO (R45), an ASK_RESTART (R51), a RESTART
(R52) or a HALT (R53) that is accepted. -/
def State.endsService (s : State) (n : NodeId) (c : Instr) : Prop :=
  (s.node n).state.inService = true ∧
    match c with
    | .lapseExpiry m => m = n ∧ s.powered = true ∧ (s.node n).lapse = some 0
        ∧ ((s.node n).state = .quiet → (s.node n).nudgeSent = true)
    | .hello l p => l = .node n ∧ s.passes .hello l p
    | .askRestart l p => l = .node n ∧ s.passes .askRestart l p ∧ s.partnerServes n
    | .restart l p => s.passes .restart l p ∧ octetAt p 0 = n.num ∧ s.present n = true
        ∧ (octetAt p 1 = 1 ∨ (octetAt p 1 = 0 ∧ s.partnerServes n))
    | .halt l p => s.passes .halt l p ∧ octetAt p 0 = n.num ∧ s.present n = true
    | _ => False

/-- R120, R121: the command takes node n out of UNKNOWN otherwise than to RUNNING: by its acquire expiry, a HELLO or a HALT. -/
def State.leavesUnknown (s : State) (n : NodeId) (c : Instr) : Prop :=
  (s.node n).state = .unknown ∧
    match c with
    | .acquireExpiry m => m = n ∧ s.powered = true ∧ (s.node n).acquire = some 0
    | .hello l p => l = .node n ∧ s.passes .hello l p
    | .halt l p => s.passes .halt l p ∧ octetAt p 0 = n.num ∧ s.present n = true
    | _ => False

/-- R91: what an event that answers an ended pass leaves of the link of node n. A COMMIT whose pass it ends is answered BAD_STATE
with the newest committed generation, and the link is free; otherwise the link is as it was. With the RESET input asserted no
answer is formed (log entry 4). -/
def State.endsPass (s t : State) (n : NodeId) : Prop :=
  t.port (.node n) =
    if (s.port (.node n)).inProgress = some .commit then
      { s.port (.node n) with
        inProgress := none
        sent := (s.port (.node n)).sent
          ++ (if s.resetAsserted then [] else [.reply 0x1A#8 .badState (.newest (s.store.newestGen n))]) }
    else s.port (.node n)

/-! ### The hold -/

/-- R13: the point is reached at the current time. -/
def State.isReached (s : State) (point : Word) : Prop := (s.clock.ms - point).toNat < 2 ^ 31

/-- R146: some monitor channel of group g with escalate yes is TRIPPED. -/
def State.tripped (s : State) (g : GroupId) : Prop :=
  ∃ k : Fin 16, (s.monitor[k]).settings.escalate = true ∧ (s.monitor[k]).settings.group = g
    ∧ (s.monitor[k]).state = .tripped

/-- R8: the deadline of a hold counted from `base`, and its takeover point. -/
def GroupPlan.deadlineFrom (p : GroupPlan) (base : Word) : Word := base + BitVec.ofNat 32 (p.holdTime * 1000)

def GroupPlan.pointFrom (p : GroupPlan) (base : Word) : Word := p.deadlineFrom base - BitVec.ofNat 32 (p.margin * 1000)

/-- R123: the entry of group g into the hold with these roles, under the group items p, its deadline counted from `base`. Takeover
outstanding and TAKE apart. -/
def State.entersHold (s t : State) (g : GroupId) (p : GroupPlan) (duty : NodeId) (standby : Option NodeId) (base : Word) : Prop :=
  (t.group g).deadline = some (p.deadlineFrom base) ∧ (t.group g).point = some (p.pointFrom base)
    ∧ (t.group g).duty = some duty ∧ (t.group g).standby = standby
    ∧ (t.group g).declined = false ∧ (t.group g).roleLater = none
    ∧ ((t.group g).escalated = true ↔ s.tripped g)
    ∧ t.flag .held = true
    ∧ (s.isReached (p.deadlineFrom base) → (t.group g).state = .unserved ∧ t.flag .unserved = true)
    ∧ (¬ s.isReached (p.deadlineFrom base) → (t.group g).state = .held)

/-- R131, R135: what a TAKE of group g that ends as a decline leaves of the group. A duty node that waits on LATER is told ROLE DUTY,
and the hold ends. -/
def State.declinesTake (s t : State) (g : GroupId) : Prop :=
  ((s.group g).roleLater = none → t.group g = { s.group g with outstanding := false, declined := true })
    ∧ ∀ m, (s.group g).roleLater = some m → (s.group g).duty = some m →
        t.group g =
            { s.group g with
              state := .served, deadline := none, point := none, pointTaken := false, outstanding := false
              declined := false, escalated := false, roleLater := none }
          ∧ (t.port (.node m)).sent = (s.port (.node m)).sent ++ (if s.resetAsserted then [] else [.role g .duty])

/-! ### Damage -/

/-- R68, R105, R106: what the damage of record r, at position k of the set that channel c restores, leaves, the frames `first` having
gone to the node. The record and its successors are discarded. A damaged DELTA leaves VERIFY on the shortened set. A damaged FULL
leaves VERIFY on the node's older set if that is young enough, else a second COLD verdict. -/
def State.fallsBack (s t : State) (c : ChanId) (b : Binding) (k : Nat) (r : Record) (first : List Frame) : Prop :=
  let u := s.discardDamaged r
  let verifies (set : List Slot) : Prop :=
    t.chan c = some { b with phase := .verify, set := set, position := 0, index := 0, resent := false, notReady := 0
                             holdoff := none, seen := [] }
      ∧ s.sends t (.node b.node) first
  let cold (why : ColdReason) : Prop :=
    s.sends t (.node b.node) (first ++ [.verdict why]) ∧ (t.node b.node).state = .settling
      ∧ (t.node b.node).mark = some .cold ∧ (t.node b.node).channel = none
      ∧ (t.node b.node).settle = Timer.start (s.nodePlan b.node).coldSettleMs
      ∧ (t.node b.node).cause = (s.node b.node).cause ∧ t.flag .coldStart = true
  let limit : Nat := (s.groupPlan (s.nodePlan b.node).group).warmAge
  t.flag .damaged = true
    ∧ (∀ e ∈ s.store.discardSet r, t.store.dir[e.1] = none)
    ∧ t.store.pool = s.store.pool ∧ t.store.gens = s.store.gens ∧ t.store.freeList = u.store.freeList
    ∧ t.groups = s.groups ∧ t.monitor = s.monitor ∧ s.sameSetup t
    ∧ (∀ g, r.kind = .delta g → verifies (b.set.take k) ∧ ∀ m, (t.node m).state = (s.node m).state)
    ∧ (r.kind = .full → u.store.restoreSet b.node = [] → cold .damaged)
    ∧ ∀ e, r.kind = .full → (u.store.restoreSet b.node).getLast? = some e →
        (¬ (s.clock.sec - e.2.time).toNat ≤ limit → cold .tooOld)
          ∧ ((s.clock.sec - e.2.time).toNat ≤ limit → verifies ((u.store.restoreSet b.node).map Prod.fst))

/-! ### What every part reset leaves -/

/-- The values that all three part resets give alike, under the plan that stands after them (R5, R9, R32, R57, R118, R148, R156,
R164). Link 0's frames are left out, because a RESYNC is answered there. -/
def State.fresh (t : State) : Prop :=
  (∀ n, t.node n = if t.present n then NodeRec.entersUnknown (t.nodePlan n) else NodeRec.atReset)
    ∧ (∀ g, t.group g = { GroupRec.atReset with state := if t.active.members g = [] then .vacant else .pending })
    ∧ (∀ n, t.port (.node n) = Port.atReset) ∧ (∀ n, t.exchange n = ExchangeSlot.empty)
    ∧ (t.port .supervisor).rx = .hunting ∧ (t.port .supervisor).inProgress = none ∧ (t.port .supervisor).errors = 0
    ∧ t.queue = [] ∧ (∀ c, t.chan c = none)
    ∧ (∀ k : Fin 16, (t.monitor[k]).state = .clear ∧ (t.monitor[k]).run = 0)
    ∧ t.alerts.masks = 0#27 ∧ t.alerts.enable = false ∧ t.store.peek = none

/-! ### Laws -/

/-- R35, the law of attempt accounting. -/
def State.attemptLaw (s : State) : Prop := ∀ n, (s.node n).attempts ≤ (s.nodePlan n).attemptLimit

/-- The blocks that the directory's records hold, slot by slot. -/
def Store.heldBlocks (st : Store) : List Nat :=
  st.dir.toList.flatMap fun o => match o with | some r => r.blocks | none => []

/-- R59, the law of block accounting: every block of the pool is in exactly one place, and there once. -/
def Store.blockAccounting (st : Store) : Prop := (st.freeList ++ st.heldBlocks).Perm (List.range Config.poolBlocks)

/-- R62, the law of generations, as the directory shows it: a record's generation is at least 1 and at most its node's counter,
and no two records of one node have the same. -/
def Store.generationLaw (st : Store) : Prop :=
  (∀ (i : Slot) (r : Record), st.dir[i] = some r → 1 ≤ r.gen.toNat ∧ r.gen.toNat ≤ (st.gens.get r.node).toNat)
    ∧ ∀ (i j : Slot) (r q : Record), st.dir[i] = some r → st.dir[j] = some q → r.node = q.node → r.gen = q.gen → i = j

/-- R67, R90, R160: a node has an open or verifying record only in service, its open record field names that record and no other,
and a COMMIT is in progress on its link exactly while the record is VERIFYING. -/
def State.uploadLaw (s : State) : Prop :=
  (∀ n i, (s.node n).openRec = some i →
      (s.node n).state.inService = true ∧ ∃ r, s.store.dir[i] = some r ∧ r.node = n ∧ r.isCommitted = false)
    ∧ (∀ (i : Slot) (r : Record), s.store.dir[i] = some r → r.isCommitted = false → (s.node r.node).openRec = some i)
    ∧ ∀ n, (s.port (.node n)).inProgress
        = if ((s.node n).openRec.bind fun i => s.store.dir[i]).any Record.isVerifying then some .commit else none

/-- R96, the law of the queue: it holds each node at most once, and exactly the nodes in QUEUED. -/
def State.queueLaw (s : State) : Prop := s.queue.Nodup ∧ ∀ n, n ∈ s.queue ↔ (s.node n).state = .queued

/-- R101, the law of the channels: a channel is bound exactly while one node is in RESTORING with that channel. -/
def State.channelLaw (s : State) : Prop :=
  (∀ n, (s.node n).channel.isSome = true ↔ (s.node n).state = .restoring)
    ∧ ∀ n c, (s.node n).channel = some c ↔ ∃ b, s.chan c = some b ∧ b.node = n

/-- R102: no channel stays IDLE while the queue holds a node. -/
def State.arbiterLaw (s : State) : Prop := s.queue ≠ [] → ∀ c, s.chan c ≠ none

/-- R97, part 1 of the order key: node n has class ESCALATED. -/
def State.keyEscalated (s : State) (n : NodeId) : Bool :=
  (s.groupOf n).any fun g => decide ((s.group g).duty = some n) && (s.group g).escalated

/-- R97, part 2 of the order key: the deadline. -/
def State.keyDeadline (s : State) (n : NodeId) : Option Word :=
  (s.groupOf n).bind fun g =>
    if (s.group g).duty = some n ∧ ((s.group g).state = .held ∨ (s.group g).state = .unserved) then (s.group g).deadline
    else none

/-- R97: a goes before b. The parts are compared in order, two deadlines by their signed distance from the current time (R13). -/
def State.ahead (s : State) (a b : NodeId) : Bool :=
  if s.keyEscalated a = s.keyEscalated b then
    match s.keyDeadline a, s.keyDeadline b with
    | some t, some u => decide ((s.clock.ms - u).toInt < (s.clock.ms - t).toInt) || (decide (t = u) && decide (a.num < b.num))
    | some _, none => true
    | none, some _ => false
    | none, none => decide (a.num < b.num)
  else s.keyEscalated a

/-- R97 to R99: the queue is in the order of its keys. -/
def State.orderLaw (s : State) : Prop := s.queue.Pairwise fun a b => s.ahead a b = true

/-- The laws of 06 together. -/
def State.schedulerLaw (s : State) : Prop := s.queueLaw ∧ s.orderLaw ∧ s.channelLaw ∧ s.arbiterLaw

/-- R63, R64, the laws of the committed list and of bases: at most 4 committed records of a node, and every committed DELTA stands
after a committed FULL of its node that is its base. -/
def Store.listLaw (st : Store) : Prop :=
  ∀ n, (st.committed n).length ≤ Config.maxCommitted
    ∧ ∀ e ∈ st.committed n, ∀ b, e.2.kind = .delta b → ∃ f ∈ st.fulls n, f.2.gen = b ∧ b.toNat < e.2.gen.toNat

/-- R64: a DELTA that is not committed yet is based on its node's newest committed FULL. -/
def Store.baseLaw (st : Store) : Prop :=
  ∀ (i : Slot) (r : Record) (b : Word), st.dir[i] = some r → r.isCommitted = false → r.kind = .delta b →
    (st.newestFull r.node).map (fun f => f.2.gen) = some b ∧ b.toNat < r.gen.toNat

/-- 06 section 6.2: the set being restored is the restore set of the bound node. -/
def State.bindingLaw (s : State) : Prop :=
  ∀ c b, s.chan c = some b → b.set = (s.store.restoreSet b.node).map Prod.fst

/-- R72, the law of pins: a record is pinned exactly while it belongs to the set that a channel restores. -/
def State.pinLaw (s : State) : Prop :=
  ∀ (i : Slot) (r : Record), s.store.dir[i] = some r →
    (r.pinned = true ↔ ∃ c b, s.chan c = some b ∧ b.node = r.node ∧ i ∈ b.set)

/-- The laws of 04 together, with the laws of 05 and 06 on which they rest. -/
def State.storeLaw (s : State) : Prop :=
  s.store.generationLaw ∧ s.uploadLaw ∧ s.schedulerLaw ∧ s.store.listLaw ∧ s.store.baseLaw ∧ s.bindingLaw ∧ s.pinLaw

/-- R8: the deadline and the takeover point are present exactly while the group is HELD or UNSERVED, and only then is the group
escalated. -/
def State.holdLaw (s : State) : Prop :=
  ∀ g, (s.group g).deadline.isSome = (s.group g).state.inHold ∧ (s.group g).point.isSome = (s.group g).state.inHold
    ∧ ((s.group g).escalated = true → (s.group g).state.inHold = true)

/-- R7, R121: a group has a duty node exactly in the states other than VACANT and PENDING. -/
def State.dutyLaw (s : State) : Prop :=
  ∀ g, (s.group g).duty.isSome = true ↔ ((s.group g).state ≠ .vacant ∧ (s.group g).state ≠ .pending)

/-- R121, the law of roles: in any state other than VACANT and PENDING a group has one duty node, a member of it, and its other
member, if any, is its standby. R7: in VACANT and PENDING both are absent. -/
def State.roleLaw (s : State) : Prop :=
  s.dutyLaw
    ∧ ∀ g, (∀ d, (s.group g).duty = some d → d ∈ s.active.members g ∧ (s.group g).standby = s.active.otherMember g d)
      ∧ ((s.group g).duty = none → (s.group g).standby = none)

/-- R8, R128, R161: a TAKE in an exchange slot is that of the standby of a group with takeover outstanding, and takeover is
outstanding only in the hold. -/
def State.takeLaw (s : State) : Prop :=
  (∀ n g, (s.exchange n).outstanding = some (.take g) → (s.group g).standby = some n ∧ (s.group g).outstanding = true)
    ∧ ∀ g, (s.group g).outstanding = true → (s.group g).state.inHold = true

/-- The laws of 07 together. -/
def State.groupLaw (s : State) : Prop := s.holdLaw ∧ s.roleLaw ∧ s.takeLaw

/-- R165, R166: the plans hold values in their ranges, and the active plan passes the checks of R167. -/
def State.planLaw (s : State) : Prop :=
  s.active.inRange = true ∧ s.active.firstFault = none ∧ s.staged.inRange = true

/-- R141: the run counter by the channel's state. -/
def MonChannel.counts (m : MonChannel) : Prop :=
  match m.state with
  | .clear => m.run = 0
  | .counting => 1 ≤ m.run ∧ m.run < m.settings.faultCount
  | .tripped => m.run = m.settings.faultCount

/-- R138, R141: every channel has valid settings and a run counter that fits its state. -/
def State.monitorLaw (s : State) : Prop :=
  ∀ k : Fin 16, (s.monitor[k]).settings.valid = true ∧ (s.monitor[k]).counts

/-- R11: the sub-second count is 0..999. R158: an error count stays at 255. -/
def State.countLaw (s : State) : Prop := s.clock.sub ≤ 999 ∧ ∀ l, (s.port l).errors ≤ Config.maxErrors

/-- R160, R170: a SAVE is in progress exactly while link 0 owes its reply, and the array is not good meanwhile. -/
def State.saveLaw (s : State) : Prop :=
  ((s.port .supervisor).inProgress = some .save ↔ s.saving.isSome = true)
    ∧ ((s.port .supervisor).inProgress = none ∨ (s.port .supervisor).inProgress = some .save)
    ∧ (s.saving.isSome = true → s.array = .torn)

end Sys2Proof.Machine
end

