-- ==== Sys2Proof/Certificates/Slice0/Obligations.lean ====
section
/-! DEFINITION. The statements about this model. Frames of a state are written `{ t with f := s.f } = s`: t differs from s in the
field f at most. -/

open Sys2Proof Sys2Proof.Machine

/-! ### The queue of commands -/

/-- A step takes the front command and makes its effect on the rest of the queue; with no command waiting the part idles. The idle
step is the model's choice (log entry 2). -/
def Obligations.StepTakesFrontCommand : Prop :=
  (∀ (c : Instr) (rest : List Instr) (s : State),
      step { s with pending := c :: rest } = exec c { s with pending := rest })
    ∧ ∀ s : State, s.pending = [] → step s = .next s

/-- Every command has an effect, ignores or answers: none stops the part, and none touches the commands that wait. -/
def Obligations.EveryCommandAnswersNext : Prop :=
  ∀ (c : Instr) (s : State), ∃ t, exec c s = .next t ∧ t.pending = s.pending

/-! ### Part resets, supply and storage -/

/-- R77: the store after power-on reset, with the first generation and the first block given after it. -/
def Obligations.PowerOnResetEmptiesTheStore : Prop :=
  ∀ s : State, ∃ t, exec .powerOnReset s = .next t
    ∧ (∀ i : Slot, t.store.dir[i] = none) ∧ (∀ n, t.store.committed n = [])
    ∧ (∀ n, (t.node n).openRec = none)
    ∧ t.store.freeList = List.range 1024 ∧ t.store.freeCount = 1024
    ∧ (∀ n, t.store.gens.get n = 0#32)
    ∧ t.store.peek = none
    ∧ (∀ k, t.store.pool.read k = ⟨0#32, true⟩)
    ∧ (∀ n i k declared, ((t.placeRecord n i k declared).store.dir[i]).map Record.gen = some 1#32)
    ∧ t.store.freeList.head? = some 0

/-- R169: what power-on reset and pin reset load from the array, and that a resync loads nothing; and the rest of the state after the
two. The layout of the image in words is the model's choice (log entry 14), and so are the bits of log entries 10 and 12 and the
levels of the supply and of the RESET input (log entries 5 and 7). That PLAN_FAULT is set also for an image whose sum is met and
whose items or plan checks fail follows R169, where R156 names the check word alone (log entry 33). -/
def Obligations.ResetLoadsTheArray : Prop :=
  (∀ (c : Instr) (s t : State), (c = .powerOnReset ∨ (c = .pinReset ∧ s.powered = true)) → exec c s = .next t →
      (∀ img check, s.array = .image img check → wordSum img.words + check = 0x4B5A4160#32 → img.plan.inRange = true →
          (∀ k : Fin 16, (img.settings[k]).valid = true) → img.plan.firstFault = none →
          t.active = img.plan ∧ (∀ k : Fin 16, (t.monitor[k]).settings = img.settings[k]) ∧ t.alerts.flags = 0#27)
        ∧ (s.array = .torn
            ∨ (∃ img check, s.array = .image img check ∧ (wordSum img.words + check ≠ 0x4B5A4160#32
                ∨ img.plan.inRange = false ∨ (∃ k : Fin 16, (img.settings[k]).valid = false)
                ∨ img.plan.firstFault ≠ none)) →
          t.active = Plan.empty ∧ (∀ k : Fin 16, (t.monitor[k]).settings = MonSettings.default)
            ∧ t.flag .planFault = true ∧ ∀ a, a ≠ .planFault → t.flag a = false)
        ∧ t.staged = t.active ∧ t.array = s.array ∧ t.fresh ∧ t.port .supervisor = .atReset ∧ t.saving = none
        ∧ t.powered = true ∧ t.resetAsserted = (decide (c = .powerOnReset) && s.resetAsserted))
    ∧ ∀ (p : List Byte) (s t : State), s.passes .resync .supervisor p → exec (.resync .supervisor p) s = .next t →
        t.active = s.active ∧ t.staged = s.staged ∧ t.array = s.array
          ∧ ∀ k : Fin 16, (t.monitor[k]).settings = (s.monitor[k]).settings

/-- R78: what a pin reset keeps of the store, and which records it removes, in which order. With the supply absent only the level of
the RESET input changes (log entry 7). -/
def Obligations.PinResetKeepsCommittedRecords : Prop :=
  ∀ s : State,
    (s.powered = false → exec .pinReset s = .next { s with resetAsserted := false })
    ∧ (s.powered = true → ∃ t, exec .pinReset s = .next t
        ∧ let kept (r : Record) : Bool :=
            r.isCommitted && (t.active.groupOf r.node).isSome && s.active.groupOf r.node = t.active.groupOf r.node
          (∀ i : Slot, t.store.dir[i] = ((s.store.dir[i]).filter kept).map fun r => { r with pinned := false })
            ∧ t.store.freeList = s.store.freeList ++ (NodeId.all.flatMap fun n =>
                ((s.store.recordsOf n).filter fun e => !kept e.2).flatMap fun e => e.2.blocks)
            ∧ t.store.pool = s.store.pool ∧ t.store.gens = s.store.gens ∧ t.store.peek = none
            ∧ t.clock = s.clock ∧ t.fresh ∧ t.port .supervisor = .atReset
            ∧ t.saving = none ∧ t.resetAsserted = false ∧ t.powered = true ∧ t.pending = s.pending)

/-- R171: RESYNC is a part reset that keeps the plans, the settings, the clock, the array and the committed records, and its REPLY is
the first frame of link 0 after it. -/
def Obligations.ResyncKeepsPlansAndRecords : Prop :=
  ∀ (p : List Byte) (s : State), s.passes .resync .supervisor p →
    ∃ t, exec (.resync .supervisor p) s = .next t ∧ t.fresh ∧ t.sameSetup s
      ∧ (∀ k : Fin 16, (t.monitor[k]).settings = (s.monitor[k]).settings) ∧ t.alerts.flags = 0#27
      ∧ t.port .supervisor = { Port.atReset with sent := [.reply 0x4E#8 .ok .none] }
      ∧ (∀ i : Slot,
          t.store.dir[i] = ((s.store.dir[i]).filter Record.isCommitted).map fun r => { r with pinned := false })
      ∧ t.store.freeList = s.store.freeList ++ (NodeId.all.flatMap fun n =>
          ((s.store.recordsOf n).filter fun e => !e.2.isCommitted).flatMap fun e => e.2.blocks)
      ∧ t.store.pool = s.store.pool ∧ t.store.gens = s.store.gens

/-- R164, R150: while the RESET input is asserted no frame is taken and none is formed, and the ALERT line is released (log entry 4).
R170 and the row SUPPLY_LOSS: a SAVE in progress ends without a reply, and nothing acts until the supply returns (log entry 7).
R58: a disturbance damages one word of the pool. A commit pass or a VERIFY under way reads the word as it was if it had read it
before, else as it now is, and every other word as before; nothing else changes. That the command says whether the word had been
read is the model's choice (log entries 9 and 21). -/
def Obligations.OutsideEventsHaveTheirEffect : Prop :=
  ((∀ s : State, ∃ t, exec .resetAssert s = .next t ∧ t.resetAsserted = true ∧ t.alertLine = false
      ∧ { t with resetAsserted := s.resetAsserted } = s ∧ ∀ l f, t.send l f = t)
    ∧ ∀ (c : Instr) (s : State), arrivesOnLink c = true → (s.resetAsserted = true ∨ s.powered = false) →
        exec c s = .next s)
    ∧ (∀ s : State, ∃ t, exec .supplyLoss s = .next t ∧ t.powered = false ∧ t.saving = none
      ∧ (s.saving.isSome = true → t.port .supervisor = { s.port .supervisor with inProgress := none })
      ∧ (s.saving.isSome = false → t.port .supervisor = s.port .supervisor)
      ∧ { t with powered := s.powered, saving := s.saving, supervisorPort := s.supervisorPort } = s
      ∧ ∀ c : Instr, c = .powerOnReset ∨ c = .resetAssert ∨ c = .pinReset ∨ exec c t = .next t)
    ∧ (∀ (b : Fin 1024) (w : Fin 64) (d : Disturbance) (s : State), s.powered = true → Memory.wf s.store.pool →
      let a := wordAddr b w
      let kept (order : List Nat) (seen : SeenWords) : SeenWords := seen.note order a (s.store.pool.read a) d.read
      let hadRead (order : List Nat) (seen : SeenWords) : Prop :=
        d.read = true ∨ ∃ e ∈ seen, order.idxOf a ≤ order.idxOf e.1
      ∃ t, exec (.storageDisturbance b w d) s = .next t
        ∧ t.store.pool.read a = ⟨d.left, false⟩
        ∧ (∀ k, k ≠ a → t.store.pool.read k = s.store.pool.read k)
        ∧ (∀ i : Slot, t.store.dir[i] = (s.store.dir[i]).map fun r =>
            match r.status with
            | .verifying expected seen => { r with status := .verifying expected (kept r.reading seen) }
            | _ => r)
        ∧ (∀ c, t.chan c = (s.chan c).map fun x =>
            if x.phase = .verify then { x with seen := kept (s.store.reading x.set) x.seen } else x)
        ∧ (∀ (order : List Nat) (seen : SeenWords), ∀ k ∈ order,
            (k = a → ¬ hadRead order seen → t.store.pool.readAs (kept order seen) k = ⟨d.left, false⟩)
              ∧ ((k = a → hadRead order seen) →
                  t.store.pool.readAs (kept order seen) k = s.store.pool.readAs seen k))
        ∧ { t with store := { t.store with pool := s.store.pool, dir := s.store.dir }, channels := s.channels } = s)

/-! ### The part clock and the timers -/

/-- R11: the two counters at each advance, and after each part reset. They advance whatever the RESET input and the part's work. -/
def Obligations.ClockAdvances : Prop :=
  (∀ s : State, s.powered = true → s.clock.sub ≤ 999 → ∃ t, exec .clockTick s = .next t
      ∧ t.clock.ms = s.clock.ms + 1#32
      ∧ (s.clock.sub < 999 → t.clock.sub = s.clock.sub + 1 ∧ t.clock.sec = s.clock.sec)
      ∧ (s.clock.sub = 999 → t.clock.sub = 0 ∧ t.clock.sec = s.clock.sec + 1#32))
    ∧ (∀ s t : State, exec .powerOnReset s = .next t → t.clock.ms = 0#32 ∧ t.clock.sub = 0 ∧ t.clock.sec = 0#32)
    ∧ (∀ s t : State, exec .pinReset s = .next t → t.clock = s.clock)
    ∧ ∀ (p : List Byte) (s t : State), exec (.resync .supervisor p) s = .next t → t.clock = s.clock

/-- R14, R13, R12: a timer started with d ms is due from the (d + 1)-th advance on, a point d ms ahead is reached after d advances,
and the age of a commit time is the seconds since it; and an advance changes the clock, the timers and the order of the queue
alone. That an expiry stays due until it is taken, and that an advance may change the order of the queue (R97), are the model's
readings (log entries 8 and 23). -/
def Obligations.TimersAndPointsCountAdvances : Prop :=
  (∀ d k : Nat, Timer.due (Timer.tick^[k] (Timer.start d)) = decide (d + 1 ≤ k))
    ∧ (∀ (start : Word) (d k : Nat), d < 2 ^ 31 → k < 2 ^ 31 →
        reached (start + BitVec.ofNat 32 d) (start + BitVec.ofNat 32 k) = decide (d ≤ k))
    ∧ (∀ (s : State) (time : Word) (k : Nat), k < 2 ^ 32 → s.clock.sec = time + BitVec.ofNat 32 k → s.age time = k)
    ∧ ∀ s : State, s.powered = true → ∃ t, exec .clockTick s = .next t
        ∧ (∀ n, t.node n =
            { s.node n with
              acquire := Timer.tick (s.node n).acquire
              lapse := Timer.tick (s.node n).lapse
              stable := Timer.tick (s.node n).stable
              pulse := Timer.tick (s.node n).pulse
              boot := Timer.tick (s.node n).boot
              settle := Timer.tick (s.node n).settle })
        ∧ (∀ n, t.exchange n = { s.exchange n with answer := Timer.tick (s.exchange n).answer })
        ∧ (∀ c, t.chan c = (s.chan c).map fun b => { b with holdoff := Timer.tick b.holdoff })
        ∧ t.queue.Perm s.queue
        ∧ { t with nodes := s.nodes, exchanges := s.exchanges, channels := s.channels, queue := s.queue, clock := s.clock } = s

/-! ### The link interface -/

/-- R157, R159, R160, R162: the checks of an intact frame in their order, and what a REPLY is. A KIND that checks 1 and 2 turn away is
answered BAD_KIND, echoing the KIND, but for a BEAT, ACK or TAKEN; a KIND that they let pass makes no BAD_KIND_FRAME, and the
model gives it no effect (log entry 20). A frame command with more payload than a frame can carry is a damaged one (log entry 22). -/
def Obligations.LinkInterfaceJudgesFrames : Prop :=
  ((∀ (c : Instr) (k : Kind) (l : Link) (p : List Byte) (s : State), frameOf c = some (k, l, p) → s.listens →
      p.length ≤ 264 →
      (k.allowedOn l = false → exec c s = .next (if k.silent then s else s.reply l k .badKind))
        ∧ (k.allowedOn l = true → s.linkPresent l = false →
            exec c s = .next (if k.silent then s else s.reply l k .notPresent))
        ∧ (k.allowedOn l = true → s.linkPresent l = true → k.lengthOk p = false →
            exec c s = .next (if k.silent then s else s.reply l k .badLength))
        ∧ (k.allowedOn l = true → s.linkPresent l = true → k.lengthOk p = true → (s.port l).inProgress ≠ none →
            k.alwaysTaken = false → exec c s = .next (s.reply l k .busy)))
    ∧ ∀ (s : State) (l : Link) (k : Kind) (r : Result) (b : Body), s.resetAsserted = false →
        s.sends (s.reply l k r b) l [.reply k.code r b]
          ∧ { s.reply l k r b with supervisorPort := s.supervisorPort, nodePorts := s.nodePorts } = s)
    ∧ (∀ (l : Link) (c : Byte) (s : State), s.listens → ∃ t, exec (.badKindFrame l c) s = .next t
      ∧ { t with supervisorPort := s.supervisorPort, nodePorts := s.nodePorts } = s
      ∧ (kindAccepted l c = false → c ≠ 0x11#8 → c ≠ 0x1C#8 → c ≠ 0x1D#8 → s.sends t l [.reply c .badKind .none])
      ∧ (c = 0x11#8 ∨ c = 0x1C#8 ∨ c = 0x1D#8 ∨ kindAccepted l c = true → t = s))
    ∧ (∀ (c : Instr) (k : Kind) (l : Link) (p : List Byte) (s : State), frameOf c = some (k, l, p) → s.listens →
      264 < p.length → exec c s = exec (.frameDamaged l) s)

/-- R158: a damaged frame is discarded whole and counted, on every link, and the counts are reported and reset as it says. -/
def Obligations.DamagedFrameIsCounted : Prop :=
  (∀ (l : Link) (s : State), s.listens → ∃ t, exec (.frameDamaged l) s = .next t
      ∧ t.port l = { s.port l with errors := min 255 ((s.port l).errors + 1) }
      ∧ (∀ m, m ≠ l → t.port m = s.port m)
      ∧ t.flag .linkFault = true ∧ (∀ a, a ≠ .linkFault → t.flag a = s.flag a)
      ∧ t.alerts.masks = s.alerts.masks ∧ t.alerts.enable = s.alerts.enable
      ∧ { t with supervisorPort := s.supervisorPort, nodePorts := s.nodePorts, alerts := s.alerts } = s)
    ∧ (∀ (n : NodeId) (p : List Byte) (s : State), s.passes .readNode .supervisor p → octetAt p 0 = n.num →
        ∃ t r, exec (.readNode .supervisor p) s = .next t ∧ s.sends t .supervisor [.reply 0x40#8 .ok (.node r)]
          ∧ r.errors = (s.port (.node n)).errors)
    ∧ (∀ (p : List Byte) (s : State), s.passes .readAlerts .supervisor p →
        ∃ t r, exec (.readAlerts .supervisor p) s = .next t ∧ s.sends t .supervisor [.reply 0x43#8 .ok (.alerts r)]
          ∧ r.link0Errors = (s.port .supervisor).errors)
    ∧ (∀ (s t : State) (l : Link), exec .powerOnReset s = .next t → (t.port l).errors = 0)
    ∧ (∀ (s t : State) (l : Link), s.powered = true → exec .pinReset s = .next t → (t.port l).errors = 0)
    ∧ ∀ (p : List Byte) (s t : State) (l : Link), s.passes .resync .supervisor p →
        exec (.resync .supervisor p) s = .next t → (t.port l).errors = 0

/-- R157, R163: the octets of a frame, received with their stop bits and without a gap, make the receiver hand on exactly that frame
and hunt again, and the command it makes is the command of that kind, link and payload. That the receiver is a function beside
commands that carry whole frames is the model's choice (log entry 1). -/
def Obligations.ReceiverReadsWhatTheLayoutWrites : Prop :=
  (∀ (code : Byte) (p : List Byte), p.length ≤ 264 →
      Receiver.run .hunting ((frameOctets code p).map fun b => .octet b true) = (.hunting, [.intact code p]))
    ∧ ∀ (c : Instr) (k : Kind) (l : Link) (p : List Byte), frameOf c = some (k, l, p) →
        Received.command l (.intact k.code p) = c

/-- R150: the ALERT line. It is a function of the state, so that it follows every step that changes what it depends on. -/
def Obligations.AlertLineFollowsFlagsMasksAndEnable : Prop :=
  ∀ s : State, s.alertLine = true ↔
    s.resetAsserted = false ∧ s.alerts.enable = true
      ∧ ∃ a : Alert, s.flag a = true ∧ s.alerts.masks.getLsbD a.bit = false

/-! ### Beats, quiet spells and requests of a node in service -/

/-- R18: a BEAT by the node's state, UNKNOWN apart. -/
def Obligations.BeatIsTakenByNodeState : Prop :=
  ∀ (n : NodeId) (p : List Byte) (s : State), s.passes .beat (.node n) p →
    ((s.node n).state = .halted ∨ (s.node n).state = .offline → exec (.beat (.node n) p) s = .next s)
      ∧ ((s.node n).state ≠ .halted → (s.node n).state ≠ .offline → (s.node n).state ≠ .unknown →
          ∃ t, exec (.beat (.node n) p) s = .next t
            ∧ t.node n =
              { s.node n with
                lastBeat := some s.clock.ms
                beatSincePending := true
                lapse := if (s.node n).state.inService then Timer.start (s.nodePlan n).lapseMs else (s.node n).lapse
                nudgeSent := if (s.node n).state = .quiet then false else (s.node n).nudgeSent }
            ∧ (∀ m, m ≠ n → t.node m = s.node m)
            ∧ t.store = s.store ∧ t.channels = s.channels ∧ s.sameSetup t
            ∧ (octetAt p 1 = 0 → { t with nodes := s.nodes } = s))

/-- R27, R121, R122, R129: the first BEAT of a node in UNKNOWN. What its DUTY claim does to a group that is PENDING; and, once the
group has left PENDING, the ROLE STANDBY that a standby is sent unless it claims STANDBY, and the TAKE of trigger 3. When a point
has passed is judged as log entry 10 says. -/
def Obligations.FirstBeatAcquiresTheNode : Prop :=
  ∀ (n : NodeId) (p : List Byte) (s : State), s.passes .beat (.node n) p → (s.node n).state = .unknown →
    ∃ t, exec (.beat (.node n) p) s = .next t
      ∧ t.node n =
        { s.node n with
          state := .running
          lastBeat := some s.clock.ms
          nudgeSent := false
          beatSincePending := true
          acquire := none
          lapse := Timer.start (s.nodePlan n).lapseMs
          stable := Timer.start (s.nodePlan n).stableMs
          pulse := none
          boot := none
          settle := none
          mark := none }
      ∧ (∀ m, m ≠ n → t.node m = s.node m)
      ∧ t.store = s.store ∧ t.channels = s.channels ∧ s.sameSetup t
      ∧ (∀ g, s.groupOf n = some g → (s.group g).state = .pending → roleClaim p = some .duty →
          t.group g =
              { s.group g with state := .served, duty := some n, standby := s.active.otherMember g n }
            ∧ (octetAt p 1 = 0 → (∀ k, k ≠ g → t.group k = s.group k) ∧ t.exchanges = s.exchanges
                ∧ t.monitor = s.monitor ∧ t.alerts = s.alerts
                ∧ (∀ m, s.active.otherMember g n = some m → (s.node m).state = .running →
                    s.sends t (.node m) [.role g .standby])
                ∧ ((∀ m, s.active.otherMember g n = some m → (s.node m).state ≠ .running) →
                    ∀ l, t.port l = s.port l)))
      ∧ ∀ g, s.groupOf n = some g → (s.group g).state ≠ .pending → octetAt p 1 = 0 →
          let told : List Frame := if roleClaim p = some .standby then [] else [.role g .standby]
          let seeks : Prop := (s.group g).state.inHold = true ∧ (s.group g).outstanding = false
            ∧ (s.group g).declined = false ∧ (s.pointPassed g = true ∨ (s.group g).escalated = true)
          (∀ k, k ≠ g → t.group k = s.group k) ∧ (∀ m, m ≠ n → t.exchange m = s.exchange m)
            ∧ t.monitor = s.monitor ∧ t.alerts = s.alerts ∧ t.queue = s.queue
            ∧ ((s.group g).standby = some n → seeks →
                t.group g = { s.group g with outstanding := true }
                  ∧ t.exchange n = ⟨some (.take g), Timer.start s.active.answerTime⟩
                  ∧ s.sends t (.node n) (told ++ [.take g]))
            ∧ ((s.group g).standby = some n → ¬ seeks →
                t.group g = s.group g ∧ t.exchange n = s.exchange n ∧ s.sends t (.node n) told)
            ∧ ((s.group g).standby ≠ some n →
                t.group g = s.group g ∧ t.exchange n = s.exchange n ∧ ∀ l, t.port l = s.port l)

/-- R121, R122, R8: the event that takes the last member of a PENDING group out of UNKNOWN resolves its roles, and no earlier one does
but a DUTY claim. First a BEAT without such a claim. Then an acquire expiry, a HELLO and a HALT, by the three cases of R121: the
initial duty node is RUNNING; or the other member is; or none is, and the initial duty node is designated out of service and the
group enters the hold, with its deadline counted from a BEAT taken since the group entered PENDING (log entry 12), else from now.
With the RESET input asserted no ROLE is formed (log entry 4). -/
def Obligations.LastMemberKnownResolvesTheGroup : Prop :=
  (∀ (n : NodeId) (p : List Byte) (s : State) (g : GroupId) (d : NodeId), s.planLaw → s.passes .beat (.node n) p →
    (s.node n).state = .unknown → s.groupOf n = some g → (s.group g).state = .pending → roleClaim p ≠ some .duty →
    s.active.initialDuty g = some d →
    ∃ t, exec (.beat (.node n) p) s = .next t
      ∧ ((∃ m ∈ s.active.members g, m ≠ n ∧ (s.node m).state = .unknown) → t.group g = s.group g)
      ∧ ((∀ m ∈ s.active.members g, m ≠ n → (s.node m).state ≠ .unknown) →
          let duty := if d = n ∨ (s.node d).state = .running then d else n
          t.group g =
              { s.group g with state := .served, duty := some duty, standby := s.active.otherMember g duty }
            ∧ (octetAt p 1 = 0 → t.port (.node n) =
                { s.port (.node n) with
                  sent := (s.port (.node n)).sent ++ [.role g (if duty = n then .duty else .standby)] })))
    ∧ ∀ (c : Instr) (n : NodeId) (g : GroupId) (d : NodeId) (s : State), s.leavesUnknown n c → s.groupOf n = some g →
      (s.group g).state = .pending → s.active.initialDuty g = some d →
      let runs (m : NodeId) : Prop := m ≠ n ∧ (s.node m).state = .running
      let other := s.active.otherMember g d
      let told (r : Role) : List Frame := if s.resetAsserted then [] else [.role g r]
      let base := if (s.node d).beatSincePending then (s.node d).lastBeat.getD s.clock.ms else s.clock.ms
      ∃ t, exec c s = .next t ∧ (t.node n).state ≠ .unknown ∧ (∀ k, k ≠ g → t.group k = s.group k)
        ∧ t.exchanges = s.exchanges
        ∧ ((∃ m ∈ s.active.members g, m ≠ n ∧ (s.node m).state = .unknown) → t.group g = s.group g)
        ∧ ((∀ m ∈ s.active.members g, m ≠ n → (s.node m).state ≠ .unknown) →
          (runs d → t.group g = { s.group g with state := .served, duty := some d, standby := other }
              ∧ (t.port (.node d)).sent = (s.port (.node d)).sent ++ told .duty)
            ∧ (¬ runs d → ∀ o, other = some o → runs o →
                t.group g = { s.group g with state := .served, duty := some o, standby := some d }
                  ∧ (t.port (.node o)).sent = (s.port (.node o)).sent ++ told .duty)
            ∧ (¬ runs d → (∀ o, other = some o → ¬ runs o) →
                s.entersHold t g (s.groupPlan g) d other base ∧ (t.group g).outstanding = false))

/-- R141 to R143: a reading by the mode and the state of its channel. -/
def Obligations.ReadingStepsTheChannel : Prop :=
  ∀ (n : NodeId) (p : List Byte) (k : Fin 16) (s : State), s.passes .beat (.node n) p → (s.node n).state ≠ .halted →
    (s.node n).state ≠ .offline → octetAt p 1 = 1 → octetAt p 2 = k.val → (s.monitor[k]).settings.valid = true →
    let m := s.monitor[k]
    let v := field2 p 3
    ∃ t, exec (.beat (.node n) p) s = .next t
      ∧ (∀ j, j ≠ k → t.monitor[j] = s.monitor[j]) ∧ (∀ j, j ≠ k → t.flag (.channel j) = s.flag (.channel j))
      ∧ (t.monitor[k]).settings = m.settings
      ∧ (m.settings.mode = .off ∨ 4095 < v → t.monitor[k] = m ∧ t.flag (.channel k) = s.flag (.channel k))
      ∧ (m.settings.mode ≠ .off → v ≤ 4095 → m.state ≠ .tripped →
          (m.settings.high < v → m.run + 1 = m.settings.faultCount →
              (t.monitor[k]).state = .tripped ∧ (t.monitor[k]).run = m.settings.faultCount
                ∧ t.flag (.channel k) = true)
            ∧ (m.settings.high < v → m.run + 1 ≠ m.settings.faultCount →
              (t.monitor[k]).state = .counting ∧ (t.monitor[k]).run = m.run + 1
                ∧ t.flag (.channel k) = s.flag (.channel k))
            ∧ (v ≤ m.settings.high → (t.monitor[k]).state = .clear ∧ (t.monitor[k]).run = 0
                ∧ t.flag (.channel k) = s.flag (.channel k)))
      ∧ (m.settings.mode ≠ .off → v ≤ 4095 → m.state = .tripped →
          (m.settings.high < v → t.monitor[k] = m
              ∧ t.flag (.channel k) = (s.flag (.channel k) || decide (m.settings.mode = .comparator)))
            ∧ (m.settings.hyst ≤ v → v ≤ m.settings.high → t.monitor[k] = m
                ∧ t.flag (.channel k) = s.flag (.channel k))
            ∧ (v < m.settings.hyst → (t.monitor[k]).state = .clear ∧ (t.monitor[k]).run = 0
                ∧ t.flag (.channel k) = (s.flag (.channel k) || decide (m.settings.mode = .twoTimes))))

/-- R127, R128: a trip of an escalating channel escalates its group in the hold, and TAKE goes to a RUNNING standby, declined or not. -/
def Obligations.TripEscalatesAHeldGroup : Prop :=
  ∀ (n : NodeId) (p : List Byte) (k : Fin 16) (g : GroupId) (s : State), s.passes .beat (.node n) p →
    (s.node n).state ≠ .halted → (s.node n).state ≠ .offline → (s.node n).state ≠ .unknown →
    octetAt p 1 = 1 → octetAt p 2 = k.val → field2 p 3 ≤ 4095 → (s.monitor[k]).settings.high < field2 p 3 →
    (s.monitor[k]).settings.mode ≠ .off → (s.monitor[k]).state ≠ .tripped →
    (s.monitor[k]).run + 1 = (s.monitor[k]).settings.faultCount →
    (s.monitor[k]).settings.escalate = true → (s.monitor[k]).settings.group = g → (s.group g).state.inHold = true →
    (s.group g).escalated = false →
    ∃ t, exec (.beat (.node n) p) s = .next t
      ∧ (∀ x, x ≠ g → t.group x = s.group x) ∧ t.store = s.store ∧ t.channels = s.channels ∧ s.sameSetup t
      ∧ (∀ m, (s.group g).standby = some m → (s.node m).state = .running → (s.group g).outstanding = false →
          t.group g = { s.group g with escalated := true, outstanding := true }
            ∧ t.exchange m = ⟨some (.take g), Timer.start s.active.answerTime⟩
            ∧ (∀ x, x ≠ m → t.exchange x = s.exchange x) ∧ s.sends t (.node m) [.take g])
      ∧ ((s.group g).outstanding = true ∨ (∀ m, (s.group g).standby = some m → (s.node m).state ≠ .running) →
          t.group g = { s.group g with escalated := true } ∧ t.exchanges = s.exchanges ∧ ∀ l, t.port l = s.port l)

/-- R22: QUIET by the node's state and role. -/
def Obligations.QuietIsOpenToARunningStandby : Prop :=
  ∀ (n : NodeId) (p : List Byte) (s : State) (g : GroupId), s.groupOf n = some g →
    (s.passes .quiet (.node n) p →
      ((s.node n).state = .running → (s.group g).standby = some n → (s.group g).duty ≠ some n →
          (s.group g).outstanding = false →
          ∃ t, exec (.quiet (.node n) p) s = .next t
            ∧ t.node n = { s.node n with state := .quiet, nudgeSent := false } ∧ (∀ m, m ≠ n → t.node m = s.node m)
            ∧ s.sends t (.node n) [.reply 0x12#8 .ok .none] ∧ t.eligible g = none
            ∧ { t with nodes := s.nodes, supervisorPort := s.supervisorPort, nodePorts := s.nodePorts } = s)
        ∧ ((s.node n).state = .running → (s.group g).standby = some n → (s.group g).duty ≠ some n →
            (s.group g).outstanding = true → exec (.quiet (.node n) p) s = .next (s.reply (.node n) .quiet .badState))
        ∧ ((s.node n).state = .running → (s.group g).duty = some n →
            exec (.quiet (.node n) p) s = .next (s.reply (.node n) .quiet .notStandby))
        ∧ ((s.node n).state = .running → (s.group g).duty ≠ some n → (s.group g).standby ≠ some n →
            exec (.quiet (.node n) p) s = .next (s.reply (.node n) .quiet .notStandby))
        ∧ ((s.node n).state ≠ .running →
            exec (.quiet (.node n) p) s = .next (s.reply (.node n) .quiet .badState)))
      ∧ (s.listens → p = [] → s.present n = true → (s.port (.node n)).inProgress = some .commit →
          exec (.quiet (.node n) p) s = .next (s.reply (.node n) .quiet .busy))

/-- R23, R128, R129: AWAKE returns the node to RUNNING, and a standby whose group is past its takeover point or escalated is then sent
TAKE, unless it has declined in this hold. Whether the point has passed is judged as log entry 10 says. -/
def Obligations.AwakeReturnsToRunning : Prop :=
  ∀ (n : NodeId) (p : List Byte) (s : State) (g : GroupId), s.passes .awake (.node n) p → (s.node n).state = .quiet →
    s.groupOf n = some g →
    let seeks : Prop := (s.group g).standby = some n ∧ (s.group g).state.inHold = true ∧ (s.group g).outstanding = false
      ∧ (s.group g).declined = false ∧ (s.pointPassed g = true ∨ (s.group g).escalated = true)
    ∃ t, exec (.awake (.node n) p) s = .next t
      ∧ t.node n = { s.node n with state := .running, nudgeSent := false } ∧ (∀ m, m ≠ n → t.node m = s.node m)
      ∧ (∀ k, k ≠ g → t.group k = s.group k) ∧ (∀ m, m ≠ n → t.exchange m = s.exchange m)
      ∧ t.store = s.store ∧ t.queue = s.queue ∧ t.channels = s.channels ∧ t.monitor = s.monitor ∧ t.alerts = s.alerts
      ∧ s.sameSetup t
      ∧ (seeks → t.group g = { s.group g with outstanding := true }
          ∧ t.exchange n = ⟨some (.take g), Timer.start s.active.answerTime⟩
          ∧ s.sends t (.node n) [.reply 0x13#8 .ok .none, .take g])
      ∧ (¬ seeks → t.group g = s.group g ∧ t.exchange n = s.exchange n
          ∧ s.sends t (.node n) [.reply 0x13#8 .ok .none])

/-- R51, R50, R31, R34: ASK_RESTART of a node in service. -/
def Obligations.AskRestartChecksThePartner : Prop :=
  ∀ (n : NodeId) (p : List Byte) (s : State), s.uploadLaw → s.passes .askRestart (.node n) p →
    (s.node n).state.inService = true →
    ((∀ m, s.partner n = some m → (s.node m).state.inService = true) →
        ∃ t rest, exec (.askRestart (.node n) p) s = .next t
          ∧ (s.node n).beginsRestart (t.node n) (s.nodePlan n) .requested ∧ (t.node n).openRec = none
          ∧ (t.node n).nudgeSent = false
          ∧ (∀ m, m ≠ n → t.node m = s.node m)
          ∧ (t.port (.node n)).sent = (s.port (.node n)).sent ++ .reply 0x14#8 .ok .none :: rest
          ∧ t.store.pool = s.store.pool ∧ t.store.gens = s.store.gens ∧ (∀ m, t.store.committed m = s.store.committed m)
          ∧ t.channels = s.channels ∧ t.monitor = s.monitor ∧ s.sameSetup t)
      ∧ ((∃ m, s.partner n = some m ∧ (s.node m).state.inService = false) →
        exec (.askRestart (.node n) p) s = .next (s.reply (.node n) .askRestart .partnerDown))

/-- R47, R133 to R135, R122, R129: RESUMED returns the node to service, with the role that its group gives it. When the takeover point
has passed is judged as log entry 10 says. -/
def Obligations.ResumedReturnsToService : Prop :=
  ∀ (n : NodeId) (p : List Byte) (s : State) (g : GroupId), s.passes .resumed (.node n) p →
    (s.node n).state = .settling → s.groupOf n = some g → (s.group g).duty ≠ (s.group g).standby ∨ (s.group g).duty = none →
    ∃ t, exec (.resumed (.node n) p) s = .next t
      ∧ t.node n =
        { s.node n with
          state := .running
          lastBeat := some s.clock.ms
          nudgeSent := false
          acquire := none
          lapse := Timer.start (s.nodePlan n).lapseMs
          stable := Timer.start (s.nodePlan n).stableMs
          pulse := none
          boot := none
          settle := none
          mark := none }
      ∧ (∀ m, m ≠ n → t.node m = s.node m) ∧ (∀ k, k ≠ g → t.group k = s.group k)
      ∧ t.store = s.store ∧ t.channels = s.channels ∧ t.monitor = s.monitor ∧ t.alerts = s.alerts ∧ s.sameSetup t
      ∧ ((s.group g).duty = some n → (s.group g).outstanding = false →
          t.group g =
              { s.group g with
                state := .served, deadline := none, point := none, pointTaken := false, escalated := false
                declined := false }
            ∧ s.sends t (.node n) [.reply 0x15#8 .ok (.resumed .duty)])
      ∧ ((s.group g).duty = some n → (s.group g).outstanding = true →
          t.group g = { s.group g with roleLater := some n }
            ∧ s.sends t (.node n) [.reply 0x15#8 .ok (.resumed .later)])
      ∧ ((s.group g).standby = some n → (s.group g).state.inHold = false →
          t.group g =
              { s.group g with state := if (s.group g).state = .takenOver then .served else (s.group g).state }
            ∧ s.sends t (.node n) [.reply 0x15#8 .ok (.resumed .standby)])
      ∧ ((s.group g).standby = some n → (s.group g).state.inHold = true →
          let seeks : Prop := (s.group g).outstanding = false ∧ (s.group g).declined = false
            ∧ (s.pointPassed g = true ∨ (s.group g).escalated = true)
          (seeks → t.group g = { s.group g with outstanding := true }
              ∧ t.exchange n = ⟨some (.take g), Timer.start s.active.answerTime⟩
              ∧ s.sends t (.node n) [.reply 0x15#8 .ok (.resumed .standby), .take g])
            ∧ (¬ seeks → t.group g = s.group g ∧ t.exchange n = s.exchange n
              ∧ s.sends t (.node n) [.reply 0x15#8 .ok (.resumed .standby)]))
      ∧ ((s.group g).duty ≠ some n → (s.group g).standby ≠ some n →
          t.group g = s.group g ∧ s.sends t (.node n) [.reply 0x15#8 .ok (.resumed .later)])

/-- R49, R23, R51, R40, R79, R80: the requests of a node that its state refuses change nothing. -/
def Obligations.RequestsOutOfStateAreRefused : Prop :=
  ∀ (n : NodeId) (p : List Byte) (s : State),
    (s.passes .resumed (.node n) p → (s.node n).state ≠ .settling →
        exec (.resumed (.node n) p) s = .next (s.reply (.node n) .resumed .badState))
      ∧ (s.passes .awake (.node n) p → (s.node n).state ≠ .quiet →
        exec (.awake (.node n) p) s = .next (s.reply (.node n) .awake .badState))
      ∧ (s.passes .askRestart (.node n) p → (s.node n).state.inService = false →
        exec (.askRestart (.node n) p) s = .next (s.reply (.node n) .askRestart .badState))
      ∧ (s.passes .hello (.node n) p → (s.node n).state = .reset ∨ (s.node n).state = .halted →
        exec (.hello (.node n) p) s = .next (s.reply (.node n) .hello .badState))
      ∧ (s.passes .openRecord (.node n) p → (s.node n).state.inService = false →
        exec (.openRecord (.node n) p) s = .next (s.reply (.node n) .openRecord .badState))
      ∧ ((s.node n).state.inService = false ∨ (s.node n).openRec = none →
        (s.passes .block (.node n) p → exec (.block (.node n) p) s
            = .next (s.reply (.node n) .block .badState (.newest (s.store.newestGen n))))
          ∧ (s.passes .commit (.node n) p → exec (.commit (.node n) p) s
            = .next (s.reply (.node n) .commit .badState (.newest (s.store.newestGen n))))
          ∧ (s.passes .drop (.node n) p → exec (.drop (.node n) p) s
            = .next (s.reply (.node n) .drop .badState (.newest (s.store.newestGen n)))))

/-- R155: WHO. -/
def Obligations.WhoReportsTheNodesStanding : Prop :=
  ∀ (n : NodeId) (p : List Byte) (s : State),
    (s.passes .who (.node n) p → ∃ role,
        exec (.who (.node n) p) s = .next (s.reply (.node n) .who .ok
          (.who (s.node n).state role (s.nodePlan n).group (s.group (s.nodePlan n).group).state (s.node n).attempts))
          ∧ ((s.group (s.nodePlan n).group).duty = some n → role = some .duty)
          ∧ ((s.group (s.nodePlan n).group).duty ≠ some n → (s.group (s.nodePlan n).group).standby = some n →
              role = some .standby)
          ∧ ((s.group (s.nodePlan n).group).duty ≠ some n → (s.group (s.nodePlan n).group).standby ≠ some n →
              role = none))
      ∧ (s.listens → p = [] → s.present n = true → (s.port (.node n)).inProgress = some .commit →
          exec (.who (.node n) p) s = .next (s.reply (.node n) .who .busy))
      ∧ (s.listens → p = [] → s.present n = false →
          exec (.who (.node n) p) s = .next (s.reply (.node n) .who .notPresent))
      ∧ (s.listens → p = [] → exec (.who .supervisor p) s = .next (s.reply .supervisor .who .badKind))

/-! ### HELLO and the verdict -/

/-- R41: the restart cause by the boot reason and the drive reason held, as a HELLO in BOOT writes it. In every other state that takes a
HELLO it is written in the same way. -/
def Obligations.HelloClassifiesTheRestart : Prop :=
  ∀ (n : NodeId) (p : List Byte) (s : State), s.passes .hello (.node n) p → (s.node n).state ≠ .reset →
    (s.node n).state ≠ .halted → (s.node n).state ≠ .offline →
    let d := (s.node n).drive
    let drives := (s.nodePlan n).resetDrive
    ∃ t, exec (.hello (.node n) p) s = .next t ∧ (t.node n).drive = none
      ∧ (t.node n).warmCapable = decide (octetAt p 1 = 1)
      ∧ (bootReason p = .power → (t.node n).cause = some .supply)
      ∧ (bootReason p = .resetLine → d = some .lapse → (t.node n).cause = some .lapse)
      ∧ (bootReason p = .resetLine → d = some .commanded → (t.node n).cause = some .commanded)
      ∧ (bootReason p = .resetLine → d = some .requested → (t.node n).cause = some .requested)
      ∧ (bootReason p = .resetLine → d = some .released → (t.node n).cause = some .released)
      ∧ (bootReason p = .resetLine → d = none → (t.node n).cause = some .external)
      ∧ (bootReason p = .ownWatchdog → (t.node n).cause = some .nodeWatchdog)
      ∧ (bootReason p = .software → d = some .commanded → drives = false → (t.node n).cause = some .commanded)
      ∧ (bootReason p = .software → d = some .requested → drives = false → (t.node n).cause = some .requested)
      ∧ (bootReason p = .software → d = some .released → drives = false → (t.node n).cause = some .released)
      ∧ (bootReason p = .software → (d = some .lapse ∨ drives = true ∨ d = none) →
          (t.node n).cause = some .unannounced)

/-- R28, R38, R42 to R44, R97, R98, R102: a HELLO in UNKNOWN or BOOT is answered with the verdict. With WARM the node is queued, at the
place that its key gives it, and bound at once when a channel is IDLE. With COLD it settles cold and COLD_START is raised. No attempt is counted. -/
def Obligations.HelloIsGivenItsVerdict : Prop :=
  ∀ (n : NodeId) (p : List Byte) (s : State), s.schedulerLaw → s.passes .hello (.node n) p →
    (s.node n).state = .unknown ∨ (s.node n).state = .boot →
    let cause := classify (bootReason p) (s.node n).drive (s.nodePlan n).resetDrive
    let verdict := s.expectedVerdict n cause (decide (octetAt p 1 = 1))
    ∃ t, exec (.hello (.node n) p) s = .next t
      ∧ (t.node n).cause = some cause ∧ (t.node n).drive = none ∧ (t.node n).attempts = (s.node n).attempts
      ∧ (t.node n).acquire = none ∧ (t.node n).boot = none
      ∧ (∀ m, m ≠ n → t.node m = s.node m)
      ∧ t.port (.node n) =
        { s.port (.node n) with
          sent := (s.port (.node n)).sent ++ [.reply 0x10#8 .ok (.hello verdict cause (s.node n).attempts)] }
      ∧ t.exchange n = s.exchange n ∧ t.monitor = s.monitor ∧ s.sameSetup t
      ∧ t.store.pool = s.store.pool ∧ t.store.freeList = s.store.freeList ∧ t.store.gens = s.store.gens
      ∧ (∀ c b, s.chan c = some b → t.chan c = some b)
      ∧ ((s.node n).state = .boot → t.groups = s.groups ∧ ∀ m, m ≠ n → t.port (.node m) = s.port (.node m))
      ∧ (verdict = .warm → s.chan .c0 = none ∨ s.chan .c1 = none →
          let c : ChanId := if s.chan .c0 = none then .c0 else .c1
          (t.node n).state = .restoring ∧ (t.node n).channel = some c ∧ t.queue = s.queue
            ∧ t.chan c = some ⟨n, .verify, (s.store.restoreSet n).map Prod.fst, 0, 0, false, 0, none, []⟩
            ∧ ∀ (i : Slot) (r : Record), s.store.dir[i] = some r → i ∈ (s.store.restoreSet n).map Prod.fst →
                t.store.dir[i] = some { r with pinned := true })
      ∧ (verdict = .warm → s.chan .c0 ≠ none → s.chan .c1 ≠ none →
          (t.node n).state = .queued ∧ t.queue.Perm (n :: s.queue) ∧ t.orderLaw ∧ t.store = s.store)
      ∧ (verdict ≠ .warm → (t.node n).state = .settling ∧ (t.node n).mark = some .cold
          ∧ (t.node n).settle = Timer.start (s.nodePlan n).coldSettleMs ∧ t.flag .coldStart = true
          ∧ t.queue.Perm s.queue ∧ t.store = s.store ∧ t.channels = s.channels)

/-- R45, R54, R91: an unannounced HELLO counts an attempt and is given its verdict, or at the limit sends the node to HALTED. A COMMIT
whose pass it ends gets no reply. -/
def Obligations.UnannouncedHelloCountsAnAttempt : Prop :=
  ∀ (n : NodeId) (p : List Byte) (s : State), s.uploadLaw → s.schedulerLaw → s.passes .hello (.node n) p →
    ((s.node n).state.inService = true ∨ (s.node n).state = .queued ∨ (s.node n).state = .restoring
      ∨ (s.node n).state = .settling) →
    let cause := classify (bootReason p) (s.node n).drive (s.nodePlan n).resetDrive
    let verdict := s.expectedVerdict n cause (decide (octetAt p 1 = 1))
    ∃ t, exec (.hello (.node n) p) s = .next t
      ∧ (t.node n).cause = some cause ∧ (t.node n).drive = none ∧ (t.node n).openRec = none
      ∧ (t.node n).lapse = none ∧ (t.node n).stable = none ∧ t.flag .lapse = s.flag .lapse
      ∧ (t.port (.node n)).inProgress = none
      ∧ t.store.pool = s.store.pool ∧ t.store.gens = s.store.gens ∧ t.monitor = s.monitor ∧ s.sameSetup t
      ∧ ((s.node n).attempts < (s.nodePlan n).attemptLimit →
          (t.node n).attempts = (s.node n).attempts + 1
            ∧ (t.port (.node n)).sent = (s.port (.node n)).sent
                ++ [.reply 0x10#8 .ok (.hello verdict cause ((s.node n).attempts + 1))]
            ∧ (verdict = .warm → (t.node n).state = .queued ∨ (t.node n).state = .restoring)
            ∧ (verdict ≠ .warm → (t.node n).state = .settling ∧ (t.node n).mark = some .cold
                ∧ (t.node n).settle = Timer.start (s.nodePlan n).coldSettleMs ∧ t.flag .coldStart = true))
      ∧ ((s.nodePlan n).attemptLimit ≤ (s.node n).attempts →
          (t.node n).attempts = (s.node n).attempts ∧ (t.node n).state = .halted ∧ (t.node n).channel = none
            ∧ (t.node n).settle = none ∧ (t.node n).mark = none
            ∧ (t.node n).resetLine = (s.nodePlan n).resetDrive ∧ t.flag .halted = true
            ∧ (t.port (.node n)).sent = (s.port (.node n)).sent ++ [.reply 0x10#8 .badState .none])

/-! ### Expiries of the node sequencer's timers -/

/-- R20, R24, R29, R38, R39, R48, R91: the expiries that begin a restart, with the drive reason of each. With the RESET input asserted
the COMMIT that a lapse ends gets no answer (log entry 4). -/
def Obligations.SilenceBeginsARestart : Prop :=
  ∀ (n : NodeId) (s : State), s.uploadLaw → s.powered = true →
    ((s.node n).state = .unknown → (s.node n).acquire = some 0 →
        ∃ t, exec (.acquireExpiry n) s = .next t ∧ (s.node n).beginsRestart (t.node n) (s.nodePlan n) .lapse
          ∧ t.flag .lapse = true ∧ (∀ m, m ≠ n → t.node m = s.node m) ∧ t.store = s.store ∧ t.channels = s.channels
          ∧ t.monitor = s.monitor ∧ s.sameSetup t)
      ∧ (((s.node n).state = .running ∨ ((s.node n).state = .quiet ∧ (s.node n).nudgeSent = true)) →
        (s.node n).lapse = some 0 →
        ∃ t, exec (.lapseExpiry n) s = .next t ∧ (s.node n).beginsRestart (t.node n) (s.nodePlan n) .lapse
          ∧ (t.node n).openRec = none ∧ (t.node n).nudgeSent = false ∧ s.endsPass t n
          ∧ t.flag .lapse = true ∧ (∀ m, m ≠ n → t.node m = s.node m) ∧ t.channels = s.channels
          ∧ t.store.pool = s.store.pool ∧ t.store.gens = s.store.gens ∧ (∀ m, t.store.committed m = s.store.committed m)
          ∧ t.monitor = s.monitor ∧ s.sameSetup t)
      ∧ ((s.node n).state = .boot → (s.node n).boot = some 0 →
        ∃ t, exec (.bootExpiry n) s = .next t
          ∧ (∀ why, (s.node n).drive = some why → (s.node n).beginsRestart (t.node n) (s.nodePlan n) why)
          ∧ t.flag .lapse = s.flag .lapse
          ∧ { t with nodes := s.nodes, alerts := s.alerts } = s ∧ ∀ m, m ≠ n → t.node m = s.node m)
      ∧ ((s.node n).state = .settling → (s.node n).settle = some 0 →
        ∃ t, exec (.settleExpiry n) s = .next t
          ∧ (s.node n).beginsRestart (t.node n) (s.nodePlan n) (reasonFromCause (s.node n).cause)
          ∧ t.flag .lapse = s.flag .lapse
          ∧ { t with nodes := s.nodes, alerts := s.alerts } = s ∧ ∀ m, m ≠ n → t.node m = s.node m)

/-- R36, R35, R30, R24, R25: the end of a reset pulse, the end of the stable time, and the NUDGE of a quiet spell. R14, log entry 8: an
expiry that is not due does nothing, whichever timer it names. -/
def Obligations.PulseStableAndNudgeExpiries : Prop :=
  (∀ (n : NodeId) (s : State), s.powered = true →
    ((s.node n).state = .reset → (s.node n).pulse = some 0 →
        ∃ t, exec (.pulseExpiry n) s = .next t ∧ (t.node n).drive = (s.node n).drive ∧ (t.node n).pulse = none
          ∧ (∀ m, m ≠ n → t.node m = s.node m) ∧ { t with nodes := s.nodes, alerts := s.alerts } = s
          ∧ ((s.node n).attempts < (s.nodePlan n).attemptLimit →
              (t.node n).state = .boot ∧ (t.node n).resetLine = false
                ∧ (t.node n).attempts = (s.node n).attempts + 1
                ∧ (t.node n).boot = Timer.start (s.nodePlan n).bootMs ∧ t.alerts = s.alerts)
          ∧ ((s.nodePlan n).attemptLimit ≤ (s.node n).attempts →
              (t.node n).state = .halted ∧ (t.node n).resetLine = (s.nodePlan n).resetDrive
                ∧ (t.node n).attempts = (s.node n).attempts ∧ (t.node n).boot = none ∧ t.flag .halted = true))
      ∧ ((s.node n).stable = some 0 →
        ∃ t, exec (.stableExpiry n) s = .next t ∧ t.node n = { s.node n with attempts := 0, stable := none }
          ∧ (∀ m, m ≠ n → t.node m = s.node m) ∧ { t with nodes := s.nodes } = s)
      ∧ ((s.node n).state = .quiet → (s.node n).nudgeSent = false → (s.node n).lapse = some 0 →
        ∃ t, exec (.lapseExpiry n) s = .next t
          ∧ t.node n = { s.node n with nudgeSent := true, lapse := Timer.start (s.nodePlan n).lapseMs }
          ∧ (∀ m, m ≠ n → t.node m = s.node m) ∧ s.sends t (.node n) [.nudge]
          ∧ { t with nodes := s.nodes, supervisorPort := s.supervisorPort, nodePorts := s.nodePorts } = s))
    ∧ (∀ (n : NodeId) (s : State),
      ((s.node n).acquire ≠ some 0 → exec (.acquireExpiry n) s = .next s)
        ∧ ((s.node n).lapse ≠ some 0 → exec (.lapseExpiry n) s = .next s)
        ∧ ((s.node n).stable ≠ some 0 → exec (.stableExpiry n) s = .next s)
        ∧ ((s.node n).pulse ≠ some 0 → exec (.pulseExpiry n) s = .next s)
        ∧ ((s.node n).boot ≠ some 0 → exec (.bootExpiry n) s = .next s)
        ∧ ((s.node n).settle ≠ some 0 → exec (.settleExpiry n) s = .next s)
        ∧ ((s.exchange n).answer ≠ some 0 → exec (.answerTimerExpiry n) s = .next s)
        ∧ ∀ c, (∀ b, s.chan c = some b → b.phase = .holdoff → b.holdoff ≠ some 0) → exec (.holdoffExpiry c) s = .next s)

/-! ### Groups -/

/-- R123, R126, R128: every event that takes a duty node out of service takes its group into the hold: a lapse, an unannounced HELLO,
an ASK_RESTART, a RESTART or a HALT. The deadline is counted from the last beat time. With the RESET input asserted a lapse acts
and the TAKE frame is not formed (log entry 4). -/
def Obligations.DutyLapseEntersTheHold : Prop :=
  ∀ (c : Instr) (n : NodeId) (g : GroupId) (last : Word) (s : State), s.endsService n c →
    s.groupOf n = some g → (s.group g).duty = some n →
    (s.group g).state = .served ∨ (s.group g).state = .takenOver → (s.node n).lastBeat = some last →
    let due : Prop := s.isReached ((s.groupPlan g).pointFrom last)
    ∃ t, exec c s = .next t
      ∧ s.entersHold t g (s.groupPlan g) n (s.group g).standby last
      ∧ (¬ s.isReached ((s.groupPlan g).deadlineFrom last) → t.flag .unserved = s.flag .unserved)
      ∧ (∀ k, k ≠ g → t.group k = s.group k)
      ∧ (∀ m, m ≠ n → (s.group g).standby = some m → (s.node m).state = .running → due ∨ s.tripped g →
          (t.group g).outstanding = true ∧ t.exchange m = ⟨some (.take g), Timer.start s.active.answerTime⟩
            ∧ (t.port (.node m)).sent
              = (s.port (.node m)).sent ++ (if s.resetAsserted then [] else [.take g]))
      ∧ ((∀ m, (s.group g).standby = some m → (s.node m).state ≠ .running) ∨ (¬ due ∧ ¬ s.tripped g) →
          (t.group g).outstanding = false ∧ t.exchanges = s.exchanges)

/-- R120, R131, R135, R161: a TAKE ends as a decline when its standby leaves service by any event, and when its answer timer runs out;
a duty node that waits on LATER is then told ROLE DUTY and the hold ends. A duty node that leaves service in the hold leaves the
group as it is, but for the LATER that it waits on; and a node that leaves service otherwise does not touch its group. With the
RESET input asserted no ROLE is formed (log entry 4). -/
def Obligations.LostTakeIsADecline : Prop :=
  (∀ (c : Instr) (n : NodeId) (g : GroupId) (s : State), s.endsService n c → s.groupOf n = some g →
    ((s.group g).standby = some n → (s.group g).duty ≠ some n → (s.group g).outstanding = true →
        ∃ t, exec c s = .next t ∧ s.declinesTake t g ∧ (∀ k, k ≠ g → t.group k = s.group k)
          ∧ t.exchange n = ⟨none, none⟩ ∧ ∀ m, m ≠ n → t.exchange m = s.exchange m)
      ∧ ((s.group g).duty = some n → (s.group g).state.inHold = true →
        ∃ t, exec c s = .next t
          ∧ t.group g =
            { s.group g with roleLater := if (s.group g).roleLater = some n then none else (s.group g).roleLater }
          ∧ (∀ k, k ≠ g → t.group k = s.group k) ∧ t.exchanges = s.exchanges)
      ∧ ((s.group g).duty ≠ some n → (s.group g).standby ≠ some n ∨ (s.group g).outstanding = false →
        ∃ t, exec c s = .next t ∧ t.groups = s.groups ∧ t.exchanges = s.exchanges))
    ∧ (∀ (n : NodeId) (g : GroupId) (s : State), s.powered = true → (s.exchange n).outstanding = some (.take g) →
      (s.exchange n).answer = some 0 →
      ∃ t, exec (.answerTimerExpiry n) s = .next t ∧ s.declinesTake t g ∧ (∀ k, k ≠ g → t.group k = s.group k)
        ∧ t.exchange n = ⟨none, none⟩ ∧ (∀ m, m ≠ n → t.exchange m = s.exchange m) ∧ t.queue.Perm s.queue
        ∧ { t with groups := s.groups, exchanges := s.exchanges, queue := s.queue, supervisorPort := s.supervisorPort
                   nodePorts := s.nodePorts } = s
        ∧ ((s.group g).roleLater = none → t.queue = s.queue ∧ ∀ l, t.port l = s.port l))

/-- R130 to R132, R135: TAKEN. -/
def Obligations.TakenSwapsOrDeclines : Prop :=
  ∀ (n : NodeId) (p : List Byte) (s : State), s.passes .taken (.node n) p →
    (∀ g, (s.exchange n).outstanding = some (.take g) → octetAt p 0 = g.num →
        (octetAt p 1 = 1 → (s.group g).roleLater = none ∨ (s.group g).roleLater = (s.group g).duty →
          ∃ t, exec (.taken (.node n) p) s = .next t
            ∧ t.group g =
              { s.group g with
                state := if (s.group g).roleLater = none then .takenOver else .served
                duty := (s.group g).standby, standby := (s.group g).duty, deadline := none, point := none
                pointTaken := false, outstanding := false, declined := false, escalated := false, roleLater := none }
            ∧ t.flag .takeover = true ∧ t.exchange n = ⟨none, none⟩
            ∧ (∀ m, (s.group g).roleLater = some m → s.sends t (.node m) [.role g .standby])
            ∧ ((s.group g).roleLater = none → ∀ l, t.port l = s.port l)
            ∧ t.nodes = s.nodes ∧ t.store = s.store ∧ t.channels = s.channels ∧ t.monitor = s.monitor ∧ s.sameSetup t)
          ∧ (octetAt p 1 ≠ 1 → (s.group g).roleLater = none →
            ∃ t, exec (.taken (.node n) p) s = .next t
              ∧ t.group g = { s.group g with outstanding := false, declined := true }
              ∧ (∀ k, k ≠ g → t.group k = s.group k)
              ∧ t.exchange n = ⟨none, none⟩ ∧ (∀ m, m ≠ n → t.exchange m = s.exchange m)
              ∧ { t with groups := s.groups, exchanges := s.exchanges } = s)
          ∧ (octetAt p 1 ≠ 1 → ∀ m, (s.group g).roleLater = some m → (s.group g).duty = some m →
            ∃ t, exec (.taken (.node n) p) s = .next t
              ∧ t.group g =
                { s.group g with
                  state := .served, deadline := none, point := none, pointTaken := false, outstanding := false
                  declined := false, escalated := false, roleLater := none }
              ∧ t.exchange n = ⟨none, none⟩ ∧ s.sends t (.node m) [.role g .duty]))
      ∧ ((∀ g, (s.exchange n).outstanding = some (.take g) → octetAt p 0 ≠ g.num) →
        exec (.taken (.node n) p) s = .next s)

/-- R125, R126, R128: the points of a group in the hold. A point that is not reached, or has been, does nothing (log entries 8, 10). -/
def Obligations.PointsOfTheHoldAreReached : Prop :=
  ∀ (g : GroupId) (s : State), s.powered = true →
    (∀ point, (s.group g).point = some point → (s.group g).state.inHold = true →
        (s.clock.ms - point).toNat < 2 ^ 31 → (s.group g).pointTaken = false →
        ∃ t, exec (.takeoverPointReached g) s = .next t
          ∧ (∀ m, (s.group g).standby = some m → (s.node m).state = .running → (s.group g).outstanding = false →
              (s.group g).declined = false →
              t.group g = { s.group g with pointTaken := true, outstanding := true }
                ∧ t.exchange m = ⟨some (.take g), Timer.start s.active.answerTime⟩ ∧ s.sends t (.node m) [.take g])
          ∧ ((s.group g).outstanding = true ∨ (s.group g).declined = true
              ∨ (∀ m, (s.group g).standby = some m → (s.node m).state ≠ .running) →
              t.group g = { s.group g with pointTaken := true } ∧ { t with groups := s.groups } = s)
          ∧ ∀ k, k ≠ g → t.group k = s.group k)
      ∧ (((s.group g).state.inHold = false ∨ (s.group g).pointTaken = true
          ∨ (∀ point, (s.group g).point = some point → ¬ (s.clock.ms - point).toNat < 2 ^ 31)) →
        exec (.takeoverPointReached g) s = .next s)
      ∧ (∀ deadline, (s.group g).deadline = some deadline → (s.group g).state = .held →
        (s.clock.ms - deadline).toNat < 2 ^ 31 →
        ∃ t, exec (.deadlineReached g) s = .next t ∧ t.group g = { s.group g with state := .unserved }
          ∧ (∀ k, k ≠ g → t.group k = s.group k) ∧ t.flag .unserved = true
          ∧ (∀ a, a ≠ .unserved → t.flag a = s.flag a) ∧ { t with groups := s.groups, alerts := s.alerts } = s)
      ∧ (((s.group g).state ≠ .held
          ∨ (∀ deadline, (s.group g).deadline = some deadline → ¬ (s.clock.ms - deadline).toNat < 2 ^ 31)) →
        exec (.deadlineReached g) s = .next s)

/-! ### The checkpoint store and the uploads -/

/-- R80: the checks of OPEN in their order. A refused OPEN changes nothing; a FULL is not subject to checks 6 and 7; and no pool block
is reserved. -/
def Obligations.OpenIsCheckedInOrder : Prop :=
  ∀ (n : NodeId) (p : List Byte) (s : State), s.passes .openRecord (.node n) p →
    let declared := field2 p 5
    let refused (r : Result) : Prop := exec (.openRecord (.node n) p) s = .next (s.reply (.node n) .openRecord r)
    ((s.node n).state.inService = false → refused .badState)
      ∧ ((s.node n).state.inService = true →
        ((s.node n).openRec ≠ none → refused .badState)
          ∧ ((s.node n).openRec = none →
            (s.store.gens.get n = 0xFFFFFFFF#32 → refused .badState)
              ∧ (s.store.gens.get n ≠ 0xFFFFFFFF#32 →
                (octetAt p 0 ≠ 0 → octetAt p 0 ≠ 1 → refused .badValue)
                  ∧ (octetAt p 0 = 0 ∨ octetAt p 0 = 1 →
                    (declared = 0 ∨ 4096 < declared → refused .badValue)
                      ∧ (1 ≤ declared → declared ≤ 4096 →
                        (octetAt p 0 = 1 → (s.store.newestFull n).map (fun f => f.2.gen) ≠ some (field4 p 1) →
                            refused .badBase)
                          ∧ (octetAt p 0 = 1 → (s.store.newestFull n).map (fun f => f.2.gen) = some (field4 p 1) →
                            4 ≤ (s.store.committed n).length → s.store.olderFulls n = [] → refused .listFull)
                          ∧ ((octetAt p 0 = 0
                              ∨ (octetAt p 0 = 1
                                ∧ (s.store.newestFull n).map (fun f => f.2.gen) = some (field4 p 1)
                                ∧ ((s.store.committed n).length < 4 ∨ s.store.olderFulls n ≠ []))) →
                            (∃ i : Slot, s.store.dir[i] = none) →
                            ∃ t b, exec (.openRecord (.node n) p) s = .next t
                              ∧ s.sends t (.node n) [.reply 0x18#8 .ok b]
                              ∧ t.store.freeList = s.store.freeList ∧ t.store.pool = s.store.pool))))))

/-- R81, R61, R62: an accepted OPEN. -/
def Obligations.OpenPlacesTheRecord : Prop :=
  ∀ (n : NodeId) (p : List Byte) (i : Slot) (k : RecKind) (s : State), s.passes .openRecord (.node n) p →
    (s.node n).state.inService = true → (s.node n).openRec = none → s.store.gens.get n ≠ 0xFFFFFFFF#32 →
    1 ≤ field2 p 5 → field2 p 5 ≤ 4096 →
    (octetAt p 0 = 0 ∧ k = .full
      ∨ octetAt p 0 = 1 ∧ k = .delta (field4 p 1) ∧ (s.store.newestFull n).map (fun f => f.2.gen) = some (field4 p 1)
        ∧ ((s.store.committed n).length < 4 ∨ s.store.olderFulls n ≠ [])) →
    s.store.dir[i] = none → (∀ j : Slot, j < i → s.store.dir[j] ≠ none) →
    let g := s.store.gens.get n + 1#32
    ∃ t, exec (.openRecord (.node n) p) s = .next t
      ∧ t.store.gens.get n = g ∧ (∀ m, m ≠ n → t.store.gens.get m = s.store.gens.get m)
      ∧ t.store.dir[i] = some
        { node := n, gen := g, kind := k, declared := field2 p 5, received := 0, blocks := [], status := .opened
          pinned := false }
      ∧ (∀ j : Slot, j ≠ i → t.store.dir[j] = s.store.dir[j])
      ∧ t.node n = { s.node n with openRec := some i } ∧ (∀ m, m ≠ n → t.node m = s.node m)
      ∧ s.sends t (.node n) [.reply 0x18#8 .ok (.opened g ((field2 p 5 + 63) / 64) s.store.freeList.length)]
      ∧ t.store.freeList = s.store.freeList ∧ t.store.pool = s.store.pool ∧ t.store.peek = s.store.peek
      ∧ { t with nodes := s.nodes, store := s.store, supervisorPort := s.supervisorPort, nodePorts := s.nodePorts } = s

/-- R82, R83, R60: the checks of BLOCK in their order, and the block that an accepted one takes from the head of the free list. -/
def Obligations.BlockIsCheckedAndStored : Prop :=
  ∀ (n : NodeId) (p : List Byte) (i : Slot) (r : Record) (s : State), s.passes .block (.node n) p →
    (s.node n).state.inService = true → (s.node n).openRec = some i → s.store.dir[i] = some r → r.status = .opened →
    let progress : Body := .progress r.gen r.blocks.length r.received s.store.freeList.length
    let last := (r.declared + 63) / 64 - 1
    let needed := if octetAt p 0 < last then 64 else r.declared - 64 * last
    (r.declared ≤ r.received ∨ octetAt p 0 ≠ r.blocks.length →
        exec (.block (.node n) p) s = .next (s.reply (.node n) .block .sequence progress))
      ∧ (r.received < r.declared → octetAt p 0 = r.blocks.length → octetAt p 1 ≠ needed →
        exec (.block (.node n) p) s = .next (s.reply (.node n) .block .badLength))
      ∧ (r.received < r.declared → octetAt p 0 = r.blocks.length → octetAt p 1 = needed → Memory.wf s.store.pool →
        ∀ b rest, s.store.freeList = b :: rest →
          ∃ t, exec (.block (.node n) p) s = .next t
            ∧ t.store.freeList = rest
            ∧ t.store.dir[i] = some { r with blocks := r.blocks ++ [b], received := r.received + octetAt p 1 }
            ∧ (∀ j : Slot, j ≠ i → t.store.dir[j] = s.store.dir[j])
            ∧ (∀ w, w < 64 → t.store.pool.read (wordAddr b w)
                = ⟨if w < octetAt p 1 then field4 p (2 + 4 * w) else 0#32, true⟩)
            ∧ (∀ a, (a < wordAddr b 0 ∨ wordAddr b 64 ≤ a) → t.store.pool.read a = s.store.pool.read a)
            ∧ t.store.gens = s.store.gens ∧ t.store.peek = s.store.peek
            ∧ s.sends t (.node n)
              [.reply 0x19#8 .ok (.progress r.gen (octetAt p 0) (r.received + octetAt p 1) rest.length)]
            ∧ { t with store := s.store, supervisorPort := s.supervisorPort, nodePorts := s.nodePorts } = s)

/-- R60, R70, R71, R84: a BLOCK that finds the free list empty. The reclaim takes, of the unpinned sets older than their node's newest
FULL, the one whose FULL is oldest by the age of its commit time (log entry 15), the lower node number and then the lower generation
deciding a tie; with none, POOL_FULL. The block written, and what stays as it was, is as at any other BLOCK. -/
def Obligations.EmptyFreeListReclaimsOrFails : Prop :=
  (∀ (n : NodeId) (p : List Byte) (i : Slot) (r : Record) (s : State), s.passes .block (.node n) p →
    (s.node n).state.inService = true → (s.node n).openRec = some i → s.store.dir[i] = some r → r.status = .opened →
    r.received < r.declared → octetAt p 0 = r.blocks.length → octetAt p 1 = r.wordsAt (octetAt p 0) →
    s.store.freeList = [] →
    (s.reclaimChoice = none →
        ∃ t, exec (.block (.node n) p) s = .next t ∧ t.store = s.store ∧ t.flag .poolFull = true
          ∧ (∀ a, a ≠ .poolFull → t.flag a = s.flag a)
          ∧ s.sends t (.node n) [.reply 0x19#8 .poolFull (.progress r.gen r.blocks.length r.received 0)]
          ∧ { t with alerts := s.alerts, supervisorPort := s.supervisorPort, nodePorts := s.nodePorts } = s)
      ∧ ∀ f b rest, s.reclaimChoice = some f →
        let chosen := s.store.setOf f.2.node f.2.gen
        (chosen.flatMap fun e => e.2.blocks) = b :: rest →
        ∃ t, exec (.block (.node n) p) s = .next t
          ∧ (∀ e ∈ chosen, t.store.dir[e.1] = none)
          ∧ t.store.dir[i] = some { r with blocks := r.blocks ++ [b], received := r.received + octetAt p 1 }
          ∧ (∀ j : Slot, j ≠ i → (∀ e ∈ chosen, e.1 ≠ j) → t.store.dir[j] = s.store.dir[j])
          ∧ (Memory.wf s.store.pool →
              (∀ w, w < 64 → t.store.pool.read (wordAddr b w)
                  = ⟨if w < octetAt p 1 then field4 p (2 + 4 * w) else 0#32, true⟩)
                ∧ ∀ a, (a < wordAddr b 0 ∨ wordAddr b 64 ≤ a) → t.store.pool.read a = s.store.pool.read a)
          ∧ t.store.peek = s.store.peek.filter (fun c =>
              !(chosen.any fun e => decide (c.node = e.2.node) && decide (c.gen = e.2.gen)))
          ∧ t.store.freeList = rest ∧ t.store.gens = s.store.gens ∧ t.flag .reclaim = true
          ∧ (∀ a, a ≠ .reclaim → t.flag a = s.flag a)
          ∧ s.sends t (.node n)
            [.reply 0x19#8 .ok (.progress r.gen (octetAt p 0) (r.received + octetAt p 1) rest.length)]
          ∧ (∀ m, { t.node m with openRec := (s.node m).openRec } = s.node m) ∧ (s.uploadLaw → t.nodes = s.nodes)
          ∧ { t with nodes := s.nodes, store := s.store, alerts := s.alerts, supervisorPort := s.supervisorPort
                     nodePorts := s.nodePorts } = s)
    ∧ ∀ s : State,
      (s.reclaimChoice = none ↔ s.store.candidates = [])
        ∧ (∀ f, s.reclaimChoice = some f → f ∈ s.store.candidates
            ∧ ∀ e ∈ s.store.candidates, s.age e.2.time ≤ s.age f.2.time
              ∧ (e.2.time = f.2.time →
                  f.2.node.num < e.2.node.num ∨ (f.2.node = e.2.node ∧ f.2.gen.toNat ≤ e.2.gen.toNat)))
        ∧ ∀ e, e ∈ s.store.candidates ↔
          ∃ n, e ∈ s.store.olderFulls n ∧ ∀ x ∈ s.store.setOf n e.2.gen, x.2.pinned = false

/-- R86, R85, R66: COMMIT begins the pass once every word has come; DROP removes the record and gives its blocks back. -/
def Obligations.CommitBeginsThePassAndDropRemoves : Prop :=
  ∀ (n : NodeId) (p : List Byte) (i : Slot) (r : Record) (s : State),
    (s.node n).state.inService = true → (s.node n).openRec = some i → s.store.dir[i] = some r → r.status = .opened →
    r.node = n →
    (s.passes .commit (.node n) p →
      (r.received < r.declared → exec (.commit (.node n) p) s = .next (s.reply (.node n) .commit .sequence
          (.progress r.gen r.blocks.length r.received s.store.freeList.length)))
        ∧ (r.declared ≤ r.received → ∃ t, exec (.commit (.node n) p) s = .next t
          ∧ t.store.dir[i] = some { r with status := .verifying (field4 p 0) [] }
          ∧ (∀ j : Slot, j ≠ i → t.store.dir[j] = s.store.dir[j])
          ∧ t.port (.node n) = { s.port (.node n) with inProgress := some .commit }
          ∧ (∀ l, l ≠ .node n → t.port l = s.port l)
          ∧ { t with store := { t.store with dir := s.store.dir }, nodePorts := s.nodePorts } = s))
      ∧ (s.passes .drop (.node n) p → ∃ t, exec (.drop (.node n) p) s = .next t
        ∧ t.store.dir[i] = none ∧ (∀ j : Slot, j ≠ i → t.store.dir[j] = s.store.dir[j])
        ∧ t.store.freeList = s.store.freeList ++ r.blocks
        ∧ t.store.pool = s.store.pool ∧ t.store.gens = s.store.gens
        ∧ t.store.peek = s.store.peek.filter (fun c => !(decide (c.node = n) && decide (c.gen = r.gen)))
        ∧ t.node n = { s.node n with openRec := none } ∧ (∀ m, m ≠ n → t.node m = s.node m)
        ∧ s.sends t (.node n)
          [.reply 0x1B#8 .ok (.dropped r.gen (s.store.freeList.length + r.blocks.length))]
        ∧ { t with nodes := s.nodes, store := s.store, supervisorPort := s.supervisorPort, nodePorts := s.nodePorts }
            = s)

/-- R87 to R89, R65: the end of the commit verification pass, by its two results. The pass reads a word that was disturbed after it
had read it as it was (log entry 9). With the RESET input asserted the pass completes, and
no reply is formed (log entry 4). -/
def Obligations.PassCommitsOrDiscards : Prop :=
  ∀ (n : NodeId) (i : Slot) (r : Record) (expected : Word) (seen : SeenWords) (s : State), s.powered = true →
    (s.node n).openRec = some i → s.store.dir[i] = some r → r.status = .verifying expected seen → r.node = n →
    let ws := r.words s.store.pool seen
    let removed (t : State) : Prop := t.store.dir[i] = none ∧ (∀ j : Slot, j ≠ i → t.store.dir[j] = s.store.dir[j])
      ∧ t.store.freeList = s.store.freeList ++ r.blocks
    ∃ t, exec (.commitPassComplete n) s = .next t
      ∧ (t.node n).openRec = none ∧ (t.port (.node n)).inProgress = none
      ∧ (∀ l, l ≠ .node n → t.port l = s.port l)
      ∧ t.store.pool = s.store.pool ∧ t.store.gens = s.store.gens ∧ t.groups = s.groups ∧ t.queue = s.queue
      ∧ t.channels = s.channels ∧ t.exchanges = s.exchanges ∧ t.monitor = s.monitor ∧ t.alerts = s.alerts
      ∧ s.sameSetup t ∧ (∀ m, { t.node m with openRec := (s.node m).openRec } = s.node m)
      ∧ (∀ o, firstDamaged ws = some o → removed t
          ∧ (t.port (.node n)).sent
            = (s.port (.node n)).sent ++ (if s.resetAsserted then [] else [.reply 0x1A#8 .storeError (.damagedWord r.gen o)]))
      ∧ (firstDamaged ws = none → sumRead ws ≠ expected → removed t
          ∧ (t.port (.node n)).sent
            = (s.port (.node n)).sent ++ (if s.resetAsserted then [] else [.reply 0x1A#8 .checkMismatch (.mismatch r.gen (sumRead ws))]))
      ∧ (firstDamaged ws = none → sumRead ws = expected →
          let u : Store :=
            { s.store with dir := s.store.dir.set i (some { r with status := .committed expected s.clock.sec }) }
          ((u.committed n).length ≤ 4 → t.store = u)
            ∧ (4 < (u.committed n).length → ∀ f, (u.fulls n).head? = some f →
              ∀ j : Slot, t.store.dir[j] = if j ∈ (u.setOf n f.2.gen).map Prod.fst then none else u.dir[j])
            ∧ (t.port (.node n)).sent = (s.port (.node n)).sent
              ++ (if s.resetAsserted then [] else [.reply 0x1A#8 .ok (.committed r.gen s.clock.sec (t.store.committed n).length)]))

/-! ### Restores -/

/-- R104, R105, R107: VERIFY finds the whole set sound, and the first DATA goes out. R111: a word of the first block that was disturbed
after VERIFY had read it is found as the block is read for sending, and is answered with DONE DAMAGED and the fallback. Which words
VERIFY had read before a disturbance is the model's account (log entry 9). -/
def Obligations.SoundSetIsSent : Prop :=
  ∀ (c : ChanId) (b : Binding) (i : Slot) (rest : List Slot) (r : Record) (s : State), s.powered = true →
    s.chan c = some b → b.phase = .verify → b.set = i :: rest → s.store.dir[i] = some r →
    (∀ j ∈ b.set, ∀ q, s.store.dir[j] = some q → (∃ check time, q.status = .committed check time
        ∧ (∀ w ∈ q.words s.store.pool b.seen, w.sound = true) ∧ sumRead (q.words s.store.pool b.seen) = check)) →
    let first := r.wordsFrom s.store.pool 0 (min 64 r.declared)
    ((∀ w ∈ first, w.sound = true) → ∃ t, exec (.verifyComplete c) s = .next t
      ∧ t.chan c = some { b with phase := .send, position := 0, index := 0, resent := false, notReady := 0
                                 holdoff := none, seen := [] }
      ∧ (∀ x, x ≠ c → t.chan x = s.chan x)
      ∧ s.sends t (.node b.node) [.data 0 0 (first.map PoolWord.value)]
      ∧ t.exchange b.node = ⟨some (.data 0 0), Timer.start s.active.answerTime⟩
      ∧ (∀ m, m ≠ b.node → t.exchange m = s.exchange m)
      ∧ { t with channels := s.channels, exchanges := s.exchanges, supervisorPort := s.supervisorPort
                 nodePorts := s.nodePorts } = s)
    ∧ (¬ (∀ w ∈ first, w.sound = true) → s.schedulerLaw → ∃ t, exec (.verifyComplete c) s = .next t
      ∧ s.fallsBack t c b 0 r [.done .damaged r.gen])

/-- R104 to R106, R68: VERIFY finds a damaged record. It and its successors in the set are discarded; the restore goes on with what is
left, or a second COLD verdict ends it. -/
def Obligations.DamagedSetFallsBack : Prop :=
  ∀ (c : ChanId) (b : Binding) (k : Nat) (i : Slot) (r : Record) (s : State), s.schedulerLaw → s.powered = true →
    s.chan c = some b → b.phase = .verify → b.set[k]? = some i → s.store.dir[i] = some r →
    r.soundIn s.store.pool b.seen = false →
    (∀ j i' q, j < k → b.set[j]? = some i' → s.store.dir[i'] = some q → q.soundIn s.store.pool b.seen = true) →
    ∃ t, exec (.verifyComplete c) s = .next t ∧ s.fallsBack t c b k r []

/-- R107, R108, R111, R161: an ACK OK that matches advances the channel to the next block, the next record, or DONE OK. A damaged word
in the block to be sent is answered with DONE DAMAGED and the fallback. R102, R103: with DONE OK the head of the queue, if it
holds a node, is bound to the channel. -/
def Obligations.AckAdvancesTheRestore : Prop :=
  ∀ (n : NodeId) (p : List Byte) (c : ChanId) (b : Binding) (i : Slot) (r : Record) (s : State), s.schedulerLaw →
    s.passes .ack (.node n) p → octetAt p 2 = 0 →
    (s.exchange n).outstanding = some (.data (octetAt p 0) (octetAt p 1)) → (s.node n).channel = some c →
    s.chan c = some b → b.set[b.position]? = some i → s.store.dir[i] = some r →
    let sendsBlock (t : State) (position index : Nat) (q : Record) : Prop :=
      t.chan c = some { b with phase := .send, position := position, index := index, resent := false, notReady := 0
                               holdoff := none }
        ∧ s.sends t (.node n) [.data position index
            ((q.wordsFrom s.store.pool (64 * index) (q.wordsAt index)).map PoolWord.value)]
        ∧ t.exchange n = ⟨some (.data position index), Timer.start s.active.answerTime⟩ ∧ t.nodes = s.nodes
        ∧ t.store = s.store
    let sound (index : Nat) (q : Record) : Prop :=
      ∀ w ∈ q.wordsFrom s.store.pool (64 * index) (q.wordsAt index), w.sound = true
    let damaged (t : State) (position : Nat) (q : Record) : Prop :=
      s.fallsBack t c b position q [.done .damaged q.gen] ∧ t.exchange n = ⟨none, none⟩
    ∃ t, exec (.ack (.node n) p) s = .next t ∧ t.groups = s.groups ∧ t.monitor = s.monitor ∧ s.sameSetup t
      ∧ (b.index < r.lastIndex →
          (sound (b.index + 1) r → sendsBlock t b.position (b.index + 1) r)
            ∧ (¬ sound (b.index + 1) r → damaged t b.position r))
      ∧ (∀ i' q, r.lastIndex ≤ b.index → b.set[b.position + 1]? = some i' → s.store.dir[i'] = some q →
          (sound 0 q → sendsBlock t (b.position + 1) 0 q) ∧ (¬ sound 0 q → damaged t (b.position + 1) q))
      ∧ (r.lastIndex ≤ b.index → b.position + 1 = b.set.length →
          (t.node n).state = .settling ∧ (t.node n).mark = some .warm ∧ (t.node n).channel = none
            ∧ (t.node n).settle = Timer.start (s.nodePlan n).warmSettleMs
            ∧ s.sends t (.node n) [.done .ok r.gen] ∧ t.exchange n = ⟨none, none⟩
            ∧ t.store.pool = s.store.pool ∧ t.store.freeList = s.store.freeList
            ∧ (∀ (j : Slot) (q : Record), t.store.dir[j] = some q → q.node = n → q.pinned = false)
            ∧ (s.queue = [] → t.chan c = none)
            ∧ ∀ m rest, s.queue = m :: rest →
                t.queue = rest ∧ (t.node m).state = .restoring ∧ (t.node m).channel = some c
                  ∧ t.chan c = some ⟨m, .verify, (s.store.restoreSet m).map Prod.fst, 0, 0, false, 0, none, []⟩)

/-- R109, R110, R111, R112, R161: a repeated block, a holdoff and its end, the damaged word that a repeated sending finds, the aborts,
and the ACK that matches nothing. -/
def Obligations.AckRetriesHoldsOffOrAborts : Prop :=
  ∀ (n : NodeId) (p : List Byte) (c : ChanId) (b : Binding) (i : Slot) (r : Record) (s : State), s.schedulerLaw →
    (s.node n).channel = some c → s.chan c = some b → b.set[b.position]? = some i → s.store.dir[i] = some r →
    let sound : Prop := ∀ w ∈ r.wordsFrom s.store.pool (64 * b.index) (r.wordsAt b.index), w.sound = true
    let damaged (t : State) : Prop := s.fallsBack t c b b.position r [.done .damaged r.gen]
    let sendsAgain (t : State) (resent : Bool) (run : Nat) : Prop :=
      t.chan c = some { b with phase := .send, resent := resent, notReady := run, holdoff := none }
        ∧ s.sends t (.node n) [.data b.position b.index
            ((r.wordsFrom s.store.pool (64 * b.index) (r.wordsAt b.index)).map PoolWord.value)]
        ∧ t.exchange n = ⟨some (.data b.position b.index), Timer.start s.active.answerTime⟩
        ∧ t.nodes = s.nodes ∧ t.store = s.store
    let aborts (t : State) (status : DoneStatus) : Prop :=
      s.sends t (.node n) [.done status (s.fullGen b)] ∧ t.exchange n = ⟨none, none⟩ ∧ (t.node n).channel = none
        ∧ (s.node n).beginsRestart (t.node n) (s.nodePlan n) (reasonFromCause (s.node n).cause)
    (s.passes .ack (.node n) p → (s.exchange n).outstanding = some (.data (octetAt p 0) (octetAt p 1)) →
      ∃ t, exec (.ack (.node n) p) s = .next t ∧ t.groups = s.groups ∧ t.monitor = s.monitor ∧ s.sameSetup t
        ∧ (octetAt p 2 ≠ 0 → octetAt p 2 ≠ 2 → b.resent = false →
            (sound → sendsAgain t true 0) ∧ (¬ sound → damaged t ∧ t.exchange n = ⟨none, none⟩))
        ∧ (octetAt p 2 ≠ 0 → octetAt p 2 ≠ 2 → b.resent = true → aborts t .linkError)
        ∧ (octetAt p 2 = 2 → b.notReady < 15 →
            t.chan c = some { b with phase := .holdoff, notReady := b.notReady + 1, holdoff := Timer.start 20 }
              ∧ (∀ l, t.port l = s.port l) ∧ t.exchange n = ⟨none, none⟩ ∧ t.nodes = s.nodes ∧ t.store = s.store)
        ∧ (octetAt p 2 = 2 → 15 ≤ b.notReady → aborts t .stalled))
      ∧ (s.passes .ack (.node n) p → (s.exchange n).outstanding ≠ some (.data (octetAt p 0) (octetAt p 1)) →
        exec (.ack (.node n) p) s = .next s)
      ∧ (s.powered = true → b.phase = .holdoff → b.holdoff = some 0 →
        ∃ t, exec (.holdoffExpiry c) s = .next t ∧ (sound → sendsAgain t b.resent b.notReady) ∧ (¬ sound → damaged t))
      ∧ (∀ position index, s.powered = true → (s.exchange n).outstanding = some (.data position index) →
        (s.exchange n).answer = some 0 → ∃ t, exec (.answerTimerExpiry n) s = .next t ∧ aborts t .noAck)

/-! ### Supervisory requests -/

/-- R153, R117, R154, R76, R16: the requests that read the node and group records and the store are answered from the state, and change
nothing. -/
def Obligations.ReadsReportAndChangeNothing : Prop :=
  ∀ (p : List Byte) (s : State),
    (s.passes .readNode .supervisor p → ∀ n : NodeId, octetAt p 0 = n.num →
        ∃ r : NodeReport, exec (.readNode .supervisor p) s = .next (s.reply .supervisor .readNode .ok (.node r))
          ∧ r.ms = s.clock.ms ∧ r.number = n ∧ r.present = s.present n ∧ r.group = s.groupOf n
          ∧ r.state = (s.node n).state ∧ r.cause = (s.node n).cause ∧ r.drive = (s.node n).drive
          ∧ r.attempts = (s.node n).attempts ∧ r.warmCapable = (s.node n).warmCapable
          ∧ r.lastBeat = (s.node n).lastBeat ∧ r.nudgeSent = (s.node n).nudgeSent ∧ r.openRec = (s.node n).openRec
          ∧ r.mark = (s.node n).mark ∧ r.errors = (s.port (.node n)).errors
          ∧ (∀ g, s.groupOf n = some g → (s.group g).duty = some n → r.role = some .duty)
          ∧ (∀ g, s.groupOf n = some g → (s.group g).duty ≠ some n → (s.group g).standby = some n →
              r.role = some .standby)
          ∧ (∀ g, s.groupOf n = some g → (s.group g).duty ≠ some n → (s.group g).standby ≠ some n → r.role = none)
          ∧ (s.groupOf n = none → r.role = none)
          ∧ ((s.node n).state ≠ .queued → r.queued = none) ∧ ((s.node n).state ≠ .restoring → r.restoring = none)
          ∧ ((s.node n).state = .queued → ∃ q, r.queued = some q ∧ q.position = s.queue.idxOf n + 1
              ∧ q.escalated = s.keyEscalated n ∧ q.deadline = s.keyDeadline n)
          ∧ ∀ c b, (s.node n).state = .restoring → (s.node n).channel = some c → s.chan c = some b →
              ∃ q, r.restoring = some q ∧ q.chan = c ∧ q.phase = b.phase ∧ q.notReady = b.notReady
                ∧ q.fullGen = s.fullGen b
                ∧ (b.phase ≠ .verify → q.position = some b.position ∧ q.index = some b.index))
      ∧ (s.passes .readNode .supervisor p → octetAt p 0 = 0 ∨ 8 < octetAt p 0 →
        exec (.readNode .supervisor p) s = .next (s.reply .supervisor .readNode .badValue))
      ∧ (s.passes .readGroup .supervisor p → ∀ g : GroupId, octetAt p 0 = g.num →
        exec (.readGroup .supervisor p) s = .next (s.reply .supervisor .readGroup .ok (.group
          { ms := s.clock.ms, number := g, members := s.active.members g, initialDuty := s.active.initialDuty g
            state := (s.group g).state, duty := (s.group g).duty, standby := (s.group g).standby
            deadline := (s.group g).deadline, point := (s.group g).point, outstanding := (s.group g).outstanding
            declined := (s.group g).declined, escalated := (s.group g).escalated
            roleLater := (s.group g).roleLater })))
      ∧ (s.passes .readGroup .supervisor p → octetAt p 0 = 0 ∨ 4 < octetAt p 0 →
        exec (.readGroup .supervisor p) s = .next (s.reply .supervisor .readGroup .badValue))
      ∧ (s.passes .readStore .supervisor p → ∃ r : StoreReport,
        exec (.readStore .supervisor p) s = .next (s.reply .supervisor .readStore .ok (.store r))
          ∧ r.seconds = s.clock.sec ∧ r.freeCount = s.store.freeList.length ∧ r.cursor = s.store.peek
          ∧ r.nodes.map NodeStoreReport.node = NodeId.all
          ∧ ∀ q ∈ r.nodes, q.counter = s.store.gens.get q.node ∧ q.committed = s.store.committed q.node
            ∧ (q.unfinished = none ↔ ∀ e ∈ s.store.recordsOf q.node, e.2.isCommitted = true)
            ∧ ∀ e, q.unfinished = some e → e ∈ s.store.recordsOf q.node ∧ e.2.isCommitted = false)

/-- R152: READ_ALERTS takes its snapshot and clears exactly the flags that it shows. -/
def Obligations.ReadAlertsClearsWhatItShows : Prop :=
  ∀ (p : List Byte) (s : State),
    (s.passes .readAlerts .supervisor p →
      ∃ t, exec (.readAlerts .supervisor p) s = .next t ∧ t.alerts.flags = 0#27
        ∧ t.alerts.masks = s.alerts.masks ∧ t.alerts.enable = s.alerts.enable ∧ t.alertLine = false
        ∧ s.sends t .supervisor [.reply 0x43#8 .ok (.alerts
            { flags := s.alerts.flags, masks := s.alerts.masks, enable := s.alerts.enable
              channels := s.monitor.toList.map fun m => (m.settings.mode, m.state, m.run)
              link0Errors := (s.port .supervisor).errors })]
        ∧ { t with alerts := s.alerts, supervisorPort := s.supervisorPort, nodePorts := s.nodePorts } = s)
      ∧ (s.listens → p = [] → (s.port .supervisor).inProgress = some .save →
        exec (.readAlerts .supervisor p) s = .next (s.reply .supervisor .readAlerts .busy))
      ∧ ∀ n, s.listens → p = [] → exec (.readAlerts (.node n) p) s = .next (s.reply (.node n) .readAlerts .badKind)

/-- R151: MASK. That the global enable's octet is 1 for on and 0 for off, and no other value is either, is the model's reading (log
entry 32). -/
def Obligations.MaskReplacesMasksAndEnable : Prop :=
  ∀ (p : List Byte) (s : State),
    (s.passes .mask .supervisor p →
      (octetAt p 4 ≠ 0 → octetAt p 4 ≠ 1 →
          exec (.mask .supervisor p) s = .next (s.reply .supervisor .mask .badValue))
        ∧ (octetAt p 4 = 0 ∨ octetAt p 4 = 1 → ∃ t, exec (.mask .supervisor p) s = .next t
          ∧ (∀ a : Alert, t.alerts.masks.getLsbD a.bit = (field4 p 0).getLsbD a.bit)
          ∧ t.alerts.enable = decide (octetAt p 4 = 1) ∧ t.alerts.flags = s.alerts.flags
          ∧ (t.alertLine = true ↔ octetAt p 4 = 1 ∧ ∃ a : Alert, s.flag a = true ∧ (field4 p 0).getLsbD a.bit = false)
          ∧ s.sends t .supervisor [.reply 0x4A#8 .ok (.oldMasks s.alerts.masks s.alerts.enable)]
          ∧ { t with alerts := s.alerts, supervisorPort := s.supervisorPort, nodePorts := s.nodePorts } = s))
      ∧ (s.listens → p.length = 5 → (s.port .supervisor).inProgress = some .save →
        exec (.mask .supervisor p) s = .next (s.reply .supervisor .mask .busy))
      ∧ ∀ n, s.listens → p.length = 5 → exec (.mask (.node n) p) s = .next (s.reply (.node n) .mask .badKind)

/-- R73 to R75: the peek cursor. -/
def Obligations.PeekCursorReadsARecord : Prop :=
  ∀ (p : List Byte) (s : State),
    (s.passes .peekAt .supervisor p →
      (octetAt p 0 = 0 ∨ 8 < octetAt p 0 →
          exec (.peekAt .supervisor p) s = .next (s.reply .supervisor .peekAt .badValue))
        ∧ ∀ n : NodeId, octetAt p 0 = n.num →
          (s.present n = false → exec (.peekAt .supervisor p) s = .next (s.reply .supervisor .peekAt .notPresent))
            ∧ (s.present n = true → (∀ e ∈ s.store.committed n, e.2.gen ≠ field4 p 1) →
              exec (.peekAt .supervisor p) s = .next (s.reply .supervisor .peekAt .gone))
            ∧ ∀ r, s.present n = true → s.store.committedRecord n (field4 p 1) = some r →
              (r.declared ≤ field2 p 5 →
                  exec (.peekAt .supervisor p) s = .next (s.reply .supervisor .peekAt .badValue))
                ∧ (field2 p 5 < r.declared → ∃ t, exec (.peekAt .supervisor p) s = .next t
                  ∧ t.store = { s.store with peek := some ⟨n, field4 p 1, field2 p 5⟩ }
                  ∧ s.sends t .supervisor [.reply 0x44#8 .ok (.peekedAt r.kind r.declared r.time)]
                  ∧ { t with store := s.store, supervisorPort := s.supervisorPort, nodePorts := s.nodePorts } = s))
      ∧ (s.passes .peekNext .supervisor p →
        (s.store.peek = none → exec (.peekNext .supervisor p) s = .next (s.reply .supervisor .peekNext .gone))
          ∧ ∀ c r, s.store.peek = some c → s.store.committedRecord c.node c.gen = some r → c.offset ≤ r.declared →
            let count := min 16 (r.declared - c.offset)
            let ws := r.wordsFrom s.store.pool c.offset count
            ((∀ w ∈ ws, w.sound = true) → ∃ t, exec (.peekNext .supervisor p) s = .next t
                ∧ t.store = { s.store with peek := some { c with offset := c.offset + count } }
                ∧ s.sends t .supervisor [.reply 0x45#8 .ok (.peeked c.gen c.offset (ws.map PoolWord.value)
                    (decide (c.offset + count = r.declared)) none)]
                ∧ { t with store := s.store, supervisorPort := s.supervisorPort, nodePorts := s.nodePorts } = s)
              ∧ (∀ k w, ws[k]? = some w → w.sound = false →
                (∀ j x, j < k → ws[j]? = some x → x.sound = true) → ∃ t, exec (.peekNext .supervisor p) s = .next t
                ∧ t.store = { s.store with peek := some { c with offset := c.offset + k + 1 } }
                ∧ s.sends t .supervisor [.reply 0x45#8 .storeError (.peeked c.gen c.offset
                    ((ws.take k).map PoolWord.value) (decide (c.offset + k + 1 = r.declared)) (some (c.offset + k)))]
                ∧ { t with store := s.store, supervisorPort := s.supervisorPort, nodePorts := s.nodePorts } = s))

/-- R52, R53, R54, R56, R91, R1: RESTART, HALT and RELEASE, and the requests that their checks turn away, a node number outside 1..8
among them. The order of the checks of RESTART is the model's (log entry 16). -/
def Obligations.SupervisorRestartsHaltsAndReleases : Prop :=
  (∀ (p : List Byte) (s : State), octetAt p 0 = 0 ∨ 8 < octetAt p 0 →
      (s.passes .restart .supervisor p → exec (.restart .supervisor p) s = .next (s.reply .supervisor .restart .badValue))
        ∧ (s.passes .halt .supervisor p → exec (.halt .supervisor p) s = .next (s.reply .supervisor .halt .badValue))
        ∧ (s.passes .release .supervisor p →
          exec (.release .supervisor p) s = .next (s.reply .supervisor .release .badValue)))
  ∧ ∀ (n : NodeId) (p : List Byte) (s : State), s.uploadLaw → s.schedulerLaw → octetAt p 0 = n.num →
    (s.passes .restart .supervisor p →
      (octetAt p 1 ≠ 0 → octetAt p 1 ≠ 1 →
          exec (.restart .supervisor p) s = .next (s.reply .supervisor .restart .badValue))
        ∧ (octetAt p 1 ≤ 1 → s.present n = false →
          exec (.restart .supervisor p) s = .next (s.reply .supervisor .restart .notPresent))
        ∧ (octetAt p 1 ≤ 1 → s.present n = true → (s.node n).state.inService = false → (s.node n).state ≠ .settling →
          exec (.restart .supervisor p) s = .next (s.reply .supervisor .restart .badState))
        ∧ (octetAt p 1 = 0 → s.present n = true →
          (s.node n).state.inService = true ∨ (s.node n).state = .settling →
          (∃ m, s.partner n = some m ∧ (s.node m).state.inService = false) →
          exec (.restart .supervisor p) s = .next (s.reply .supervisor .restart .partnerDown))
        ∧ (s.present n = true → (s.node n).state.inService = true ∨ (s.node n).state = .settling →
          (octetAt p 1 = 1
            ∨ (octetAt p 1 = 0 ∧ ∀ m, s.partner n = some m → (s.node m).state.inService = true)) →
          ∃ t, exec (.restart .supervisor p) s = .next t
            ∧ (s.node n).beginsRestart (t.node n) (s.nodePlan n) .commanded ∧ (t.node n).openRec = none
            ∧ s.endsPass t n
            ∧ (∀ m, m ≠ n → t.node m = s.node m) ∧ t.channels = s.channels ∧ t.monitor = s.monitor ∧ s.sameSetup t
            ∧ (∀ m, t.store.committed m = s.store.committed m)
            ∧ t.port .supervisor =
              { s.port .supervisor with sent := (s.port .supervisor).sent ++ [.reply 0x46#8 .ok .none] }))
      ∧ (s.passes .halt .supervisor p →
        (s.present n = false → exec (.halt .supervisor p) s = .next (s.reply .supervisor .halt .notPresent))
          ∧ (s.present n = true → (s.node n).state = .halted →
            exec (.halt .supervisor p) s = .next (s.reply .supervisor .halt .ok))
          ∧ (s.present n = true → (s.node n).state ≠ .halted → ∃ t, exec (.halt .supervisor p) s = .next t
            ∧ (t.node n).state = .halted ∧ (t.node n).resetLine = (s.nodePlan n).resetDrive
            ∧ (t.node n).attempts = (s.node n).attempts ∧ (t.node n).cause = (s.node n).cause
            ∧ (t.node n).drive = (s.node n).drive ∧ (t.node n).lastBeat = (s.node n).lastBeat
            ∧ (t.node n).mark = none ∧ (t.node n).openRec = none ∧ (t.node n).channel = none ∧ n ∉ t.queue
            ∧ (t.node n).acquire = none ∧ (t.node n).lapse = none ∧ (t.node n).stable = none
            ∧ (t.node n).pulse = none ∧ (t.node n).boot = none ∧ (t.node n).settle = none
            ∧ t.flag .halted = true ∧ t.monitor = s.monitor ∧ s.sameSetup t
            ∧ (∀ m, t.store.gens.get m = s.store.gens.get m)
            ∧ ((s.node n).state ≠ .restoring → s.endsPass t n)
            ∧ (∀ c b, (s.node n).channel = some c → s.chan c = some b →
                (t.port (.node n)).sent = (s.port (.node n)).sent ++ [.done .aborted (s.fullGen b)])
            ∧ t.port .supervisor =
              { s.port .supervisor with sent := (s.port .supervisor).sent ++ [.reply 0x47#8 .ok .none] }))
      ∧ (s.passes .release .supervisor p →
        (s.present n = false → exec (.release .supervisor p) s = .next (s.reply .supervisor .release .notPresent))
          ∧ (s.present n = true → (s.node n).state ≠ .halted →
            exec (.release .supervisor p) s = .next (s.reply .supervisor .release .badState))
          ∧ (s.present n = true → (s.node n).state = .halted → 1 ≤ (s.nodePlan n).attemptLimit →
            ∃ t, exec (.release .supervisor p) s = .next t
              ∧ { s.node n with attempts := 0 }.beginsRestart (t.node n) (s.nodePlan n) .released
              ∧ (t.node n).state ≠ .halted ∧ (∀ m, m ≠ n → t.node m = s.node m)
              ∧ s.sends t .supervisor [.reply 0x48#8 .ok .none]
              ∧ { t with nodes := s.nodes, supervisorPort := s.supervisorPort, nodePorts := s.nodePorts } = s))

/-- R145: LIMIT. -/
def Obligations.LimitReplacesTheSettings : Prop :=
  ∀ (p : List Byte) (s : State), s.passes .limit .supervisor p →
    let valid : Prop := octetAt p 0 ≤ 15 ∧ 1 ≤ octetAt p 1 ∧ octetAt p 1 ≤ 4 ∧ octetAt p 2 ≤ 2 ∧ field2 p 3 ≤ 4095
      ∧ field2 p 5 < field2 p 3 ∧ (octetAt p 7 = 1 ∨ octetAt p 7 = 2 ∨ octetAt p 7 = 4 ∨ octetAt p 7 = 6)
      ∧ octetAt p 8 ≤ 1
    (¬ valid → exec (.limit .supervisor p) s = .next (s.reply .supervisor .limit .badValue))
      ∧ (valid → ∀ k : Fin 16, octetAt p 0 = k.val → ∃ t, exec (.limit .supervisor p) s = .next t
        ∧ (t.monitor[k]).state = .clear ∧ (t.monitor[k]).run = 0
        ∧ (t.monitor[k]).settings.group.num = octetAt p 1 ∧ (t.monitor[k]).settings.mode.code = octetAt p 2
        ∧ (t.monitor[k]).settings.high = field2 p 3 ∧ (t.monitor[k]).settings.hyst = field2 p 5
        ∧ (t.monitor[k]).settings.faultCount = octetAt p 7
        ∧ (t.monitor[k]).settings.escalate = decide (octetAt p 8 = 1)
        ∧ (∀ j, j ≠ k → t.monitor[j] = s.monitor[j])
        ∧ s.sends t .supervisor [.reply 0x49#8 .ok (.oldChannel (s.monitor[k]).state (s.monitor[k]).run)]
        ∧ { t with monitor := s.monitor, supervisorPort := s.supervisorPort, nodePorts := s.nodePorts } = s)

/-! ### The plan unit -/

/-- R166, R165: SET writes one item of the staged plan, or is refused and changes nothing. -/
def Obligations.SetWritesTheStagedPlan : Prop :=
  ∀ (p : List Byte) (s : State), s.passes .set .supervisor p →
    let item := octetAt p 0
    let index := octetAt p 1
    let v := (field4 p 2).toNat
    let isNodeItem : Prop := item ≤ 11 ∧ 1 ≤ index ∧ index ≤ 8
    let inRange : Prop :=
      (isNodeItem ∧ ((item = 0 ∨ item = 4) → v ≤ 1) ∧ (item = 1 → 1 ≤ v ∧ v ≤ 4) ∧ (item = 2 → 1 ≤ v ∧ v ≤ 2)
          ∧ (item = 3 → v ≤ 7) ∧ ((5 ≤ item ∧ item ≤ 9) → 1 ≤ v ∧ v ≤ 255) ∧ (item = 10 → 1 ≤ v ∧ v ≤ 7)
          ∧ (item = 11 → v ≤ 255))
        ∨ (16 ≤ item ∧ item ≤ 18 ∧ 1 ≤ index ∧ index ≤ 4 ∧ (item = 16 → 1 ≤ v ∧ v ≤ 600) ∧ (item = 17 → v ≤ 600)
          ∧ (item = 18 → 1 ≤ v ∧ v ≤ 3600))
        ∨ (item = 24 ∧ index = 0 ∧ 5 ≤ v ∧ v ≤ 255)
    (¬ inRange → exec (.set .supervisor p) s = .next (s.reply .supervisor .set .badValue))
      ∧ (inRange → ∃ t, exec (.set .supervisor p) s = .next t
        ∧ s.sends t .supervisor [.reply 0x4B#8 .ok .none]
        ∧ { t with staged := s.staged, supervisorPort := s.supervisorPort, nodePorts := s.nodePorts } = s
        ∧ (∀ n : NodeId, isNodeItem → index = n.num →
            (t.staged.nodes.get n).values = ((s.staged.nodes.get n).values).set item v
              ∧ (∀ m, m ≠ n → t.staged.nodes.get m = s.staged.nodes.get m) ∧ t.staged.groups = s.staged.groups
              ∧ t.staged.answerTime = s.staged.answerTime)
        ∧ (∀ g : GroupId, 16 ≤ item → item ≤ 18 → index = g.num →
            (t.staged.groups.get g).values = ((s.staged.groups.get g).values).set (item - 16) v
              ∧ (∀ k, k ≠ g → t.staged.groups.get k = s.staged.groups.get k) ∧ t.staged.nodes = s.staged.nodes
              ∧ t.staged.answerTime = s.staged.answerTime)
        ∧ (item = 24 → t.staged = { s.staged with answerTime := v }))

/-- R167: the plan lock and the plan checks of APPLY; a refused APPLY changes nothing. Checks 1 and 2 are taken group by group (log
entry 29). -/
def Obligations.ApplyIsLockedOrChecked : Prop :=
  ∀ (p : List Byte) (s : State), s.passes .apply .supervisor p →
    let locked : Prop :=
      (∃ g, (s.group g).state.inHold = true ∧ ∀ n, (s.group g).duty = some n → (s.node n).state ≠ .halted)
        ∨ s.chan .c0 ≠ none ∨ s.chan .c1 ≠ none
        ∨ ∃ n, (s.node n).state = .reset ∨ (s.node n).state = .boot ∨ (s.node n).state = .queued
            ∨ (s.node n).state = .restoring ∨ (s.node n).state = .settling
    let dutiesOf (g : GroupId) : List NodeId := (s.staged.members g).filter fun n => (s.staged.nodes.get n).role = .duty
    (locked → exec (.apply .supervisor p) s = .next (s.reply .supervisor .apply .planLocked))
      ∧ (¬ locked → ∀ g, (∀ k : GroupId, k.num < g.num → s.staged.groupFault k = none) →
        (∀ third, (s.staged.members g)[2]? = some third →
            exec (.apply .supervisor p) s
              = .next (s.reply .supervisor .apply .planInvalid (.planItem 1 third.num)))
          ∧ (∀ lowest rest, s.staged.members g = lowest :: rest → rest.length ≤ 1 → dutiesOf g = [] →
            exec (.apply .supervisor p) s
              = .next (s.reply .supervisor .apply .planInvalid (.planItem 2 lowest.num)))
          ∧ (∀ first second rest, (s.staged.members g).length ≤ 2 → dutiesOf g = first :: second :: rest →
            exec (.apply .supervisor p) s
              = .next (s.reply .supervisor .apply .planInvalid (.planItem 2 second.num))))
      ∧ ∀ k, s.staged.groupFault k = none ↔
        (s.staged.members k = [] ∨ ((s.staged.members k).length ≤ 2 ∧ (dutiesOf k).length = 1))

/-- R168, R91, R121, R122: what an APPLY that passes makes of each node, of its records and its link, of each group, of the exchanges
and of the alert flags. A group left with one member, which is not in UNKNOWN, resolves its roles at once: a RUNNING or QUIET
member is sent ROLE DUTY; another one is designated out of service, and the hold entry then raises HELD (log entry 31), its
deadline counted from now (log entry 12). The BAD_STATE answer to a COMMIT whose pass ends carries the newest generation as it was
before the node's records are removed (log entry 17). -/
def Obligations.ApplyActivatesTheStagedPlan : Prop :=
  ∀ (p : List Byte) (s : State), s.uploadLaw → s.passes .apply .supervisor p → s.planLocked = false →
    s.staged.firstFault = none →
    let keeps (g : GroupId) : Prop := s.active.members g = s.staged.members g
    ∃ t, exec (.apply .supervisor p) s = .next t ∧ t.active = s.staged ∧ t.staged = s.staged
      ∧ t.array = s.array ∧ t.saving = s.saving ∧ t.clock = s.clock ∧ t.channels = s.channels ∧ t.monitor = s.monitor
      ∧ t.alerts.masks = s.alerts.masks ∧ t.alerts.enable = s.alerts.enable
      ∧ t.store.pool = s.store.pool ∧ t.store.gens = s.store.gens
      ∧ (t.port .supervisor).sent = (s.port .supervisor).sent ++ [.reply 0x4C#8 .ok .none]
      ∧ (∀ n, (t.port (.node n)).errors = (s.port (.node n)).errors)
      ∧ (∀ n g, s.active.groupOf n = some g → s.staged.groupOf n = some g →
          t.store.committed n = s.store.committed n
            ∧ (keeps g → t.port (.node n) = s.port (.node n)
                ∧ t.node n =
                  { s.node n with attempts := min (s.node n).attempts (s.staged.nodes.get n).attemptLimit })
            ∧ (¬ keeps g → t.node n =
                { s.node n with
                  attempts := min (s.node n).attempts (s.staged.nodes.get n).attemptLimit
                  state := if (s.node n).state = .quiet then .running else (s.node n).state
                  nudgeSent := if (s.node n).state = .quiet then false else (s.node n).nudgeSent
                  beatSincePending := false }))
      ∧ (∀ n, s.active.groupOf n ≠ none → s.staged.groupOf n = none →
          t.node n = NodeRec.atReset ∧ t.store.recordsOf n = [] ∧ s.endsPass t n)
      ∧ (∀ n, s.staged.groupOf n ≠ none → s.active.groupOf n ≠ s.staged.groupOf n →
          t.node n = NodeRec.entersUnknown (s.staged.nodes.get n)
            ∧ (s.active.groupOf n ≠ none → t.store.recordsOf n = [] ∧ s.endsPass t n)
            ∧ (s.active.groupOf n = none → t.port (.node n) = s.port (.node n)))
      ∧ (∀ g, keeps g → t.group g = s.group g)
      ∧ (∀ g, ¬ keeps g → s.staged.members g = [] → t.group g = GroupRec.atReset)
      ∧ (∀ g, ¬ keeps g → (∃ n ∈ s.staged.members g, (t.node n).state = .unknown) →
          t.group g = { GroupRec.atReset with state := .pending })
      ∧ (∀ g n, ¬ keeps g → s.staged.members g = [n] → n ∈ s.active.members g →
          ((s.node n).state = .running ∨ (s.node n).state = .quiet →
              t.group g = { GroupRec.atReset with state := .served, duty := some n }
                ∧ t.port (.node n) =
                  { s.port (.node n) with sent := (s.port (.node n)).sent ++ [.role g .duty] })
            ∧ ((s.node n).state ≠ .unknown → (s.node n).state ≠ .running → (s.node n).state ≠ .quiet →
              s.entersHold t g (s.staged.groups.get g) n none s.clock.ms ∧ (t.group g).outstanding = false
                ∧ t.port (.node n) = s.port (.node n)))
      ∧ (∀ g n, ¬ keeps g → (s.group g).outstanding = true → (s.group g).standby = some n →
          t.exchange n = ⟨none, none⟩)
      ∧ (∀ n, (∀ g, ¬ keeps g → (s.group g).outstanding = true → (s.group g).standby ≠ some n) →
          t.exchange n = s.exchange n)
      ∧ (∀ a, a ≠ .held → a ≠ .unserved → t.flag a = s.flag a)
      ∧ ((∀ g, ¬ keeps g → s.staged.members g = []
            ∨ ∃ n ∈ s.staged.members g, (t.node n).state = .unknown ∨ (t.node n).state = .running) →
          t.alerts = s.alerts)

/-- R170, R160: SAVE and its completion. That the array is not good from the acceptance to an OK completion, and that the sum of the
read-back comes with the completion, is the model's reading (log entry 14). With the RESET input asserted a SAVE completes and no
reply is formed (log entry 4). -/
def Obligations.SaveWritesTheArray : Prop :=
  (∀ (p : List Byte) (s : State), s.passes .save .supervisor p → ∃ t, exec (.save .supervisor p) s = .next t
      ∧ (t.port .supervisor) = { s.port .supervisor with inProgress := some .save }
      ∧ (∃ img, t.saving = some img ∧ img.plan = s.active
          ∧ ∀ k : Fin 16, img.settings[k] = (s.monitor[k]).settings)
      ∧ t.array.load = (Image.delivered, true)
      ∧ { t with supervisorPort := s.supervisorPort, saving := s.saving, array := s.array } = s)
    ∧ (∀ (sum : Word) (img : Image) (s : State), s.powered = true → s.saving = some img →
        ∃ t, exec (.saveComplete sum) s = .next t ∧ t.saving = none
          ∧ (t.port .supervisor).inProgress = none
          ∧ (sum = 0x4B5A4160#32 → (∃ check, t.array = .image img check ∧ wordSum img.words + check = 0x4B5A4160#32)
              ∧ (t.port .supervisor).sent = (s.port .supervisor).sent ++ (if s.resetAsserted then [] else [.reply 0x4D#8 .ok .none]))
          ∧ (sum ≠ 0x4B5A4160#32 → t.array.load = (Image.delivered, true)
              ∧ (t.port .supervisor).sent = (s.port .supervisor).sent ++ (if s.resetAsserted then [] else [.reply 0x4D#8 .storeError .none]))
          ∧ { t with supervisorPort := s.supervisorPort, saving := s.saving, array := s.array } = s)
    ∧ ∀ (sum : Word) (s : State), s.saving = none → exec (.saveComplete sum) s = .next s

/-! ### Laws that every step keeps -/

/-- Every law holds right after reset. -/
def Obligations.LawsHoldAtReset : Prop :=
  Memory.wf State.reset.store.pool ∧ State.reset.store.blockAccounting ∧ State.reset.storeLaw
    ∧ State.reset.attemptLaw ∧ State.reset.groupLaw ∧ State.reset.planLaw ∧ State.reset.monitorLaw
    ∧ State.reset.countLaw ∧ State.reset.saveLaw

/-- The pool keeps its canonical form. R59: the law of block accounting. -/
def Obligations.PoolKeepsItsLaws : Prop :=
  (∀ s t : State, Memory.wf s.store.pool → step s = .next t → Memory.wf t.store.pool)
    ∧ (∀ s t : State, s.store.blockAccounting → step s = .next t → t.store.blockAccounting)

/-- R67, R90, R160: the law of the open record, with the request in progress of its link. R62: the law of generations, as
the directory shows it; a generation counter never falls but at power-on reset; and a record that a step places has a generation
above the counter that stood before it, so that a generation once given does not come again. -/
def Obligations.UploadsKeepTheirLaws : Prop :=
  (∀ s t : State, s.uploadLaw → step s = .next t → t.uploadLaw)
    ∧ (∀ s t : State, s.store.generationLaw → step s = .next t → t.store.generationLaw)
    ∧ (∀ s t : State, step s = .next t → s.pending.head? ≠ some .powerOnReset →
        ∀ n, (s.store.gens.get n).toNat ≤ (t.store.gens.get n).toNat)
    ∧ ∀ s t : State, step s = .next t → ∀ (i : Slot) (r : Record), t.store.dir[i] = some r →
        (∃ q, s.store.dir[i] = some q ∧ q.node = r.node ∧ q.gen = r.gen)
          ∨ (s.store.gens.get r.node).toNat < r.gen.toNat

/-- R96 to R99, R101, R102: the laws of the queue, its order by the keys among them, and of the channels, with the arbiter's work. That
an advance of the clock puts the queue in order again is log entry 23. -/
def Obligations.QueueAndChannelsStayConsistent : Prop :=
  ∀ s t : State, s.schedulerLaw → step s = .next t → t.schedulerLaw

/-- R8, R7, R121, R128, R161: the hold fields, the law of roles and the TAKE exchanges of the groups. The law of roles names the members
under the active plan, so it is kept where that plan passes its checks; the presence of a duty node, the hold fields and the TAKE
exchanges are kept whatever the plan. -/
def Obligations.GroupsStayConsistent : Prop :=
  (∀ s t : State, s.planLaw → s.groupLaw → step s = .next t → t.groupLaw)
    ∧ ∀ s t : State, s.holdLaw ∧ s.dutyLaw ∧ s.takeLaw → step s = .next t → t.holdLaw ∧ t.dutyLaw ∧ t.takeLaw

/-- R63, R64, R72: the laws of the committed list, of bases and of pins, kept together with the laws on which they rest. -/
def Obligations.CommittedListsStayWithinTheirLaws : Prop :=
  ∀ s t : State, s.storeLaw → step s = .next t → t.storeLaw

/-- R165 to R167, R138, R141, R11, R158, R160, R170, R35: plans and settings in their ranges, run counters and counts that fit, a SAVE
in progress that link 0 owes, and the law of attempt accounting. That the array is not good while a SAVE is under way is the
model's reading (log entry 14). The image that a load accepts is checked, so that the plan law
needs no law of the array. -/
def Obligations.SettingsAndCountsStayInRange : Prop :=
  ((∀ s t : State, s.planLaw → step s = .next t → t.planLaw)
    ∧ (∀ s t : State, s.monitorLaw → step s = .next t → t.monitorLaw)
    ∧ (∀ s t : State, s.countLaw → step s = .next t → t.countLaw)
    ∧ ∀ s t : State, s.saveLaw → step s = .next t → t.saveLaw)
    ∧ (∀ s t : State, s.attemptLaw → step s = .next t → t.attemptLaw)
end

