-- ==== Sys2Proof/Laws/Pool.lean ====
section
/-! SUPPORT. The block pool: what a read gives after a write, and the canonical form kept by every write. -/

namespace Sys2Proof.Machine

theorem Pool.read_of_not_mem {p : Pool} {k : Nat} (h : ∀ e ∈ p, e.1 ≠ k) : Pool.read p k = .zero := by
  induction p with
  | nil => rfl
  | cons e p ih =>
    obtain ⟨a, v⟩ := e
    have ha : a ≠ k := h (a, v) (by simp)
    simp only [Pool.read, if_neg ha]
    exact ih fun e he => h e (by simp [he])

/-- Addresses below the first of a canonical pool are not listed. -/
theorem Pool.read_of_lt {a k : Nat} {v : PoolWord} {p : Pool} (h : Memory.wf ((a, v) :: p)) (hk : k < a) :
    Pool.read ((a, v) :: p) k = .zero := by
  apply Pool.read_of_not_mem
  intro e he
  rcases List.mem_cons.1 he with rfl | he
  · exact Nat.ne_of_gt hk
  · have := (List.pairwise_cons.1 h.1).1 e he
    simp only at this
    omega

theorem Memory.wf_tail {e : Nat × PoolWord} {p : Pool} (h : Memory.wf (e :: p)) : Memory.wf p :=
  ⟨(List.pairwise_cons.1 h.1).2, fun x hx => h.2 x (by simp [hx])⟩

/-- Every address listed after a write was listed before, or is the one written. -/
theorem Pool.mem_write {p : Pool} {k : Nat} {w : PoolWord} {e : Nat × PoolWord} (he : e ∈ p.write k w) :
    e ∈ p ∨ (e = (k, w) ∧ w ≠ .zero) := by
  induction p with
  | nil =>
    simp only [Pool.write] at he
    split at he
    · simp at he
    · right; simp_all
  | cons x p ih =>
    obtain ⟨a, v⟩ := x
    simp only [Pool.write] at he
    split at he
    · split at he
      · left; exact he
      · rcases List.mem_cons.1 he with rfl | h
        · right; simp_all
        · left; exact h
    · split at he
      · split at he
        · left; simp [he]
        · rcases List.mem_cons.1 he with rfl | h
          · right; simp_all
          · left; simp [h]
      · rcases List.mem_cons.1 he with rfl | h
        · left; simp
        · rcases ih h with h | h
          · left; simp [h]
          · right; exact h

/-- A write keeps the canonical form. -/
theorem Pool.wf_write {p : Pool} (h : Memory.wf p) (k : Nat) (w : PoolWord) : Memory.wf (p.write k w) := by
  refine ⟨?_, ?_⟩
  · induction p with
    | nil => simp only [Pool.write]; split <;> simp
    | cons x p ih =>
      obtain ⟨a, v⟩ := x
      have ht := Memory.wf_tail h
      have hc := List.pairwise_cons.1 h.1
      simp only [Pool.write]
      split
      · split
        · exact h.1
        · rename_i hk _
          refine List.pairwise_cons.2 ⟨?_, h.1⟩
          intro e he
          rcases List.mem_cons.1 he with rfl | he
          · exact hk
          · exact Nat.lt_trans hk (hc.1 e he)
      · split
        · rename_i hk
          split
          · exact hc.2
          · subst hk
            exact List.pairwise_cons.2 ⟨hc.1, hc.2⟩
        · rename_i h1 h2
          refine List.pairwise_cons.2 ⟨?_, ih ht⟩
          intro e he
          rcases Pool.mem_write he with he | ⟨rfl, _⟩
          · exact hc.1 e he
          · simp only
            omega
  · intro e he
    rcases Pool.mem_write he with he | ⟨rfl, hw⟩
    · exact h.2 e he
    · exact hw

/-- A word reads as it was written, and every other word as before. -/
theorem Pool.read_write {p : Pool} (h : Memory.wf p) (k j : Nat) (w : PoolWord) :
    (p.write k w).read j = if j = k then w else p.read j := by
  induction p with
  | nil =>
    simp only [Pool.write]
    split
    · split <;> simp_all [Pool.read]
    · simp only [Pool.read]
      split <;> split <;> simp_all
  | cons x p ih =>
    obtain ⟨a, v⟩ := x
    have ht := Memory.wf_tail h
    simp only [Pool.write]
    split
    · rename_i hk
      split
      · rename_i hw
        split
        · rename_i hj
          rw [hj, Pool.read_of_lt h hk, hw]
        · rfl
      · simp only [Pool.read]
        by_cases hj : j = k
        · rw [if_pos hj, if_pos hj.symm]
        · rw [if_neg hj, if_neg (Ne.symm hj)]
    · split
      · rename_i hk
        subst hk
        split
        · rename_i hw
          split
          · rename_i hj
            subst hj
            rw [hw]
            apply Pool.read_of_not_mem
            intro e he
            have := (List.pairwise_cons.1 h.1).1 e he
            simp only at this
            omega
          · rename_i hj
            simp only [Pool.read]
            rw [if_neg (fun e => hj e.symm)]
        · simp only [Pool.read]
          by_cases hj : j = k
          · rw [if_pos hj, if_pos hj.symm]
          · rw [if_neg hj, if_neg (Ne.symm hj), if_neg (Ne.symm hj)]
      · rename_i h1 h2
        simp only [Pool.read]
        split
        · rename_i hj
          split
          · omega
          · rfl
        · exact ih ht

theorem Pool.wf_writeFrom {p : Pool} (h : Memory.wf p) (a : Nat) (ws : List PoolWord) : Memory.wf (p.writeFrom a ws) := by
  induction ws generalizing p a with
  | nil => exact h
  | cons w ws ih => exact ih (Pool.wf_write h a w) (a + 1)

/-- The words written from an address on read as written, and every other word as before. -/
theorem Pool.read_writeFrom {p : Pool} (h : Memory.wf p) (a j : Nat) (ws : List PoolWord) :
    (p.writeFrom a ws).read j = if a ≤ j then (ws[j - a]?).getD (p.read j) else p.read j := by
  induction ws generalizing p a with
  | nil => simp [Pool.writeFrom]
  | cons w ws ih =>
    rw [Pool.writeFrom, ih (Pool.wf_write h a w), Pool.read_write h]
    by_cases h1 : a + 1 ≤ j
    · have : j - a = (j - (a + 1)) + 1 := by omega
      rw [if_pos h1, if_neg (by omega : ¬ j = a), if_pos (by omega : a ≤ j), this, List.getElem?_cons_succ]
    · rw [if_neg h1]
      by_cases h2 : j = a
      · subst h2; simp
      · rw [if_neg h2, if_neg (by omega : ¬ a ≤ j)]

theorem Pool.wf_writeBlock {p : Pool} (h : Memory.wf p) (b : Nat) (ws : List Word) : Memory.wf (p.writeBlock b ws) :=
  Pool.wf_writeFrom h _ _

/-- R60: an allocated block holds the carried words and then words of value 0, all of them sound. -/
theorem Pool.read_writeBlock {p : Pool} (h : Memory.wf p) (b i : Nat) (ws : List Word) (hi : i < 64) :
    (p.writeBlock b ws).read (wordAddr b i) = ⟨ws.getD i 0#32, true⟩ := by
  rw [Pool.writeBlock, Pool.read_writeFrom h]
  have h1 : wordAddr b 0 ≤ wordAddr b i := by simp [wordAddr]
  have h2 : wordAddr b i - wordAddr b 0 = i := by simp [wordAddr]
  rw [if_pos h1, h2]
  simp [blockContents, Config.blockWords, hi]

/-- R60: no word outside the block changes. -/
theorem Pool.read_writeBlock_other {p : Pool} (h : Memory.wf p) (b j : Nat) (ws : List Word)
    (hj : j < wordAddr b 0 ∨ wordAddr b 64 ≤ j) : (p.writeBlock b ws).read j = p.read j := by
  rw [Pool.writeBlock, Pool.read_writeFrom h]
  split
  · rename_i h1
    have : wordAddr b 64 = wordAddr b 0 + 64 := by simp [wordAddr]
    have h2 : 64 ≤ j - wordAddr b 0 := by omega
    simp [blockContents, Config.blockWords, h2]
  · rfl

end Sys2Proof.Machine
end

