-- ==== Sys2Proof/Laws/Tables.lean ====
section
/-! SUPPORT. Reading a table after it has been written, and numbers of nodes and groups. -/

namespace Sys2Proof.Machine

@[simp] theorem PerNode.get_set_self {α : Type} (t : PerNode α) (n : NodeId) (a : α) : (t.set n a).get n = a := by
  cases n <;> rfl

theorem PerNode.get_set {α : Type} (t : PerNode α) (n m : NodeId) (a : α) :
    (t.set n a).get m = if m = n then a else t.get m := by
  cases n <;> cases m <;> rfl

@[simp] theorem PerNode.get_set_ne {α : Type} (t : PerNode α) {n m : NodeId} (a : α) (h : m ≠ n) :
    (t.set n a).get m = t.get m := by rw [PerNode.get_set, if_neg h]

@[simp] theorem PerNode.get_ofFn {α : Type} (f : NodeId → α) (n : NodeId) : (PerNode.ofFn f).get n = f n := by
  cases n <;> rfl

@[simp] theorem PerNode.get_const {α : Type} (a : α) (n : NodeId) : (PerNode.const a).get n = a := by
  cases n <;> rfl

@[ext] theorem PerNode.ext_get {α : Type} {t u : PerNode α} (h : ∀ n, t.get n = u.get n) : t = u := by
  cases t; cases u
  have h1 := h .n1; have h2 := h .n2; have h3 := h .n3; have h4 := h .n4
  have h5 := h .n5; have h6 := h .n6; have h7 := h .n7; have h8 := h .n8
  simp only [PerNode.get] at h1 h2 h3 h4 h5 h6 h7 h8
  simp [*]

@[simp] theorem PerGroup.get_set_self {α : Type} (t : PerGroup α) (g : GroupId) (a : α) : (t.set g a).get g = a := by
  cases g <;> rfl

theorem PerGroup.get_set {α : Type} (t : PerGroup α) (g h : GroupId) (a : α) :
    (t.set g a).get h = if h = g then a else t.get h := by
  cases g <;> cases h <;> rfl

@[simp] theorem PerGroup.get_set_ne {α : Type} (t : PerGroup α) {g h : GroupId} (a : α) (ne : h ≠ g) :
    (t.set g a).get h = t.get h := by rw [PerGroup.get_set, if_neg ne]

@[simp] theorem PerGroup.get_ofFn {α : Type} (f : GroupId → α) (g : GroupId) : (PerGroup.ofFn f).get g = f g := by
  cases g <;> rfl

@[simp] theorem PerGroup.get_const {α : Type} (a : α) (g : GroupId) : (PerGroup.const a).get g = a := by
  cases g <;> rfl

@[simp] theorem PerChan.get_set_self {α : Type} (t : PerChan α) (c : ChanId) (a : α) : (t.set c a).get c = a := by
  cases c <;> rfl

theorem PerChan.get_set {α : Type} (t : PerChan α) (c d : ChanId) (a : α) :
    (t.set c a).get d = if d = c then a else t.get d := by
  cases c <;> cases d <;> rfl

@[simp] theorem PerChan.get_set_ne {α : Type} (t : PerChan α) {c d : ChanId} (a : α) (h : d ≠ c) :
    (t.set c a).get d = t.get d := by rw [PerChan.get_set, if_neg h]

@[simp] theorem PerChan.get_ofFn {α : Type} (f : ChanId → α) (c : ChanId) : (PerChan.ofFn f).get c = f c := by cases c <;> rfl

end Sys2Proof.Machine

namespace Sys2Proof

/-- Every node is in the list of all nodes. -/
@[simp] theorem NodeId.mem_all (n : NodeId) : n ∈ NodeId.all := by cases n <;> decide

/-- Every group is in the list of all groups. -/
@[simp] theorem GroupId.mem_all (g : GroupId) : g ∈ GroupId.all := by cases g <;> decide

theorem NodeId.nodup_all : NodeId.all.Nodup := by decide

theorem GroupId.nodup_all : GroupId.all.Nodup := by decide

/-- A node is found by its number. -/
@[simp] theorem NodeId.ofNum_num (n : NodeId) : NodeId.ofNum n.num = some n := by cases n <;> rfl

/-- A group is found by its number. -/
@[simp] theorem GroupId.ofNum_num (g : GroupId) : GroupId.ofNum g.num = some g := by cases g <;> rfl

/-- A number that names no node is outside 1..8. -/
theorem NodeId.ofNum_eq_none {k : Nat} : NodeId.ofNum k = none ↔ k = 0 ∨ 8 < k := by
  rw [NodeId.ofNum, List.find?_eq_none]
  refine ⟨fun h => ?_, fun h n _ => by
    rw [decide_eq_true_eq]; cases n <;> simp only [NodeId.num] <;> omega⟩
  have h1 := h .n1 (by simp); have h2 := h .n2 (by simp); have h3 := h .n3 (by simp); have h4 := h .n4 (by simp)
  have h5 := h .n5 (by simp); have h6 := h .n6 (by simp); have h7 := h .n7 (by simp); have h8 := h .n8 (by simp)
  simp only [decide_eq_true_eq] at h1 h2 h3 h4 h5 h6 h7 h8
  simp only [NodeId.num] at h1 h2 h3 h4 h5 h6 h7 h8
  omega

/-- A number that names no group is outside 1..4. -/
theorem GroupId.ofNum_eq_none {k : Nat} : GroupId.ofNum k = none ↔ k = 0 ∨ 4 < k := by
  rw [GroupId.ofNum, List.find?_eq_none]
  refine ⟨fun h => ?_, fun h g _ => by
    rw [decide_eq_true_eq]; cases g <;> simp only [GroupId.num] <;> omega⟩
  have h1 := h .g1 (by simp); have h2 := h .g2 (by simp); have h3 := h .g3 (by simp); have h4 := h .g4 (by simp)
  simp only [decide_eq_true_eq] at h1 h2 h3 h4
  simp only [GroupId.num] at h1 h2 h3 h4
  omega

end Sys2Proof
end

