-- ==== Sys2Proof/Laws/State.lean ====
section
/-! SUPPORT. The fields of a state after each basic update: one lemma per field per update, so that no proof unfolds a record
update. Then the same for the records that are read through the tables. -/

namespace Sys2Proof.Machine

/-! ### setNode -/

@[simp] theorem State.setNode_nodes (s : State) (n : NodeId) (r : NodeRec) : (s.setNode n r).nodes = s.nodes.set n r := rfl
@[simp] theorem State.setNode_groups (s : State) (n : NodeId) (r : NodeRec) : (s.setNode n r).groups = s.groups := rfl
@[simp] theorem State.setNode_supervisorPort (s : State) (n : NodeId) (r : NodeRec) : (s.setNode n r).supervisorPort = s.supervisorPort := rfl
@[simp] theorem State.setNode_nodePorts (s : State) (n : NodeId) (r : NodeRec) : (s.setNode n r).nodePorts = s.nodePorts := rfl
@[simp] theorem State.setNode_exchanges (s : State) (n : NodeId) (r : NodeRec) : (s.setNode n r).exchanges = s.exchanges := rfl
@[simp] theorem State.setNode_store (s : State) (n : NodeId) (r : NodeRec) : (s.setNode n r).store = s.store := rfl
@[simp] theorem State.setNode_queue (s : State) (n : NodeId) (r : NodeRec) : (s.setNode n r).queue = s.queue := rfl
@[simp] theorem State.setNode_channels (s : State) (n : NodeId) (r : NodeRec) : (s.setNode n r).channels = s.channels := rfl
@[simp] theorem State.setNode_monitor (s : State) (n : NodeId) (r : NodeRec) : (s.setNode n r).monitor = s.monitor := rfl
@[simp] theorem State.setNode_alerts (s : State) (n : NodeId) (r : NodeRec) : (s.setNode n r).alerts = s.alerts := rfl
@[simp] theorem State.setNode_active (s : State) (n : NodeId) (r : NodeRec) : (s.setNode n r).active = s.active := rfl
@[simp] theorem State.setNode_staged (s : State) (n : NodeId) (r : NodeRec) : (s.setNode n r).staged = s.staged := rfl
@[simp] theorem State.setNode_array (s : State) (n : NodeId) (r : NodeRec) : (s.setNode n r).array = s.array := rfl
@[simp] theorem State.setNode_saving (s : State) (n : NodeId) (r : NodeRec) : (s.setNode n r).saving = s.saving := rfl
@[simp] theorem State.setNode_clock (s : State) (n : NodeId) (r : NodeRec) : (s.setNode n r).clock = s.clock := rfl
@[simp] theorem State.setNode_resetAsserted (s : State) (n : NodeId) (r : NodeRec) : (s.setNode n r).resetAsserted = s.resetAsserted := rfl
@[simp] theorem State.setNode_powered (s : State) (n : NodeId) (r : NodeRec) : (s.setNode n r).powered = s.powered := rfl
@[simp] theorem State.setNode_pending (s : State) (n : NodeId) (r : NodeRec) : (s.setNode n r).pending = s.pending := rfl

/-! ### setGroup -/

@[simp] theorem State.setGroup_nodes (s : State) (g : GroupId) (r : GroupRec) : (s.setGroup g r).nodes = s.nodes := rfl
@[simp] theorem State.setGroup_groups (s : State) (g : GroupId) (r : GroupRec) : (s.setGroup g r).groups = s.groups.set g r := rfl
@[simp] theorem State.setGroup_supervisorPort (s : State) (g : GroupId) (r : GroupRec) : (s.setGroup g r).supervisorPort = s.supervisorPort := rfl
@[simp] theorem State.setGroup_nodePorts (s : State) (g : GroupId) (r : GroupRec) : (s.setGroup g r).nodePorts = s.nodePorts := rfl
@[simp] theorem State.setGroup_exchanges (s : State) (g : GroupId) (r : GroupRec) : (s.setGroup g r).exchanges = s.exchanges := rfl
@[simp] theorem State.setGroup_store (s : State) (g : GroupId) (r : GroupRec) : (s.setGroup g r).store = s.store := rfl
@[simp] theorem State.setGroup_queue (s : State) (g : GroupId) (r : GroupRec) : (s.setGroup g r).queue = s.queue := rfl
@[simp] theorem State.setGroup_channels (s : State) (g : GroupId) (r : GroupRec) : (s.setGroup g r).channels = s.channels := rfl
@[simp] theorem State.setGroup_monitor (s : State) (g : GroupId) (r : GroupRec) : (s.setGroup g r).monitor = s.monitor := rfl
@[simp] theorem State.setGroup_alerts (s : State) (g : GroupId) (r : GroupRec) : (s.setGroup g r).alerts = s.alerts := rfl
@[simp] theorem State.setGroup_active (s : State) (g : GroupId) (r : GroupRec) : (s.setGroup g r).active = s.active := rfl
@[simp] theorem State.setGroup_staged (s : State) (g : GroupId) (r : GroupRec) : (s.setGroup g r).staged = s.staged := rfl
@[simp] theorem State.setGroup_array (s : State) (g : GroupId) (r : GroupRec) : (s.setGroup g r).array = s.array := rfl
@[simp] theorem State.setGroup_saving (s : State) (g : GroupId) (r : GroupRec) : (s.setGroup g r).saving = s.saving := rfl
@[simp] theorem State.setGroup_clock (s : State) (g : GroupId) (r : GroupRec) : (s.setGroup g r).clock = s.clock := rfl
@[simp] theorem State.setGroup_resetAsserted (s : State) (g : GroupId) (r : GroupRec) : (s.setGroup g r).resetAsserted = s.resetAsserted := rfl
@[simp] theorem State.setGroup_powered (s : State) (g : GroupId) (r : GroupRec) : (s.setGroup g r).powered = s.powered := rfl
@[simp] theorem State.setGroup_pending (s : State) (g : GroupId) (r : GroupRec) : (s.setGroup g r).pending = s.pending := rfl

/-! ### setChan -/

@[simp] theorem State.setChan_nodes (s : State) (c : ChanId) (b : Option Binding) : (s.setChan c b).nodes = s.nodes := rfl
@[simp] theorem State.setChan_groups (s : State) (c : ChanId) (b : Option Binding) : (s.setChan c b).groups = s.groups := rfl
@[simp] theorem State.setChan_supervisorPort (s : State) (c : ChanId) (b : Option Binding) : (s.setChan c b).supervisorPort = s.supervisorPort := rfl
@[simp] theorem State.setChan_nodePorts (s : State) (c : ChanId) (b : Option Binding) : (s.setChan c b).nodePorts = s.nodePorts := rfl
@[simp] theorem State.setChan_exchanges (s : State) (c : ChanId) (b : Option Binding) : (s.setChan c b).exchanges = s.exchanges := rfl
@[simp] theorem State.setChan_store (s : State) (c : ChanId) (b : Option Binding) : (s.setChan c b).store = s.store := rfl
@[simp] theorem State.setChan_queue (s : State) (c : ChanId) (b : Option Binding) : (s.setChan c b).queue = s.queue := rfl
@[simp] theorem State.setChan_channels (s : State) (c : ChanId) (b : Option Binding) : (s.setChan c b).channels = s.channels.set c b := rfl
@[simp] theorem State.setChan_monitor (s : State) (c : ChanId) (b : Option Binding) : (s.setChan c b).monitor = s.monitor := rfl
@[simp] theorem State.setChan_alerts (s : State) (c : ChanId) (b : Option Binding) : (s.setChan c b).alerts = s.alerts := rfl
@[simp] theorem State.setChan_active (s : State) (c : ChanId) (b : Option Binding) : (s.setChan c b).active = s.active := rfl
@[simp] theorem State.setChan_staged (s : State) (c : ChanId) (b : Option Binding) : (s.setChan c b).staged = s.staged := rfl
@[simp] theorem State.setChan_array (s : State) (c : ChanId) (b : Option Binding) : (s.setChan c b).array = s.array := rfl
@[simp] theorem State.setChan_saving (s : State) (c : ChanId) (b : Option Binding) : (s.setChan c b).saving = s.saving := rfl
@[simp] theorem State.setChan_clock (s : State) (c : ChanId) (b : Option Binding) : (s.setChan c b).clock = s.clock := rfl
@[simp] theorem State.setChan_resetAsserted (s : State) (c : ChanId) (b : Option Binding) : (s.setChan c b).resetAsserted = s.resetAsserted := rfl
@[simp] theorem State.setChan_powered (s : State) (c : ChanId) (b : Option Binding) : (s.setChan c b).powered = s.powered := rfl
@[simp] theorem State.setChan_pending (s : State) (c : ChanId) (b : Option Binding) : (s.setChan c b).pending = s.pending := rfl

/-! ### setExchange -/

@[simp] theorem State.setExchange_nodes (s : State) (n : NodeId) (e : ExchangeSlot) : (s.setExchange n e).nodes = s.nodes := rfl
@[simp] theorem State.setExchange_groups (s : State) (n : NodeId) (e : ExchangeSlot) : (s.setExchange n e).groups = s.groups := rfl
@[simp] theorem State.setExchange_supervisorPort (s : State) (n : NodeId) (e : ExchangeSlot) : (s.setExchange n e).supervisorPort = s.supervisorPort := rfl
@[simp] theorem State.setExchange_nodePorts (s : State) (n : NodeId) (e : ExchangeSlot) : (s.setExchange n e).nodePorts = s.nodePorts := rfl
@[simp] theorem State.setExchange_exchanges (s : State) (n : NodeId) (e : ExchangeSlot) : (s.setExchange n e).exchanges = s.exchanges.set n e := rfl
@[simp] theorem State.setExchange_store (s : State) (n : NodeId) (e : ExchangeSlot) : (s.setExchange n e).store = s.store := rfl
@[simp] theorem State.setExchange_queue (s : State) (n : NodeId) (e : ExchangeSlot) : (s.setExchange n e).queue = s.queue := rfl
@[simp] theorem State.setExchange_channels (s : State) (n : NodeId) (e : ExchangeSlot) : (s.setExchange n e).channels = s.channels := rfl
@[simp] theorem State.setExchange_monitor (s : State) (n : NodeId) (e : ExchangeSlot) : (s.setExchange n e).monitor = s.monitor := rfl
@[simp] theorem State.setExchange_alerts (s : State) (n : NodeId) (e : ExchangeSlot) : (s.setExchange n e).alerts = s.alerts := rfl
@[simp] theorem State.setExchange_active (s : State) (n : NodeId) (e : ExchangeSlot) : (s.setExchange n e).active = s.active := rfl
@[simp] theorem State.setExchange_staged (s : State) (n : NodeId) (e : ExchangeSlot) : (s.setExchange n e).staged = s.staged := rfl
@[simp] theorem State.setExchange_array (s : State) (n : NodeId) (e : ExchangeSlot) : (s.setExchange n e).array = s.array := rfl
@[simp] theorem State.setExchange_saving (s : State) (n : NodeId) (e : ExchangeSlot) : (s.setExchange n e).saving = s.saving := rfl
@[simp] theorem State.setExchange_clock (s : State) (n : NodeId) (e : ExchangeSlot) : (s.setExchange n e).clock = s.clock := rfl
@[simp] theorem State.setExchange_resetAsserted (s : State) (n : NodeId) (e : ExchangeSlot) : (s.setExchange n e).resetAsserted = s.resetAsserted := rfl
@[simp] theorem State.setExchange_powered (s : State) (n : NodeId) (e : ExchangeSlot) : (s.setExchange n e).powered = s.powered := rfl
@[simp] theorem State.setExchange_pending (s : State) (n : NodeId) (e : ExchangeSlot) : (s.setExchange n e).pending = s.pending := rfl

/-! ### setStore -/

@[simp] theorem State.setStore_nodes (s : State) (st : Store) : (s.setStore st).nodes = s.nodes := rfl
@[simp] theorem State.setStore_groups (s : State) (st : Store) : (s.setStore st).groups = s.groups := rfl
@[simp] theorem State.setStore_supervisorPort (s : State) (st : Store) : (s.setStore st).supervisorPort = s.supervisorPort := rfl
@[simp] theorem State.setStore_nodePorts (s : State) (st : Store) : (s.setStore st).nodePorts = s.nodePorts := rfl
@[simp] theorem State.setStore_exchanges (s : State) (st : Store) : (s.setStore st).exchanges = s.exchanges := rfl
@[simp] theorem State.setStore_store (s : State) (st : Store) : (s.setStore st).store = st := rfl
@[simp] theorem State.setStore_queue (s : State) (st : Store) : (s.setStore st).queue = s.queue := rfl
@[simp] theorem State.setStore_channels (s : State) (st : Store) : (s.setStore st).channels = s.channels := rfl
@[simp] theorem State.setStore_monitor (s : State) (st : Store) : (s.setStore st).monitor = s.monitor := rfl
@[simp] theorem State.setStore_alerts (s : State) (st : Store) : (s.setStore st).alerts = s.alerts := rfl
@[simp] theorem State.setStore_active (s : State) (st : Store) : (s.setStore st).active = s.active := rfl
@[simp] theorem State.setStore_staged (s : State) (st : Store) : (s.setStore st).staged = s.staged := rfl
@[simp] theorem State.setStore_array (s : State) (st : Store) : (s.setStore st).array = s.array := rfl
@[simp] theorem State.setStore_saving (s : State) (st : Store) : (s.setStore st).saving = s.saving := rfl
@[simp] theorem State.setStore_clock (s : State) (st : Store) : (s.setStore st).clock = s.clock := rfl
@[simp] theorem State.setStore_resetAsserted (s : State) (st : Store) : (s.setStore st).resetAsserted = s.resetAsserted := rfl
@[simp] theorem State.setStore_powered (s : State) (st : Store) : (s.setStore st).powered = s.powered := rfl
@[simp] theorem State.setStore_pending (s : State) (st : Store) : (s.setStore st).pending = s.pending := rfl

/-! ### setQueue -/

@[simp] theorem State.setQueue_nodes (s : State) (q : List NodeId) : (s.setQueue q).nodes = s.nodes := rfl
@[simp] theorem State.setQueue_groups (s : State) (q : List NodeId) : (s.setQueue q).groups = s.groups := rfl
@[simp] theorem State.setQueue_supervisorPort (s : State) (q : List NodeId) : (s.setQueue q).supervisorPort = s.supervisorPort := rfl
@[simp] theorem State.setQueue_nodePorts (s : State) (q : List NodeId) : (s.setQueue q).nodePorts = s.nodePorts := rfl
@[simp] theorem State.setQueue_exchanges (s : State) (q : List NodeId) : (s.setQueue q).exchanges = s.exchanges := rfl
@[simp] theorem State.setQueue_store (s : State) (q : List NodeId) : (s.setQueue q).store = s.store := rfl
@[simp] theorem State.setQueue_queue (s : State) (q : List NodeId) : (s.setQueue q).queue = q := rfl
@[simp] theorem State.setQueue_channels (s : State) (q : List NodeId) : (s.setQueue q).channels = s.channels := rfl
@[simp] theorem State.setQueue_monitor (s : State) (q : List NodeId) : (s.setQueue q).monitor = s.monitor := rfl
@[simp] theorem State.setQueue_alerts (s : State) (q : List NodeId) : (s.setQueue q).alerts = s.alerts := rfl
@[simp] theorem State.setQueue_active (s : State) (q : List NodeId) : (s.setQueue q).active = s.active := rfl
@[simp] theorem State.setQueue_staged (s : State) (q : List NodeId) : (s.setQueue q).staged = s.staged := rfl
@[simp] theorem State.setQueue_array (s : State) (q : List NodeId) : (s.setQueue q).array = s.array := rfl
@[simp] theorem State.setQueue_saving (s : State) (q : List NodeId) : (s.setQueue q).saving = s.saving := rfl
@[simp] theorem State.setQueue_clock (s : State) (q : List NodeId) : (s.setQueue q).clock = s.clock := rfl
@[simp] theorem State.setQueue_resetAsserted (s : State) (q : List NodeId) : (s.setQueue q).resetAsserted = s.resetAsserted := rfl
@[simp] theorem State.setQueue_powered (s : State) (q : List NodeId) : (s.setQueue q).powered = s.powered := rfl
@[simp] theorem State.setQueue_pending (s : State) (q : List NodeId) : (s.setQueue q).pending = s.pending := rfl

/-! ### setMonitor -/

@[simp] theorem State.setMonitor_nodes (s : State) (c : Fin 16) (m : MonChannel) : (s.setMonitor c m).nodes = s.nodes := rfl
@[simp] theorem State.setMonitor_groups (s : State) (c : Fin 16) (m : MonChannel) : (s.setMonitor c m).groups = s.groups := rfl
@[simp] theorem State.setMonitor_supervisorPort (s : State) (c : Fin 16) (m : MonChannel) : (s.setMonitor c m).supervisorPort = s.supervisorPort := rfl
@[simp] theorem State.setMonitor_nodePorts (s : State) (c : Fin 16) (m : MonChannel) : (s.setMonitor c m).nodePorts = s.nodePorts := rfl
@[simp] theorem State.setMonitor_exchanges (s : State) (c : Fin 16) (m : MonChannel) : (s.setMonitor c m).exchanges = s.exchanges := rfl
@[simp] theorem State.setMonitor_store (s : State) (c : Fin 16) (m : MonChannel) : (s.setMonitor c m).store = s.store := rfl
@[simp] theorem State.setMonitor_queue (s : State) (c : Fin 16) (m : MonChannel) : (s.setMonitor c m).queue = s.queue := rfl
@[simp] theorem State.setMonitor_channels (s : State) (c : Fin 16) (m : MonChannel) : (s.setMonitor c m).channels = s.channels := rfl
@[simp] theorem State.setMonitor_monitor (s : State) (c : Fin 16) (m : MonChannel) : (s.setMonitor c m).monitor = s.monitor.set c m := rfl
@[simp] theorem State.setMonitor_alerts (s : State) (c : Fin 16) (m : MonChannel) : (s.setMonitor c m).alerts = s.alerts := rfl
@[simp] theorem State.setMonitor_active (s : State) (c : Fin 16) (m : MonChannel) : (s.setMonitor c m).active = s.active := rfl
@[simp] theorem State.setMonitor_staged (s : State) (c : Fin 16) (m : MonChannel) : (s.setMonitor c m).staged = s.staged := rfl
@[simp] theorem State.setMonitor_array (s : State) (c : Fin 16) (m : MonChannel) : (s.setMonitor c m).array = s.array := rfl
@[simp] theorem State.setMonitor_saving (s : State) (c : Fin 16) (m : MonChannel) : (s.setMonitor c m).saving = s.saving := rfl
@[simp] theorem State.setMonitor_clock (s : State) (c : Fin 16) (m : MonChannel) : (s.setMonitor c m).clock = s.clock := rfl
@[simp] theorem State.setMonitor_resetAsserted (s : State) (c : Fin 16) (m : MonChannel) : (s.setMonitor c m).resetAsserted = s.resetAsserted := rfl
@[simp] theorem State.setMonitor_powered (s : State) (c : Fin 16) (m : MonChannel) : (s.setMonitor c m).powered = s.powered := rfl
@[simp] theorem State.setMonitor_pending (s : State) (c : Fin 16) (m : MonChannel) : (s.setMonitor c m).pending = s.pending := rfl

/-! ### raise -/

@[simp] theorem State.raise_nodes (s : State) (a : Alert) : (s.raise a).nodes = s.nodes := rfl
@[simp] theorem State.raise_groups (s : State) (a : Alert) : (s.raise a).groups = s.groups := rfl
@[simp] theorem State.raise_supervisorPort (s : State) (a : Alert) : (s.raise a).supervisorPort = s.supervisorPort := rfl
@[simp] theorem State.raise_nodePorts (s : State) (a : Alert) : (s.raise a).nodePorts = s.nodePorts := rfl
@[simp] theorem State.raise_exchanges (s : State) (a : Alert) : (s.raise a).exchanges = s.exchanges := rfl
@[simp] theorem State.raise_store (s : State) (a : Alert) : (s.raise a).store = s.store := rfl
@[simp] theorem State.raise_queue (s : State) (a : Alert) : (s.raise a).queue = s.queue := rfl
@[simp] theorem State.raise_channels (s : State) (a : Alert) : (s.raise a).channels = s.channels := rfl
@[simp] theorem State.raise_monitor (s : State) (a : Alert) : (s.raise a).monitor = s.monitor := rfl
@[simp] theorem State.raise_alerts (s : State) (a : Alert) : (s.raise a).alerts = { s.alerts with flags := s.alerts.flags ||| a.mark } := rfl
@[simp] theorem State.raise_active (s : State) (a : Alert) : (s.raise a).active = s.active := rfl
@[simp] theorem State.raise_staged (s : State) (a : Alert) : (s.raise a).staged = s.staged := rfl
@[simp] theorem State.raise_array (s : State) (a : Alert) : (s.raise a).array = s.array := rfl
@[simp] theorem State.raise_saving (s : State) (a : Alert) : (s.raise a).saving = s.saving := rfl
@[simp] theorem State.raise_clock (s : State) (a : Alert) : (s.raise a).clock = s.clock := rfl
@[simp] theorem State.raise_resetAsserted (s : State) (a : Alert) : (s.raise a).resetAsserted = s.resetAsserted := rfl
@[simp] theorem State.raise_powered (s : State) (a : Alert) : (s.raise a).powered = s.powered := rfl
@[simp] theorem State.raise_pending (s : State) (a : Alert) : (s.raise a).pending = s.pending := rfl

/-! ### setPort -/

@[simp] theorem State.setPort_nodes (s : State) (l : Link) (p : Port) : (s.setPort l p).nodes = s.nodes := by cases l <;> rfl
@[simp] theorem State.setPort_groups (s : State) (l : Link) (p : Port) : (s.setPort l p).groups = s.groups := by cases l <;> rfl
@[simp] theorem State.setPort_exchanges (s : State) (l : Link) (p : Port) : (s.setPort l p).exchanges = s.exchanges := by cases l <;> rfl
@[simp] theorem State.setPort_store (s : State) (l : Link) (p : Port) : (s.setPort l p).store = s.store := by cases l <;> rfl
@[simp] theorem State.setPort_queue (s : State) (l : Link) (p : Port) : (s.setPort l p).queue = s.queue := by cases l <;> rfl
@[simp] theorem State.setPort_channels (s : State) (l : Link) (p : Port) : (s.setPort l p).channels = s.channels := by cases l <;> rfl
@[simp] theorem State.setPort_monitor (s : State) (l : Link) (p : Port) : (s.setPort l p).monitor = s.monitor := by cases l <;> rfl
@[simp] theorem State.setPort_alerts (s : State) (l : Link) (p : Port) : (s.setPort l p).alerts = s.alerts := by cases l <;> rfl
@[simp] theorem State.setPort_active (s : State) (l : Link) (p : Port) : (s.setPort l p).active = s.active := by cases l <;> rfl
@[simp] theorem State.setPort_staged (s : State) (l : Link) (p : Port) : (s.setPort l p).staged = s.staged := by cases l <;> rfl
@[simp] theorem State.setPort_array (s : State) (l : Link) (p : Port) : (s.setPort l p).array = s.array := by cases l <;> rfl
@[simp] theorem State.setPort_saving (s : State) (l : Link) (p : Port) : (s.setPort l p).saving = s.saving := by cases l <;> rfl
@[simp] theorem State.setPort_clock (s : State) (l : Link) (p : Port) : (s.setPort l p).clock = s.clock := by cases l <;> rfl
@[simp] theorem State.setPort_resetAsserted (s : State) (l : Link) (p : Port) : (s.setPort l p).resetAsserted = s.resetAsserted := by cases l <;> rfl
@[simp] theorem State.setPort_powered (s : State) (l : Link) (p : Port) : (s.setPort l p).powered = s.powered := by cases l <;> rfl
@[simp] theorem State.setPort_pending (s : State) (l : Link) (p : Port) : (s.setPort l p).pending = s.pending := by cases l <;> rfl

/-! ### Records read after a basic update -/

@[simp] theorem State.group_setNode (s : State) (n : NodeId) (r : NodeRec) (k : GroupId) : (s.setNode n r).group k = s.group k := rfl
@[simp] theorem State.chan_setNode (s : State) (n : NodeId) (r : NodeRec) (d : ChanId) : (s.setNode n r).chan d = s.chan d := rfl
@[simp] theorem State.exchange_setNode (s : State) (n : NodeId) (r : NodeRec) (x : NodeId) : (s.setNode n r).exchange x = s.exchange x := rfl
@[simp] theorem State.port_setNode (s : State) (n : NodeId) (r : NodeRec) (k : Link) : (s.setNode n r).port k = s.port k := by cases k <;> rfl

@[simp] theorem State.node_setGroup (s : State) (g : GroupId) (r : GroupRec) (x : NodeId) : (s.setGroup g r).node x = s.node x := rfl
@[simp] theorem State.chan_setGroup (s : State) (g : GroupId) (r : GroupRec) (d : ChanId) : (s.setGroup g r).chan d = s.chan d := rfl
@[simp] theorem State.exchange_setGroup (s : State) (g : GroupId) (r : GroupRec) (x : NodeId) : (s.setGroup g r).exchange x = s.exchange x := rfl
@[simp] theorem State.port_setGroup (s : State) (g : GroupId) (r : GroupRec) (k : Link) : (s.setGroup g r).port k = s.port k := by cases k <;> rfl

@[simp] theorem State.node_setChan (s : State) (c : ChanId) (b : Option Binding) (x : NodeId) : (s.setChan c b).node x = s.node x := rfl
@[simp] theorem State.group_setChan (s : State) (c : ChanId) (b : Option Binding) (k : GroupId) : (s.setChan c b).group k = s.group k := rfl
@[simp] theorem State.exchange_setChan (s : State) (c : ChanId) (b : Option Binding) (x : NodeId) : (s.setChan c b).exchange x = s.exchange x := rfl
@[simp] theorem State.port_setChan (s : State) (c : ChanId) (b : Option Binding) (k : Link) : (s.setChan c b).port k = s.port k := by cases k <;> rfl

@[simp] theorem State.node_setExchange (s : State) (n : NodeId) (e : ExchangeSlot) (x : NodeId) : (s.setExchange n e).node x = s.node x := rfl
@[simp] theorem State.group_setExchange (s : State) (n : NodeId) (e : ExchangeSlot) (k : GroupId) : (s.setExchange n e).group k = s.group k := rfl
@[simp] theorem State.chan_setExchange (s : State) (n : NodeId) (e : ExchangeSlot) (d : ChanId) : (s.setExchange n e).chan d = s.chan d := rfl
@[simp] theorem State.port_setExchange (s : State) (n : NodeId) (e : ExchangeSlot) (k : Link) : (s.setExchange n e).port k = s.port k := by cases k <;> rfl

@[simp] theorem State.node_setStore (s : State) (st : Store) (x : NodeId) : (s.setStore st).node x = s.node x := rfl
@[simp] theorem State.group_setStore (s : State) (st : Store) (k : GroupId) : (s.setStore st).group k = s.group k := rfl
@[simp] theorem State.chan_setStore (s : State) (st : Store) (d : ChanId) : (s.setStore st).chan d = s.chan d := rfl
@[simp] theorem State.exchange_setStore (s : State) (st : Store) (x : NodeId) : (s.setStore st).exchange x = s.exchange x := rfl
@[simp] theorem State.port_setStore (s : State) (st : Store) (k : Link) : (s.setStore st).port k = s.port k := by cases k <;> rfl

@[simp] theorem State.node_setQueue (s : State) (q : List NodeId) (x : NodeId) : (s.setQueue q).node x = s.node x := rfl
@[simp] theorem State.group_setQueue (s : State) (q : List NodeId) (k : GroupId) : (s.setQueue q).group k = s.group k := rfl
@[simp] theorem State.chan_setQueue (s : State) (q : List NodeId) (d : ChanId) : (s.setQueue q).chan d = s.chan d := rfl
@[simp] theorem State.exchange_setQueue (s : State) (q : List NodeId) (x : NodeId) : (s.setQueue q).exchange x = s.exchange x := rfl
@[simp] theorem State.port_setQueue (s : State) (q : List NodeId) (k : Link) : (s.setQueue q).port k = s.port k := by cases k <;> rfl

@[simp] theorem State.node_setMonitor (s : State) (c : Fin 16) (m : MonChannel) (x : NodeId) : (s.setMonitor c m).node x = s.node x := rfl
@[simp] theorem State.group_setMonitor (s : State) (c : Fin 16) (m : MonChannel) (k : GroupId) : (s.setMonitor c m).group k = s.group k := rfl
@[simp] theorem State.chan_setMonitor (s : State) (c : Fin 16) (m : MonChannel) (d : ChanId) : (s.setMonitor c m).chan d = s.chan d := rfl
@[simp] theorem State.exchange_setMonitor (s : State) (c : Fin 16) (m : MonChannel) (x : NodeId) : (s.setMonitor c m).exchange x = s.exchange x := rfl
@[simp] theorem State.port_setMonitor (s : State) (c : Fin 16) (m : MonChannel) (k : Link) : (s.setMonitor c m).port k = s.port k := by cases k <;> rfl

@[simp] theorem State.node_raise (s : State) (a : Alert) (x : NodeId) : (s.raise a).node x = s.node x := rfl
@[simp] theorem State.group_raise (s : State) (a : Alert) (k : GroupId) : (s.raise a).group k = s.group k := rfl
@[simp] theorem State.chan_raise (s : State) (a : Alert) (d : ChanId) : (s.raise a).chan d = s.chan d := rfl
@[simp] theorem State.exchange_raise (s : State) (a : Alert) (x : NodeId) : (s.raise a).exchange x = s.exchange x := rfl
@[simp] theorem State.port_raise (s : State) (a : Alert) (k : Link) : (s.raise a).port k = s.port k := by cases k <;> rfl

@[simp] theorem State.node_setPort (s : State) (l : Link) (p : Port) (x : NodeId) : (s.setPort l p).node x = s.node x := by cases l <;> rfl
@[simp] theorem State.group_setPort (s : State) (l : Link) (p : Port) (k : GroupId) : (s.setPort l p).group k = s.group k := by cases l <;> rfl
@[simp] theorem State.chan_setPort (s : State) (l : Link) (p : Port) (d : ChanId) : (s.setPort l p).chan d = s.chan d := by cases l <;> rfl
@[simp] theorem State.exchange_setPort (s : State) (l : Link) (p : Port) (x : NodeId) : (s.setPort l p).exchange x = s.exchange x := by cases l <;> rfl

/-! ### Parts of the store -/

@[simp] theorem Store.remove_pool (st : Store) (i : Slot) (r : Record) : (st.remove i r).pool = st.pool := rfl
@[simp] theorem Store.remove_gens (st : Store) (i : Slot) (r : Record) : (st.remove i r).gens = st.gens := rfl
@[simp] theorem Store.remove_dir (st : Store) (i : Slot) (r : Record) : (st.remove i r).dir = st.dir.set i none := rfl
@[simp] theorem Store.remove_freeList (st : Store) (i : Slot) (r : Record) :
    (st.remove i r).freeList = st.freeList ++ r.blocks := rfl
@[simp] theorem Store.markPins_pool (st : Store) (p : Slot → Record → Bool) (b : Bool) : (st.markPins p b).pool = st.pool := rfl
@[simp] theorem Store.markPins_gens (st : Store) (p : Slot → Record → Bool) (b : Bool) : (st.markPins p b).gens = st.gens := rfl
@[simp] theorem Store.markPins_freeList (st : Store) (p : Slot → Record → Bool) (b : Bool) :
    (st.markPins p b).freeList = st.freeList := rfl
@[simp] theorem Store.markPins_peek (st : Store) (p : Slot → Record → Bool) (b : Bool) : (st.markPins p b).peek = st.peek := rfl

/-! ### A record read after it has been written -/

@[simp] theorem State.node_setNode_self (s : State) (n : NodeId) (r : NodeRec) : (s.setNode n r).node n = r :=
  PerNode.get_set_self _ _ _

theorem State.node_setNode (s : State) (n m : NodeId) (r : NodeRec) :
    (s.setNode n r).node m = if m = n then r else s.node m := PerNode.get_set _ _ _ _

@[simp] theorem State.node_setNode_ne (s : State) {n m : NodeId} (r : NodeRec) (h : m ≠ n) :
    (s.setNode n r).node m = s.node m := PerNode.get_set_ne _ _ h

@[simp] theorem State.group_setGroup_self (s : State) (g : GroupId) (r : GroupRec) : (s.setGroup g r).group g = r :=
  PerGroup.get_set_self _ _ _

theorem State.group_setGroup (s : State) (g k : GroupId) (r : GroupRec) :
    (s.setGroup g r).group k = if k = g then r else s.group k := PerGroup.get_set _ _ _ _

@[simp] theorem State.group_setGroup_ne (s : State) {g k : GroupId} (r : GroupRec) (h : k ≠ g) :
    (s.setGroup g r).group k = s.group k := PerGroup.get_set_ne _ _ h

@[simp] theorem State.chan_setChan_self (s : State) (c : ChanId) (b : Option Binding) : (s.setChan c b).chan c = b :=
  PerChan.get_set_self _ _ _

theorem State.chan_setChan (s : State) (c d : ChanId) (b : Option Binding) :
    (s.setChan c b).chan d = if d = c then b else s.chan d := PerChan.get_set _ _ _ _

@[simp] theorem State.chan_setChan_ne (s : State) {c d : ChanId} (b : Option Binding) (h : d ≠ c) :
    (s.setChan c b).chan d = s.chan d := PerChan.get_set_ne _ _ h

@[simp] theorem State.exchange_setExchange_self (s : State) (n : NodeId) (e : ExchangeSlot) :
    (s.setExchange n e).exchange n = e := PerNode.get_set_self _ _ _

theorem State.exchange_setExchange (s : State) (n m : NodeId) (e : ExchangeSlot) :
    (s.setExchange n e).exchange m = if m = n then e else s.exchange m := PerNode.get_set _ _ _ _

@[simp] theorem State.exchange_setExchange_ne (s : State) {n m : NodeId} (e : ExchangeSlot) (h : m ≠ n) :
    (s.setExchange n e).exchange m = s.exchange m := PerNode.get_set_ne _ _ h

@[simp] theorem State.port_setPort_self (s : State) (l : Link) (p : Port) : (s.setPort l p).port l = p := by
  cases l
  · rfl
  · exact PerNode.get_set_self _ _ _

theorem State.port_setPort (s : State) (l k : Link) (p : Port) :
    (s.setPort l p).port k = if k = l then p else s.port k := by
  cases l <;> cases k <;> simp [State.setPort, State.port, PerNode.get_set]

@[simp] theorem State.port_setPort_ne (s : State) {l k : Link} (p : Port) (h : k ≠ l) :
    (s.setPort l p).port k = s.port k := by rw [State.port_setPort, if_neg h]

end Sys2Proof.Machine
end

