-- ==== Sys2Proof/Laws/Disturbance.lean ====
section
/-! SUPPORT. What a disturbance of the storage changes (R58), and what the passes under way read after it (R87, R104, R107). -/

namespace Sys2Proof.Machine

/-! ### What a pass reads -/

/-- With nothing disturbed since the pass began, it reads what the pool holds. -/
@[simp] theorem Pool.readAs_nil (p : Pool) (a : Nat) : p.readAs [] a = p.read a := rfl

@[simp] theorem Record.words_nil (r : Record) (p : Pool) : r.words p [] = r.wordsFrom p 0 r.declared := by
  simp [Record.words, Record.reading, Record.wordsFrom]

@[simp] theorem Record.length_words (r : Record) (p : Pool) (seen : SeenWords) : (r.words p seen).length = r.declared := by
  simp [Record.words, Record.reading]

/-- A word that the pass has kept reads as it was kept. -/
theorem Pool.readAs_of_find {p : Pool} {seen : SeenWords} {a : Nat} {e : Nat × PoolWord}
    (h : seen.find? (fun e => e.1 = a) = some e) : p.readAs seen a = e.2 := by
  simp [Pool.readAs, h]

/-- A word that the pass has not kept reads as the pool holds it. -/
theorem Pool.readAs_of_not_mem {p : Pool} {seen : SeenWords} {a : Nat} (h : ∀ e ∈ seen, e.1 ≠ a) :
    p.readAs seen a = p.read a := by
  have : seen.find? (fun e => e.1 = a) = none := by simpa using fun x y he => h (x, y) he
  simp [Pool.readAs, this]

/-- Two pools that hold the same word there are read alike. -/
theorem Pool.readAs_congr {p q : Pool} (seen : SeenWords) {a : Nat} (h : p.read a = q.read a) :
    p.readAs seen a = q.readAs seen a := by
  simp [Pool.readAs, h]

/-- A disturbance changes nothing of what a pass reads at other addresses. -/
theorem Pool.readAs_note_other {p : Pool} (seen : SeenWords) (order : List Nat) {a k : Nat} (w : PoolWord) (read : Bool)
    (h : k ≠ a) : p.readAs (seen.note order a w read) k = p.readAs seen k := by
  unfold SeenWords.note
  split
  · simp [Pool.readAs, List.find?_append, Ne.symm h]
  · rfl

/-- A word that the pass had read before the disturbance stays as the pass read it. -/
theorem Pool.readAs_note_read {p q : Pool} (seen : SeenWords) {order : List Nat} {a : Nat} {read : Bool} (ha : a ∈ order)
    (hr : read = true ∨ ∃ e ∈ seen, order.idxOf a ≤ order.idxOf e.1) :
    q.readAs (seen.note order a (p.read a) read) a = p.readAs seen a := by
  by_cases hm : ∀ e ∈ seen, e.1 ≠ a
  · rw [SeenWords.note, if_pos ⟨ha, hm, hr⟩, Pool.readAs_of_not_mem hm]
    have : seen.find? (fun e => e.1 = a) = none := by simpa using fun x y he => hm (x, y) he
    simp [Pool.readAs, List.find?_append, this]
  · rw [SeenWords.note, if_neg fun h => hm h.2.1]
    push Not at hm
    obtain ⟨e, he, hea⟩ := hm
    have hs : (seen.find? fun e => e.1 = a).isSome = true := by
      rw [List.find?_isSome]
      exact ⟨e, he, by simpa using hea⟩
    obtain ⟨x, hx⟩ := Option.isSome_iff_exists.mp hs
    rw [Pool.readAs_of_find hx, Pool.readAs_of_find hx]

/-- A word that the pass had not read before the disturbance reads as the pool then holds it. -/
theorem Pool.readAs_note_unread {q : Pool} (seen : SeenWords) {order : List Nat} {a : Nat} (w : PoolWord) {read : Bool}
    (hr : ¬ (read = true ∨ ∃ e ∈ seen, order.idxOf a ≤ order.idxOf e.1)) :
    q.readAs (seen.note order a w read) a = q.read a := by
  rw [SeenWords.note, if_neg fun h => hr h.2.2]
  exact Pool.readAs_of_not_mem fun e he hea => hr (.inr ⟨e, he, by rw [hea]⟩)

/-! ### What a disturbance changes -/

/-- A disturbance changes of a record nothing but what its commit pass has read. -/
@[simp] theorem Record.disturbed_fields (r : Record) (p : Pool) (a : Nat) (read : Bool) :
    (r.disturbed p a read).node = r.node ∧ (r.disturbed p a read).gen = r.gen ∧ (r.disturbed p a read).kind = r.kind
      ∧ (r.disturbed p a read).declared = r.declared ∧ (r.disturbed p a read).received = r.received
      ∧ (r.disturbed p a read).blocks = r.blocks ∧ (r.disturbed p a read).pinned = r.pinned
      ∧ (r.disturbed p a read).isCommitted = r.isCommitted ∧ (r.disturbed p a read).isVerifying = r.isVerifying
      ∧ (r.disturbed p a read).isFull = r.isFull ∧ (r.disturbed p a read).time = r.time := by
  unfold Record.disturbed
  split <;> simp_all [Record.isCommitted, Record.isVerifying, Record.isFull, Record.time]

/-- A committed record is as it was. -/
theorem Record.disturbed_of_committed {r : Record} (h : r.isCommitted = true) (p : Pool) (a : Nat) (read : Bool) :
    r.disturbed p a read = r := by
  unfold Record.disturbed
  split <;> simp_all [Record.isCommitted]

/-- A disturbance changes of a channel nothing but what its VERIFY has read. -/
@[simp] theorem Binding.disturbed_fields (b : Binding) (st : Store) (a : Nat) (read : Bool) :
    (b.disturbed st a read).node = b.node ∧ (b.disturbed st a read).phase = b.phase ∧ (b.disturbed st a read).set = b.set
      ∧ (b.disturbed st a read).position = b.position ∧ (b.disturbed st a read).index = b.index
      ∧ (b.disturbed st a read).resent = b.resent ∧ (b.disturbed st a read).notReady = b.notReady
      ∧ (b.disturbed st a read).holdoff = b.holdoff := by
  unfold Binding.disturbed
  split <;> simp

@[simp] theorem State.disturb_frame (s : State) (a : Nat) (d : Disturbance) :
    (s.disturb a d).nodes = s.nodes ∧ (s.disturb a d).groups = s.groups
      ∧ (s.disturb a d).supervisorPort = s.supervisorPort ∧ (s.disturb a d).nodePorts = s.nodePorts
      ∧ (s.disturb a d).exchanges = s.exchanges ∧ (s.disturb a d).queue = s.queue ∧ (s.disturb a d).monitor = s.monitor
      ∧ (s.disturb a d).alerts = s.alerts ∧ (s.disturb a d).active = s.active ∧ (s.disturb a d).staged = s.staged
      ∧ (s.disturb a d).array = s.array ∧ (s.disturb a d).saving = s.saving ∧ (s.disturb a d).clock = s.clock
      ∧ (s.disturb a d).resetAsserted = s.resetAsserted ∧ (s.disturb a d).powered = s.powered
      ∧ (s.disturb a d).pending = s.pending ∧ (∀ x : NodeId, (s.disturb a d).node x = s.node x)
      ∧ (∀ k : GroupId, (s.disturb a d).group k = s.group k) ∧ (∀ x : NodeId, (s.disturb a d).exchange x = s.exchange x)
      ∧ (∀ l : Link, (s.disturb a d).port l = s.port l) ∧ (s.disturb a d).store.freeList = s.store.freeList
      ∧ (s.disturb a d).store.gens = s.store.gens ∧ (s.disturb a d).store.peek = s.store.peek :=
  ⟨rfl, rfl, rfl, rfl, rfl, rfl, rfl, rfl, rfl, rfl, rfl, rfl, rfl, rfl, rfl, rfl, fun _ => rfl, fun _ => rfl, fun _ => rfl,
    fun l => by cases l <;> rfl, rfl, rfl, rfl⟩

/-- What a disturbance leaves of a channel. -/
@[simp] theorem State.chan_disturb (s : State) (a : Nat) (d : Disturbance) (c : ChanId) :
    (s.disturb a d).chan c = (s.chan c).map fun b => b.disturbed s.store a d.read := by
  simp [State.disturb, State.chan]

/-- What a disturbance leaves of a slot of the directory. -/
@[simp] theorem State.dir_disturb (s : State) (a : Nat) (d : Disturbance) (i : Slot) :
    (s.disturb a d).store.dir[i] = (s.store.dir[i]).map fun r => r.disturbed s.store.pool a d.read := by
  simp [State.disturb]

theorem State.entries_disturb (s : State) (a : Nat) (d : Disturbance) :
    (s.disturb a d).store.entries = s.store.entries.map fun e => (e.1, e.2.disturbed s.store.pool a d.read) := by
  simp only [Store.entries, State.dir_disturb, List.map_filterMap]
  congr 1
  funext i
  cases s.store.dir[i] <;> rfl

/-- A disturbance leaves every committed list, and so every set, as it was. -/
@[simp] theorem State.committed_disturb (s : State) (a : Nat) (d : Disturbance) (n : NodeId) :
    (s.disturb a d).store.committed n = s.store.committed n := by
  have sorted (l : List Entry) :
      byGeneration (l.map fun e => (e.1, e.2.disturbed s.store.pool a d.read))
        = (byGeneration l).map fun e => (e.1, e.2.disturbed s.store.pool a d.read) := by
    let byGen (x y : Entry) : Prop := x.2.gen.toNat ≤ y.2.gen.toNat
    refine (List.map_insertionSort byGen byGen _ l fun _ _ _ _ => ?_).symm
    simp [byGen]
  simp only [Store.committed, Store.recordsOf, State.entries_disturb, List.filter_map, Function.comp_def,
    Record.disturbed_fields, sorted]
  refine (List.map_congr_left fun e he => ?_).trans (List.map_id _)
  rw [Record.disturbed_of_committed (by simpa using (List.mem_filter.mp he).2)]
  rfl

/-- R58: the disturbed word has the contents left and is damaged; every other word of the pool is as it was. -/
theorem State.read_disturb (s : State) (a k : Nat) (d : Disturbance) (h : Memory.wf s.store.pool) :
    (s.disturb a d).store.pool.read k = if k = a then ⟨d.left, false⟩ else s.store.pool.read k :=
  Pool.read_write h a k _

/-- A disturbance keeps the canonical form of the pool. -/
theorem State.wf_disturb (s : State) (a : Nat) (d : Disturbance) (h : Memory.wf s.store.pool) :
    Memory.wf (s.disturb a d).store.pool := Pool.wf_write h a _

end Sys2Proof.Machine
end

