-- ==== Sys2Proof/Laws/FrameOps.lean ====
section
/-! SUPPORT. What the operations of Machine/Ops.lean leave unchanged: one lemma per operation. -/

namespace Sys2Proof.Machine

set_option linter.all false

@[simp] theorem State.modNode_frame (s : State) (n : NodeId) (f : NodeRec → NodeRec) :
    (s.modNode n f).groups = s.groups ∧ (s.modNode n f).supervisorPort = s.supervisorPort
      ∧ (s.modNode n f).nodePorts = s.nodePorts ∧ (s.modNode n f).exchanges = s.exchanges
      ∧ (s.modNode n f).store = s.store ∧ (s.modNode n f).queue = s.queue ∧ (s.modNode n f).channels = s.channels
      ∧ (s.modNode n f).monitor = s.monitor ∧ (s.modNode n f).alerts = s.alerts ∧ (s.modNode n f).active = s.active
      ∧ (s.modNode n f).staged = s.staged ∧ (s.modNode n f).array = s.array ∧ (s.modNode n f).saving = s.saving
      ∧ (s.modNode n f).clock = s.clock ∧ (s.modNode n f).resetAsserted = s.resetAsserted
      ∧ (s.modNode n f).powered = s.powered ∧ (s.modNode n f).pending = s.pending
      ∧ (∀ k : GroupId, (s.modNode n f).group k = s.group k) ∧ (∀ d : ChanId, (s.modNode n f).chan d = s.chan d)
      ∧ (∀ x : NodeId, (s.modNode n f).exchange x = s.exchange x) ∧ (∀ l' : Link, (s.modNode n f).port l' = s.port l')
      ∧ (∀ x : NodeId, x ≠ n → (s.modNode n f).node x = s.node x) := by
  refine ⟨?_, ?_, ?_, ?_, ?_, ?_, ?_, ?_, ?_, ?_, ?_, ?_, ?_, ?_, ?_, ?_, ?_, ?_, ?_, ?_, ?_, ?_⟩ <;> (intros; simp only [State.modNode]; (repeat' split) <;> simp_all)

@[simp] theorem State.modGroup_frame (s : State) (g : GroupId) (f : GroupRec → GroupRec) :
    (s.modGroup g f).nodes = s.nodes ∧ (s.modGroup g f).supervisorPort = s.supervisorPort
      ∧ (s.modGroup g f).nodePorts = s.nodePorts ∧ (s.modGroup g f).exchanges = s.exchanges
      ∧ (s.modGroup g f).store = s.store ∧ (s.modGroup g f).queue = s.queue ∧ (s.modGroup g f).channels = s.channels
      ∧ (s.modGroup g f).monitor = s.monitor ∧ (s.modGroup g f).alerts = s.alerts ∧ (s.modGroup g f).active = s.active
      ∧ (s.modGroup g f).staged = s.staged ∧ (s.modGroup g f).array = s.array ∧ (s.modGroup g f).saving = s.saving
      ∧ (s.modGroup g f).clock = s.clock ∧ (s.modGroup g f).resetAsserted = s.resetAsserted
      ∧ (s.modGroup g f).powered = s.powered ∧ (s.modGroup g f).pending = s.pending
      ∧ (∀ x : NodeId, (s.modGroup g f).node x = s.node x) ∧ (∀ d : ChanId, (s.modGroup g f).chan d = s.chan d)
      ∧ (∀ x : NodeId, (s.modGroup g f).exchange x = s.exchange x) ∧ (∀ l' : Link, (s.modGroup g f).port l' = s.port l')
      ∧ (∀ k : GroupId, k ≠ g → (s.modGroup g f).group k = s.group k) := by
  refine ⟨?_, ?_, ?_, ?_, ?_, ?_, ?_, ?_, ?_, ?_, ?_, ?_, ?_, ?_, ?_, ?_, ?_, ?_, ?_, ?_, ?_, ?_⟩ <;> (intros; simp only [State.modGroup]; (repeat' split) <;> simp_all)

@[simp] theorem State.modPort_frame (s : State) (l : Link) (f : Port → Port) :
    (s.modPort l f).nodes = s.nodes ∧ (s.modPort l f).groups = s.groups ∧ (s.modPort l f).exchanges = s.exchanges
      ∧ (s.modPort l f).store = s.store ∧ (s.modPort l f).queue = s.queue ∧ (s.modPort l f).channels = s.channels
      ∧ (s.modPort l f).monitor = s.monitor ∧ (s.modPort l f).alerts = s.alerts ∧ (s.modPort l f).active = s.active
      ∧ (s.modPort l f).staged = s.staged ∧ (s.modPort l f).array = s.array ∧ (s.modPort l f).saving = s.saving
      ∧ (s.modPort l f).clock = s.clock ∧ (s.modPort l f).resetAsserted = s.resetAsserted
      ∧ (s.modPort l f).powered = s.powered ∧ (s.modPort l f).pending = s.pending
      ∧ (∀ x : NodeId, (s.modPort l f).node x = s.node x) ∧ (∀ k : GroupId, (s.modPort l f).group k = s.group k)
      ∧ (∀ d : ChanId, (s.modPort l f).chan d = s.chan d) ∧ (∀ x : NodeId, (s.modPort l f).exchange x = s.exchange x)
      ∧ (∀ l' : Link, l' ≠ l → (s.modPort l f).port l' = s.port l') := by
  refine ⟨?_, ?_, ?_, ?_, ?_, ?_, ?_, ?_, ?_, ?_, ?_, ?_, ?_, ?_, ?_, ?_, ?_, ?_, ?_, ?_, ?_⟩ <;> (intros; simp only [State.modPort]; (repeat' split) <;> simp_all)

@[simp] theorem State.send_frame (s : State) (l : Link) (f : Frame) :
    (s.send l f).nodes = s.nodes ∧ (s.send l f).groups = s.groups ∧ (s.send l f).exchanges = s.exchanges
      ∧ (s.send l f).store = s.store ∧ (s.send l f).queue = s.queue ∧ (s.send l f).channels = s.channels
      ∧ (s.send l f).monitor = s.monitor ∧ (s.send l f).alerts = s.alerts ∧ (s.send l f).active = s.active
      ∧ (s.send l f).staged = s.staged ∧ (s.send l f).array = s.array ∧ (s.send l f).saving = s.saving
      ∧ (s.send l f).clock = s.clock ∧ (s.send l f).resetAsserted = s.resetAsserted ∧ (s.send l f).powered = s.powered
      ∧ (s.send l f).pending = s.pending ∧ (∀ x : NodeId, (s.send l f).node x = s.node x)
      ∧ (∀ k : GroupId, (s.send l f).group k = s.group k) ∧ (∀ d : ChanId, (s.send l f).chan d = s.chan d)
      ∧ (∀ x : NodeId, (s.send l f).exchange x = s.exchange x) ∧ (∀ l' : Link, l' ≠ l → (s.send l f).port l' = s.port l') := by
  refine ⟨?_, ?_, ?_, ?_, ?_, ?_, ?_, ?_, ?_, ?_, ?_, ?_, ?_, ?_, ?_, ?_, ?_, ?_, ?_, ?_, ?_⟩ <;> (intros; simp only [State.send]; (repeat' split) <;> simp_all)

@[simp] theorem State.reply_frame (s : State) (l : Link) (k : Kind) (r : Result) (b : Body) :
    (s.reply l k r b).nodes = s.nodes ∧ (s.reply l k r b).groups = s.groups ∧ (s.reply l k r b).exchanges = s.exchanges
      ∧ (s.reply l k r b).store = s.store ∧ (s.reply l k r b).queue = s.queue ∧ (s.reply l k r b).channels = s.channels
      ∧ (s.reply l k r b).monitor = s.monitor ∧ (s.reply l k r b).alerts = s.alerts ∧ (s.reply l k r b).active = s.active
      ∧ (s.reply l k r b).staged = s.staged ∧ (s.reply l k r b).array = s.array ∧ (s.reply l k r b).saving = s.saving
      ∧ (s.reply l k r b).clock = s.clock ∧ (s.reply l k r b).resetAsserted = s.resetAsserted
      ∧ (s.reply l k r b).powered = s.powered ∧ (s.reply l k r b).pending = s.pending
      ∧ (∀ x : NodeId, (s.reply l k r b).node x = s.node x) ∧ (∀ d : ChanId, (s.reply l k r b).chan d = s.chan d)
      ∧ (∀ x : NodeId, (s.reply l k r b).exchange x = s.exchange x)
      ∧ (∀ l' : Link, l' ≠ l → (s.reply l k r b).port l' = s.port l') := by
  refine ⟨?_, ?_, ?_, ?_, ?_, ?_, ?_, ?_, ?_, ?_, ?_, ?_, ?_, ?_, ?_, ?_, ?_, ?_, ?_, ?_⟩ <;> (intros; simp only [State.reply]; (repeat' split) <;> simp_all)

@[simp] theorem State.beginRequest_frame (s : State) (l : Link) (k : Kind) :
    (s.beginRequest l k).nodes = s.nodes ∧ (s.beginRequest l k).groups = s.groups
      ∧ (s.beginRequest l k).exchanges = s.exchanges ∧ (s.beginRequest l k).store = s.store
      ∧ (s.beginRequest l k).queue = s.queue ∧ (s.beginRequest l k).channels = s.channels
      ∧ (s.beginRequest l k).monitor = s.monitor ∧ (s.beginRequest l k).alerts = s.alerts
      ∧ (s.beginRequest l k).active = s.active ∧ (s.beginRequest l k).staged = s.staged
      ∧ (s.beginRequest l k).array = s.array ∧ (s.beginRequest l k).saving = s.saving
      ∧ (s.beginRequest l k).clock = s.clock ∧ (s.beginRequest l k).resetAsserted = s.resetAsserted
      ∧ (s.beginRequest l k).powered = s.powered ∧ (s.beginRequest l k).pending = s.pending
      ∧ (∀ x : NodeId, (s.beginRequest l k).node x = s.node x) ∧ (∀ d : ChanId, (s.beginRequest l k).chan d = s.chan d)
      ∧ (∀ x : NodeId, (s.beginRequest l k).exchange x = s.exchange x)
      ∧ (∀ l' : Link, l' ≠ l → (s.beginRequest l k).port l' = s.port l') := by
  refine ⟨?_, ?_, ?_, ?_, ?_, ?_, ?_, ?_, ?_, ?_, ?_, ?_, ?_, ?_, ?_, ?_, ?_, ?_, ?_, ?_⟩ <;> (intros; simp only [State.beginRequest]; (repeat' split) <;> simp_all)

@[simp] theorem State.endRequest_frame (s : State) (l : Link) :
    (s.endRequest l).nodes = s.nodes ∧ (s.endRequest l).groups = s.groups ∧ (s.endRequest l).exchanges = s.exchanges
      ∧ (s.endRequest l).store = s.store ∧ (s.endRequest l).queue = s.queue ∧ (s.endRequest l).channels = s.channels
      ∧ (s.endRequest l).monitor = s.monitor ∧ (s.endRequest l).alerts = s.alerts ∧ (s.endRequest l).active = s.active
      ∧ (s.endRequest l).staged = s.staged ∧ (s.endRequest l).array = s.array ∧ (s.endRequest l).saving = s.saving
      ∧ (s.endRequest l).clock = s.clock ∧ (s.endRequest l).resetAsserted = s.resetAsserted
      ∧ (s.endRequest l).powered = s.powered ∧ (s.endRequest l).pending = s.pending
      ∧ (∀ x : NodeId, (s.endRequest l).node x = s.node x) ∧ (∀ k : GroupId, (s.endRequest l).group k = s.group k)
      ∧ (∀ d : ChanId, (s.endRequest l).chan d = s.chan d) ∧ (∀ x : NodeId, (s.endRequest l).exchange x = s.exchange x)
      ∧ (∀ l' : Link, l' ≠ l → (s.endRequest l).port l' = s.port l') := by
  refine ⟨?_, ?_, ?_, ?_, ?_, ?_, ?_, ?_, ?_, ?_, ?_, ?_, ?_, ?_, ?_, ?_, ?_, ?_, ?_, ?_, ?_⟩ <;> (intros; simp only [State.endRequest]; (repeat' split) <;> simp_all)

@[simp] theorem State.startExchange_frame (s : State) (n : NodeId) (e : Exchange) :
    (s.startExchange n e).nodes = s.nodes ∧ (s.startExchange n e).groups = s.groups
      ∧ (s.startExchange n e).supervisorPort = s.supervisorPort ∧ (s.startExchange n e).nodePorts = s.nodePorts
      ∧ (s.startExchange n e).store = s.store ∧ (s.startExchange n e).queue = s.queue
      ∧ (s.startExchange n e).channels = s.channels ∧ (s.startExchange n e).monitor = s.monitor
      ∧ (s.startExchange n e).alerts = s.alerts ∧ (s.startExchange n e).active = s.active
      ∧ (s.startExchange n e).staged = s.staged ∧ (s.startExchange n e).array = s.array
      ∧ (s.startExchange n e).saving = s.saving ∧ (s.startExchange n e).clock = s.clock
      ∧ (s.startExchange n e).resetAsserted = s.resetAsserted ∧ (s.startExchange n e).powered = s.powered
      ∧ (s.startExchange n e).pending = s.pending ∧ (∀ x : NodeId, (s.startExchange n e).node x = s.node x)
      ∧ (∀ k : GroupId, (s.startExchange n e).group k = s.group k)
      ∧ (∀ d : ChanId, (s.startExchange n e).chan d = s.chan d) ∧ (∀ l' : Link, (s.startExchange n e).port l' = s.port l')
      ∧ (∀ x : NodeId, x ≠ n → (s.startExchange n e).exchange x = s.exchange x) := by
  refine ⟨?_, ?_, ?_, ?_, ?_, ?_, ?_, ?_, ?_, ?_, ?_, ?_, ?_, ?_, ?_, ?_, ?_, ?_, ?_, ?_, ?_, ?_⟩ <;> (intros; simp only [State.startExchange]; (repeat' split) <;> simp_all)

@[simp] theorem State.endExchange_frame (s : State) (n : NodeId) :
    (s.endExchange n).nodes = s.nodes ∧ (s.endExchange n).groups = s.groups
      ∧ (s.endExchange n).supervisorPort = s.supervisorPort ∧ (s.endExchange n).nodePorts = s.nodePorts
      ∧ (s.endExchange n).store = s.store ∧ (s.endExchange n).queue = s.queue ∧ (s.endExchange n).channels = s.channels
      ∧ (s.endExchange n).monitor = s.monitor ∧ (s.endExchange n).alerts = s.alerts ∧ (s.endExchange n).active = s.active
      ∧ (s.endExchange n).staged = s.staged ∧ (s.endExchange n).array = s.array ∧ (s.endExchange n).saving = s.saving
      ∧ (s.endExchange n).clock = s.clock ∧ (s.endExchange n).resetAsserted = s.resetAsserted
      ∧ (s.endExchange n).powered = s.powered ∧ (s.endExchange n).pending = s.pending
      ∧ (∀ x : NodeId, (s.endExchange n).node x = s.node x) ∧ (∀ k : GroupId, (s.endExchange n).group k = s.group k)
      ∧ (∀ d : ChanId, (s.endExchange n).chan d = s.chan d) ∧ (∀ l' : Link, (s.endExchange n).port l' = s.port l')
      ∧ (∀ x : NodeId, x ≠ n → (s.endExchange n).exchange x = s.exchange x) := by
  refine ⟨?_, ?_, ?_, ?_, ?_, ?_, ?_, ?_, ?_, ?_, ?_, ?_, ?_, ?_, ?_, ?_, ?_, ?_, ?_, ?_, ?_, ?_⟩ <;> (intros; simp only [State.endExchange]; (repeat' split) <;> simp_all)

end Sys2Proof.Machine
end

