-- ==== Sys2Proof/Laws/FrameStore.lean ====
section
/-! SUPPORT. What the operations of Machine/Store.lean, Machine/Operands.lean leave unchanged: one lemma per operation. -/

namespace Sys2Proof.Machine

set_option linter.all false

@[simp] theorem State.removeRecord_frame (s : State) (i : Slot) :
    (s.removeRecord i).groups = s.groups ∧ (s.removeRecord i).supervisorPort = s.supervisorPort
      ∧ (s.removeRecord i).nodePorts = s.nodePorts ∧ (s.removeRecord i).exchanges = s.exchanges
      ∧ (s.removeRecord i).queue = s.queue ∧ (s.removeRecord i).channels = s.channels
      ∧ (s.removeRecord i).monitor = s.monitor ∧ (s.removeRecord i).alerts = s.alerts
      ∧ (s.removeRecord i).active = s.active ∧ (s.removeRecord i).staged = s.staged ∧ (s.removeRecord i).array = s.array
      ∧ (s.removeRecord i).saving = s.saving ∧ (s.removeRecord i).clock = s.clock
      ∧ (s.removeRecord i).resetAsserted = s.resetAsserted ∧ (s.removeRecord i).powered = s.powered
      ∧ (s.removeRecord i).pending = s.pending ∧ (∀ k : GroupId, (s.removeRecord i).group k = s.group k)
      ∧ (∀ d : ChanId, (s.removeRecord i).chan d = s.chan d)
      ∧ (∀ x : NodeId, (s.removeRecord i).exchange x = s.exchange x)
      ∧ (∀ l' : Link, (s.removeRecord i).port l' = s.port l') ∧ (s.removeRecord i).store.pool = s.store.pool
      ∧ (s.removeRecord i).store.gens = s.store.gens
      ∧ (∀ x : NodeId, ((s.removeRecord i).node x).state = (s.node x).state)
      ∧ (∀ x : NodeId, ((s.removeRecord i).node x).attempts = (s.node x).attempts)
      ∧ (∀ x : NodeId, ((s.removeRecord i).node x).channel = (s.node x).channel) := by
  refine ⟨?_, ?_, ?_, ?_, ?_, ?_, ?_, ?_, ?_, ?_, ?_, ?_, ?_, ?_, ?_, ?_, ?_, ?_, ?_, ?_, ?_, ?_, ?_, ?_, ?_⟩
  iterate 22 (intros; simp only [State.removeRecord]; (repeat' split) <;> simp_all)
  all_goals (intros; simp only [State.removeRecord]; (repeat' split) <;> simp_all [State.modNode, State.node_setNode] <;> (repeat' split) <;> simp_all)

/-- What every step of a fold keeps, the fold keeps. -/
theorem foldl_keeps {α γ : Type} (f : State → α → State) (g : State → γ) (h : ∀ s a, g (f s a) = g s) (l : List α)
    (s : State) : g (l.foldl f s) = g s := by
  induction l generalizing s with
  | nil => rfl
  | cons a l ih => rw [List.foldl_cons, ih, h]

@[simp] theorem State.removeRecords_frame (s : State) (slots : List Slot) :
    (s.removeRecords slots).groups = s.groups ∧ (s.removeRecords slots).supervisorPort = s.supervisorPort
      ∧ (s.removeRecords slots).nodePorts = s.nodePorts ∧ (s.removeRecords slots).exchanges = s.exchanges
      ∧ (s.removeRecords slots).queue = s.queue ∧ (s.removeRecords slots).channels = s.channels
      ∧ (s.removeRecords slots).monitor = s.monitor ∧ (s.removeRecords slots).alerts = s.alerts
      ∧ (s.removeRecords slots).active = s.active ∧ (s.removeRecords slots).staged = s.staged
      ∧ (s.removeRecords slots).array = s.array ∧ (s.removeRecords slots).saving = s.saving
      ∧ (s.removeRecords slots).clock = s.clock ∧ (s.removeRecords slots).resetAsserted = s.resetAsserted
      ∧ (s.removeRecords slots).powered = s.powered ∧ (s.removeRecords slots).pending = s.pending
      ∧ (∀ k : GroupId, (s.removeRecords slots).group k = s.group k)
      ∧ (∀ d : ChanId, (s.removeRecords slots).chan d = s.chan d)
      ∧ (∀ x : NodeId, (s.removeRecords slots).exchange x = s.exchange x)
      ∧ (∀ l' : Link, (s.removeRecords slots).port l' = s.port l') ∧ (s.removeRecords slots).store.pool = s.store.pool
      ∧ (s.removeRecords slots).store.gens = s.store.gens
      ∧ (∀ x : NodeId, ((s.removeRecords slots).node x).state = (s.node x).state)
      ∧ (∀ x : NodeId, ((s.removeRecords slots).node x).attempts = (s.node x).attempts)
      ∧ (∀ x : NodeId, ((s.removeRecords slots).node x).channel = (s.node x).channel) :=
  ⟨by exact foldl_keeps _ (fun s : State => s.groups) (by intros; simp) _ s,
    by exact foldl_keeps _ (fun s : State => s.supervisorPort) (by intros; simp) _ s,
    by exact foldl_keeps _ (fun s : State => s.nodePorts) (by intros; simp) _ s,
    by exact foldl_keeps _ (fun s : State => s.exchanges) (by intros; simp) _ s,
    by exact foldl_keeps _ (fun s : State => s.queue) (by intros; simp) _ s,
    by exact foldl_keeps _ (fun s : State => s.channels) (by intros; simp) _ s,
    by exact foldl_keeps _ (fun s : State => s.monitor) (by intros; simp) _ s,
    by exact foldl_keeps _ (fun s : State => s.alerts) (by intros; simp) _ s,
    by exact foldl_keeps _ (fun s : State => s.active) (by intros; simp) _ s,
    by exact foldl_keeps _ (fun s : State => s.staged) (by intros; simp) _ s,
    by exact foldl_keeps _ (fun s : State => s.array) (by intros; simp) _ s,
    by exact foldl_keeps _ (fun s : State => s.saving) (by intros; simp) _ s,
    by exact foldl_keeps _ (fun s : State => s.clock) (by intros; simp) _ s,
    by exact foldl_keeps _ (fun s : State => s.resetAsserted) (by intros; simp) _ s,
    by exact foldl_keeps _ (fun s : State => s.powered) (by intros; simp) _ s,
    by exact foldl_keeps _ (fun s : State => s.pending) (by intros; simp) _ s,
    by intro k; exact foldl_keeps _ (fun s : State => s.group k) (by intros; simp) _ s,
    by intro d; exact foldl_keeps _ (fun s : State => s.chan d) (by intros; simp) _ s,
    by intro x; exact foldl_keeps _ (fun s : State => s.exchange x) (by intros; simp) _ s,
    by intro l'; exact foldl_keeps _ (fun s : State => s.port l') (by intros; simp) _ s,
    by exact foldl_keeps _ (fun s : State => s.store.pool) (by intros; simp) _ s,
    by exact foldl_keeps _ (fun s : State => s.store.gens) (by intros; simp) _ s,
    by intro x; exact foldl_keeps _ (fun s : State => (s.node x).state) (by intros; simp) _ s,
    by intro x; exact foldl_keeps _ (fun s : State => (s.node x).attempts) (by intros; simp) _ s,
    by intro x; exact foldl_keeps _ (fun s : State => (s.node x).channel) (by intros; simp) _ s⟩

@[simp] theorem State.trim_frame (s : State) (n : NodeId) :
    (s.trim n).groups = s.groups ∧ (s.trim n).supervisorPort = s.supervisorPort ∧ (s.trim n).nodePorts = s.nodePorts
      ∧ (s.trim n).exchanges = s.exchanges ∧ (s.trim n).queue = s.queue ∧ (s.trim n).channels = s.channels
      ∧ (s.trim n).monitor = s.monitor ∧ (s.trim n).alerts = s.alerts ∧ (s.trim n).active = s.active
      ∧ (s.trim n).staged = s.staged ∧ (s.trim n).array = s.array ∧ (s.trim n).saving = s.saving
      ∧ (s.trim n).clock = s.clock ∧ (s.trim n).resetAsserted = s.resetAsserted ∧ (s.trim n).powered = s.powered
      ∧ (s.trim n).pending = s.pending ∧ (∀ k : GroupId, (s.trim n).group k = s.group k)
      ∧ (∀ d : ChanId, (s.trim n).chan d = s.chan d) ∧ (∀ x : NodeId, (s.trim n).exchange x = s.exchange x)
      ∧ (∀ l' : Link, (s.trim n).port l' = s.port l') ∧ (s.trim n).store.pool = s.store.pool
      ∧ (s.trim n).store.gens = s.store.gens ∧ (∀ x : NodeId, ((s.trim n).node x).state = (s.node x).state)
      ∧ (∀ x : NodeId, ((s.trim n).node x).attempts = (s.node x).attempts)
      ∧ (∀ x : NodeId, ((s.trim n).node x).channel = (s.node x).channel) := by
  refine ⟨?_, ?_, ?_, ?_, ?_, ?_, ?_, ?_, ?_, ?_, ?_, ?_, ?_, ?_, ?_, ?_, ?_, ?_, ?_, ?_, ?_, ?_, ?_, ?_, ?_⟩
  iterate 22 (intros; simp only [State.trim]; (repeat' split) <;> simp_all)
  all_goals (intros; simp only [State.trim]; (repeat' split) <;> simp_all [State.modNode, State.node_setNode] <;> (repeat' split) <;> simp_all)

@[simp] theorem State.reclaim_frame (s : State) (f : Entry) :
    (s.reclaim f).groups = s.groups ∧ (s.reclaim f).supervisorPort = s.supervisorPort
      ∧ (s.reclaim f).nodePorts = s.nodePorts ∧ (s.reclaim f).exchanges = s.exchanges ∧ (s.reclaim f).queue = s.queue
      ∧ (s.reclaim f).channels = s.channels ∧ (s.reclaim f).monitor = s.monitor ∧ (s.reclaim f).active = s.active
      ∧ (s.reclaim f).staged = s.staged ∧ (s.reclaim f).array = s.array ∧ (s.reclaim f).saving = s.saving
      ∧ (s.reclaim f).clock = s.clock ∧ (s.reclaim f).resetAsserted = s.resetAsserted ∧ (s.reclaim f).powered = s.powered
      ∧ (s.reclaim f).pending = s.pending ∧ (∀ k : GroupId, (s.reclaim f).group k = s.group k)
      ∧ (∀ d : ChanId, (s.reclaim f).chan d = s.chan d) ∧ (∀ x : NodeId, (s.reclaim f).exchange x = s.exchange x)
      ∧ (∀ l' : Link, (s.reclaim f).port l' = s.port l') ∧ (s.reclaim f).store.pool = s.store.pool
      ∧ (s.reclaim f).store.gens = s.store.gens ∧ (∀ x : NodeId, ((s.reclaim f).node x).state = (s.node x).state)
      ∧ (∀ x : NodeId, ((s.reclaim f).node x).attempts = (s.node x).attempts)
      ∧ (∀ x : NodeId, ((s.reclaim f).node x).channel = (s.node x).channel) := by
  refine ⟨?_, ?_, ?_, ?_, ?_, ?_, ?_, ?_, ?_, ?_, ?_, ?_, ?_, ?_, ?_, ?_, ?_, ?_, ?_, ?_, ?_, ?_, ?_, ?_⟩
  iterate 21 (intros; simp only [State.reclaim]; (repeat' split) <;> simp_all)
  all_goals (intros; simp only [State.reclaim]; (repeat' split) <;> simp_all [State.modNode, State.node_setNode] <;> (repeat' split) <;> simp_all)

@[simp] theorem State.allocate_frame (s : State) (i : Slot) (ws : List Word) :
    (s.allocate i ws).1.groups = s.groups ∧ (s.allocate i ws).1.supervisorPort = s.supervisorPort
      ∧ (s.allocate i ws).1.nodePorts = s.nodePorts ∧ (s.allocate i ws).1.exchanges = s.exchanges
      ∧ (s.allocate i ws).1.queue = s.queue ∧ (s.allocate i ws).1.channels = s.channels
      ∧ (s.allocate i ws).1.monitor = s.monitor ∧ (s.allocate i ws).1.active = s.active
      ∧ (s.allocate i ws).1.staged = s.staged ∧ (s.allocate i ws).1.array = s.array
      ∧ (s.allocate i ws).1.saving = s.saving ∧ (s.allocate i ws).1.clock = s.clock
      ∧ (s.allocate i ws).1.resetAsserted = s.resetAsserted ∧ (s.allocate i ws).1.powered = s.powered
      ∧ (s.allocate i ws).1.pending = s.pending ∧ (∀ k : GroupId, (s.allocate i ws).1.group k = s.group k)
      ∧ (∀ d : ChanId, (s.allocate i ws).1.chan d = s.chan d)
      ∧ (∀ x : NodeId, (s.allocate i ws).1.exchange x = s.exchange x)
      ∧ (∀ l' : Link, (s.allocate i ws).1.port l' = s.port l')
      ∧ (∀ x : NodeId, ((s.allocate i ws).1.node x).state = (s.node x).state)
      ∧ (∀ x : NodeId, ((s.allocate i ws).1.node x).attempts = (s.node x).attempts)
      ∧ (∀ x : NodeId, ((s.allocate i ws).1.node x).channel = (s.node x).channel) := by
  refine ⟨?_, ?_, ?_, ?_, ?_, ?_, ?_, ?_, ?_, ?_, ?_, ?_, ?_, ?_, ?_, ?_, ?_, ?_, ?_, ?_, ?_, ?_⟩
  iterate 19 (intros; simp only [State.allocate]; (repeat' split) <;> simp_all)
  all_goals (intros; simp only [State.allocate]; (repeat' split) <;> simp_all [State.modNode, State.node_setNode] <;> (repeat' split) <;> simp_all)

@[simp] theorem State.discardDamaged_frame (s : State) (r : Record) :
    (s.discardDamaged r).groups = s.groups ∧ (s.discardDamaged r).supervisorPort = s.supervisorPort
      ∧ (s.discardDamaged r).nodePorts = s.nodePorts ∧ (s.discardDamaged r).exchanges = s.exchanges
      ∧ (s.discardDamaged r).queue = s.queue ∧ (s.discardDamaged r).channels = s.channels
      ∧ (s.discardDamaged r).monitor = s.monitor ∧ (s.discardDamaged r).alerts = s.alerts
      ∧ (s.discardDamaged r).active = s.active ∧ (s.discardDamaged r).staged = s.staged
      ∧ (s.discardDamaged r).array = s.array ∧ (s.discardDamaged r).saving = s.saving
      ∧ (s.discardDamaged r).clock = s.clock ∧ (s.discardDamaged r).resetAsserted = s.resetAsserted
      ∧ (s.discardDamaged r).powered = s.powered ∧ (s.discardDamaged r).pending = s.pending
      ∧ (∀ k : GroupId, (s.discardDamaged r).group k = s.group k) ∧ (∀ d : ChanId, (s.discardDamaged r).chan d = s.chan d)
      ∧ (∀ x : NodeId, (s.discardDamaged r).exchange x = s.exchange x)
      ∧ (∀ l' : Link, (s.discardDamaged r).port l' = s.port l') ∧ (s.discardDamaged r).store.pool = s.store.pool
      ∧ (s.discardDamaged r).store.gens = s.store.gens
      ∧ (∀ x : NodeId, ((s.discardDamaged r).node x).state = (s.node x).state)
      ∧ (∀ x : NodeId, ((s.discardDamaged r).node x).attempts = (s.node x).attempts)
      ∧ (∀ x : NodeId, ((s.discardDamaged r).node x).channel = (s.node x).channel) := by
  refine ⟨?_, ?_, ?_, ?_, ?_, ?_, ?_, ?_, ?_, ?_, ?_, ?_, ?_, ?_, ?_, ?_, ?_, ?_, ?_, ?_, ?_, ?_, ?_, ?_, ?_⟩
  iterate 22 (intros; simp only [State.discardDamaged]; (repeat' split) <;> simp_all)
  all_goals (intros; simp only [State.discardDamaged]; (repeat' split) <;> simp_all [State.modNode, State.node_setNode] <;> (repeat' split) <;> simp_all)

@[simp] theorem State.pin_frame (s : State) (slots : List Slot) :
    (s.pin slots).nodes = s.nodes ∧ (s.pin slots).groups = s.groups ∧ (s.pin slots).supervisorPort = s.supervisorPort
      ∧ (s.pin slots).nodePorts = s.nodePorts ∧ (s.pin slots).exchanges = s.exchanges ∧ (s.pin slots).queue = s.queue
      ∧ (s.pin slots).channels = s.channels ∧ (s.pin slots).monitor = s.monitor ∧ (s.pin slots).alerts = s.alerts
      ∧ (s.pin slots).active = s.active ∧ (s.pin slots).staged = s.staged ∧ (s.pin slots).array = s.array
      ∧ (s.pin slots).saving = s.saving ∧ (s.pin slots).clock = s.clock ∧ (s.pin slots).resetAsserted = s.resetAsserted
      ∧ (s.pin slots).powered = s.powered ∧ (s.pin slots).pending = s.pending
      ∧ (∀ x : NodeId, (s.pin slots).node x = s.node x) ∧ (∀ k : GroupId, (s.pin slots).group k = s.group k)
      ∧ (∀ d : ChanId, (s.pin slots).chan d = s.chan d) ∧ (∀ x : NodeId, (s.pin slots).exchange x = s.exchange x)
      ∧ (∀ l' : Link, (s.pin slots).port l' = s.port l') ∧ (s.pin slots).store.pool = s.store.pool
      ∧ (s.pin slots).store.gens = s.store.gens := by
  refine ⟨?_, ?_, ?_, ?_, ?_, ?_, ?_, ?_, ?_, ?_, ?_, ?_, ?_, ?_, ?_, ?_, ?_, ?_, ?_, ?_, ?_, ?_, ?_, ?_⟩ <;> (intros; simp only [State.pin]; (repeat' split) <;> simp_all)

@[simp] theorem State.unpin_frame (s : State) (n : NodeId) :
    (s.unpin n).nodes = s.nodes ∧ (s.unpin n).groups = s.groups ∧ (s.unpin n).supervisorPort = s.supervisorPort
      ∧ (s.unpin n).nodePorts = s.nodePorts ∧ (s.unpin n).exchanges = s.exchanges ∧ (s.unpin n).queue = s.queue
      ∧ (s.unpin n).channels = s.channels ∧ (s.unpin n).monitor = s.monitor ∧ (s.unpin n).alerts = s.alerts
      ∧ (s.unpin n).active = s.active ∧ (s.unpin n).staged = s.staged ∧ (s.unpin n).array = s.array
      ∧ (s.unpin n).saving = s.saving ∧ (s.unpin n).clock = s.clock ∧ (s.unpin n).resetAsserted = s.resetAsserted
      ∧ (s.unpin n).powered = s.powered ∧ (s.unpin n).pending = s.pending ∧ (∀ x : NodeId, (s.unpin n).node x = s.node x)
      ∧ (∀ k : GroupId, (s.unpin n).group k = s.group k) ∧ (∀ d : ChanId, (s.unpin n).chan d = s.chan d)
      ∧ (∀ x : NodeId, (s.unpin n).exchange x = s.exchange x) ∧ (∀ l' : Link, (s.unpin n).port l' = s.port l')
      ∧ (s.unpin n).store.pool = s.store.pool ∧ (s.unpin n).store.gens = s.store.gens := by
  refine ⟨?_, ?_, ?_, ?_, ?_, ?_, ?_, ?_, ?_, ?_, ?_, ?_, ?_, ?_, ?_, ?_, ?_, ?_, ?_, ?_, ?_, ?_, ?_, ?_⟩ <;> (intros; simp only [State.unpin]; (repeat' split) <;> simp_all)

@[simp] theorem State.modRecord_frame (s : State) (i : Slot) (f : Record → Record) :
    (s.modRecord i f).nodes = s.nodes ∧ (s.modRecord i f).groups = s.groups
      ∧ (s.modRecord i f).supervisorPort = s.supervisorPort ∧ (s.modRecord i f).nodePorts = s.nodePorts
      ∧ (s.modRecord i f).exchanges = s.exchanges ∧ (s.modRecord i f).queue = s.queue
      ∧ (s.modRecord i f).channels = s.channels ∧ (s.modRecord i f).monitor = s.monitor
      ∧ (s.modRecord i f).alerts = s.alerts ∧ (s.modRecord i f).active = s.active ∧ (s.modRecord i f).staged = s.staged
      ∧ (s.modRecord i f).array = s.array ∧ (s.modRecord i f).saving = s.saving ∧ (s.modRecord i f).clock = s.clock
      ∧ (s.modRecord i f).resetAsserted = s.resetAsserted ∧ (s.modRecord i f).powered = s.powered
      ∧ (s.modRecord i f).pending = s.pending ∧ (∀ x : NodeId, (s.modRecord i f).node x = s.node x)
      ∧ (∀ k : GroupId, (s.modRecord i f).group k = s.group k) ∧ (∀ d : ChanId, (s.modRecord i f).chan d = s.chan d)
      ∧ (∀ x : NodeId, (s.modRecord i f).exchange x = s.exchange x) ∧ (∀ l' : Link, (s.modRecord i f).port l' = s.port l')
      ∧ (s.modRecord i f).store.pool = s.store.pool ∧ (s.modRecord i f).store.gens = s.store.gens := by
  refine ⟨?_, ?_, ?_, ?_, ?_, ?_, ?_, ?_, ?_, ?_, ?_, ?_, ?_, ?_, ?_, ?_, ?_, ?_, ?_, ?_, ?_, ?_, ?_, ?_⟩ <;> (intros; simp only [State.modRecord]; (repeat' split) <;> simp_all)

@[simp] theorem State.discardFrame_frame (s : State) (l : Link) :
    (s.discardFrame l).nodes = s.nodes ∧ (s.discardFrame l).groups = s.groups ∧ (s.discardFrame l).exchanges = s.exchanges
      ∧ (s.discardFrame l).store = s.store ∧ (s.discardFrame l).queue = s.queue ∧ (s.discardFrame l).channels = s.channels
      ∧ (s.discardFrame l).monitor = s.monitor ∧ (s.discardFrame l).active = s.active
      ∧ (s.discardFrame l).staged = s.staged ∧ (s.discardFrame l).array = s.array ∧ (s.discardFrame l).saving = s.saving
      ∧ (s.discardFrame l).clock = s.clock ∧ (s.discardFrame l).resetAsserted = s.resetAsserted
      ∧ (s.discardFrame l).powered = s.powered ∧ (s.discardFrame l).pending = s.pending
      ∧ (∀ x : NodeId, (s.discardFrame l).node x = s.node x) ∧ (∀ k : GroupId, (s.discardFrame l).group k = s.group k)
      ∧ (∀ d : ChanId, (s.discardFrame l).chan d = s.chan d)
      ∧ (∀ x : NodeId, (s.discardFrame l).exchange x = s.exchange x)
      ∧ (∀ l' : Link, l' ≠ l → (s.discardFrame l).port l' = s.port l') := by
  refine ⟨?_, ?_, ?_, ?_, ?_, ?_, ?_, ?_, ?_, ?_, ?_, ?_, ?_, ?_, ?_, ?_, ?_, ?_, ?_, ?_⟩ <;> (intros; simp only [State.discardFrame]; (repeat' split) <;> simp_all)

end Sys2Proof.Machine
end

