-- ==== Sys2Proof/Laws/FrameQueue.lean ====
section
/-! SUPPORT. What the operations of Machine/Queue.lean leave unchanged: one lemma per operation. -/

namespace Sys2Proof.Machine

set_option linter.all false

@[simp] theorem State.enqueue_frame (s : State) (n : NodeId) :
    (s.enqueue n).nodes = s.nodes ∧ (s.enqueue n).groups = s.groups ∧ (s.enqueue n).supervisorPort = s.supervisorPort
      ∧ (s.enqueue n).nodePorts = s.nodePorts ∧ (s.enqueue n).exchanges = s.exchanges ∧ (s.enqueue n).store = s.store
      ∧ (s.enqueue n).channels = s.channels ∧ (s.enqueue n).monitor = s.monitor ∧ (s.enqueue n).alerts = s.alerts
      ∧ (s.enqueue n).active = s.active ∧ (s.enqueue n).staged = s.staged ∧ (s.enqueue n).array = s.array
      ∧ (s.enqueue n).saving = s.saving ∧ (s.enqueue n).clock = s.clock ∧ (s.enqueue n).resetAsserted = s.resetAsserted
      ∧ (s.enqueue n).powered = s.powered ∧ (s.enqueue n).pending = s.pending
      ∧ (∀ x : NodeId, (s.enqueue n).node x = s.node x) ∧ (∀ k : GroupId, (s.enqueue n).group k = s.group k)
      ∧ (∀ d : ChanId, (s.enqueue n).chan d = s.chan d) ∧ (∀ x : NodeId, (s.enqueue n).exchange x = s.exchange x)
      ∧ (∀ l' : Link, (s.enqueue n).port l' = s.port l') := by
  refine ⟨?_, ?_, ?_, ?_, ?_, ?_, ?_, ?_, ?_, ?_, ?_, ?_, ?_, ?_, ?_, ?_, ?_, ?_, ?_, ?_, ?_, ?_⟩ <;> (intros; simp only [State.enqueue]; (repeat' split) <;> simp_all)

@[simp] theorem State.dequeue_frame (s : State) (n : NodeId) :
    (s.dequeue n).nodes = s.nodes ∧ (s.dequeue n).groups = s.groups ∧ (s.dequeue n).supervisorPort = s.supervisorPort
      ∧ (s.dequeue n).nodePorts = s.nodePorts ∧ (s.dequeue n).exchanges = s.exchanges ∧ (s.dequeue n).store = s.store
      ∧ (s.dequeue n).channels = s.channels ∧ (s.dequeue n).monitor = s.monitor ∧ (s.dequeue n).alerts = s.alerts
      ∧ (s.dequeue n).active = s.active ∧ (s.dequeue n).staged = s.staged ∧ (s.dequeue n).array = s.array
      ∧ (s.dequeue n).saving = s.saving ∧ (s.dequeue n).clock = s.clock ∧ (s.dequeue n).resetAsserted = s.resetAsserted
      ∧ (s.dequeue n).powered = s.powered ∧ (s.dequeue n).pending = s.pending
      ∧ (∀ x : NodeId, (s.dequeue n).node x = s.node x) ∧ (∀ k : GroupId, (s.dequeue n).group k = s.group k)
      ∧ (∀ d : ChanId, (s.dequeue n).chan d = s.chan d) ∧ (∀ x : NodeId, (s.dequeue n).exchange x = s.exchange x)
      ∧ (∀ l' : Link, (s.dequeue n).port l' = s.port l') := by
  refine ⟨?_, ?_, ?_, ?_, ?_, ?_, ?_, ?_, ?_, ?_, ?_, ?_, ?_, ?_, ?_, ?_, ?_, ?_, ?_, ?_, ?_, ?_⟩ <;> (intros; simp only [State.dequeue]; (repeat' split) <;> simp_all)

@[simp] theorem State.reorderGroup_frame (s : State) (g : GroupId) :
    (s.reorderGroup g).nodes = s.nodes ∧ (s.reorderGroup g).groups = s.groups
      ∧ (s.reorderGroup g).supervisorPort = s.supervisorPort ∧ (s.reorderGroup g).nodePorts = s.nodePorts
      ∧ (s.reorderGroup g).exchanges = s.exchanges ∧ (s.reorderGroup g).store = s.store
      ∧ (s.reorderGroup g).channels = s.channels ∧ (s.reorderGroup g).monitor = s.monitor
      ∧ (s.reorderGroup g).alerts = s.alerts ∧ (s.reorderGroup g).active = s.active ∧ (s.reorderGroup g).staged = s.staged
      ∧ (s.reorderGroup g).array = s.array ∧ (s.reorderGroup g).saving = s.saving ∧ (s.reorderGroup g).clock = s.clock
      ∧ (s.reorderGroup g).resetAsserted = s.resetAsserted ∧ (s.reorderGroup g).powered = s.powered
      ∧ (s.reorderGroup g).pending = s.pending ∧ (∀ x : NodeId, (s.reorderGroup g).node x = s.node x)
      ∧ (∀ k : GroupId, (s.reorderGroup g).group k = s.group k) ∧ (∀ d : ChanId, (s.reorderGroup g).chan d = s.chan d)
      ∧ (∀ x : NodeId, (s.reorderGroup g).exchange x = s.exchange x)
      ∧ (∀ l' : Link, (s.reorderGroup g).port l' = s.port l') := by
  refine ⟨?_, ?_, ?_, ?_, ?_, ?_, ?_, ?_, ?_, ?_, ?_, ?_, ?_, ?_, ?_, ?_, ?_, ?_, ?_, ?_, ?_, ?_⟩ <;> (intros; simp only [State.reorderGroup]; (repeat' split) <;> simp_all)

@[simp] theorem State.resortQueue_frame (s : State) :
    (s.resortQueue).nodes = s.nodes ∧ (s.resortQueue).groups = s.groups
      ∧ (s.resortQueue).supervisorPort = s.supervisorPort ∧ (s.resortQueue).nodePorts = s.nodePorts
      ∧ (s.resortQueue).exchanges = s.exchanges ∧ (s.resortQueue).store = s.store ∧ (s.resortQueue).channels = s.channels
      ∧ (s.resortQueue).monitor = s.monitor ∧ (s.resortQueue).alerts = s.alerts ∧ (s.resortQueue).active = s.active
      ∧ (s.resortQueue).staged = s.staged ∧ (s.resortQueue).array = s.array ∧ (s.resortQueue).saving = s.saving
      ∧ (s.resortQueue).clock = s.clock ∧ (s.resortQueue).resetAsserted = s.resetAsserted
      ∧ (s.resortQueue).powered = s.powered ∧ (s.resortQueue).pending = s.pending
      ∧ (∀ x : NodeId, (s.resortQueue).node x = s.node x) ∧ (∀ k : GroupId, (s.resortQueue).group k = s.group k)
      ∧ (∀ d : ChanId, (s.resortQueue).chan d = s.chan d) ∧ (∀ x : NodeId, (s.resortQueue).exchange x = s.exchange x)
      ∧ (∀ l' : Link, (s.resortQueue).port l' = s.port l') := by
  refine ⟨?_, ?_, ?_, ?_, ?_, ?_, ?_, ?_, ?_, ?_, ?_, ?_, ?_, ?_, ?_, ?_, ?_, ?_, ?_, ?_, ?_, ?_⟩ <;> (intros; simp only [State.resortQueue]; (repeat' split) <;> simp_all)

@[simp] theorem State.bindHead_frame (s : State) (c : ChanId) :
    (s.bindHead c).groups = s.groups ∧ (s.bindHead c).supervisorPort = s.supervisorPort
      ∧ (s.bindHead c).nodePorts = s.nodePorts ∧ (s.bindHead c).exchanges = s.exchanges
      ∧ (s.bindHead c).monitor = s.monitor ∧ (s.bindHead c).alerts = s.alerts ∧ (s.bindHead c).active = s.active
      ∧ (s.bindHead c).staged = s.staged ∧ (s.bindHead c).array = s.array ∧ (s.bindHead c).saving = s.saving
      ∧ (s.bindHead c).clock = s.clock ∧ (s.bindHead c).resetAsserted = s.resetAsserted
      ∧ (s.bindHead c).powered = s.powered ∧ (s.bindHead c).pending = s.pending
      ∧ (∀ k : GroupId, (s.bindHead c).group k = s.group k) ∧ (∀ x : NodeId, (s.bindHead c).exchange x = s.exchange x)
      ∧ (∀ l' : Link, (s.bindHead c).port l' = s.port l') ∧ (s.bindHead c).store.pool = s.store.pool
      ∧ (s.bindHead c).store.gens = s.store.gens ∧ (∀ d : ChanId, d ≠ c → (s.bindHead c).chan d = s.chan d)
      ∧ (∀ x : NodeId, ((s.bindHead c).node x).attempts = (s.node x).attempts) := by
  refine ⟨?_, ?_, ?_, ?_, ?_, ?_, ?_, ?_, ?_, ?_, ?_, ?_, ?_, ?_, ?_, ?_, ?_, ?_, ?_, ?_, ?_⟩
  iterate 20 (intros; simp only [State.bindHead]; (repeat' split) <;> simp_all)
  all_goals (intros; simp only [State.bindHead]; (repeat' split) <;> simp_all [State.modNode, State.node_setNode] <;> (repeat' split) <;> simp_all)

@[simp] theorem State.arbiter_frame (s : State) :
    (s.arbiter).groups = s.groups ∧ (s.arbiter).supervisorPort = s.supervisorPort ∧ (s.arbiter).nodePorts = s.nodePorts
      ∧ (s.arbiter).exchanges = s.exchanges ∧ (s.arbiter).monitor = s.monitor ∧ (s.arbiter).alerts = s.alerts
      ∧ (s.arbiter).active = s.active ∧ (s.arbiter).staged = s.staged ∧ (s.arbiter).array = s.array
      ∧ (s.arbiter).saving = s.saving ∧ (s.arbiter).clock = s.clock ∧ (s.arbiter).resetAsserted = s.resetAsserted
      ∧ (s.arbiter).powered = s.powered ∧ (s.arbiter).pending = s.pending
      ∧ (∀ k : GroupId, (s.arbiter).group k = s.group k) ∧ (∀ x : NodeId, (s.arbiter).exchange x = s.exchange x)
      ∧ (∀ l' : Link, (s.arbiter).port l' = s.port l') ∧ (s.arbiter).store.pool = s.store.pool
      ∧ (s.arbiter).store.gens = s.store.gens ∧ (∀ x : NodeId, ((s.arbiter).node x).attempts = (s.node x).attempts) := by
  refine ⟨?_, ?_, ?_, ?_, ?_, ?_, ?_, ?_, ?_, ?_, ?_, ?_, ?_, ?_, ?_, ?_, ?_, ?_, ?_, ?_⟩
  iterate 19 (intros; simp only [State.arbiter]; (repeat' split) <;> simp_all)
  all_goals (intros; simp only [State.arbiter]; (repeat' split) <;> simp_all [State.modNode, State.node_setNode] <;> (repeat' split) <;> simp_all)

@[simp] theorem State.endData_frame (s : State) (n : NodeId) :
    (s.endData n).nodes = s.nodes ∧ (s.endData n).groups = s.groups ∧ (s.endData n).supervisorPort = s.supervisorPort
      ∧ (s.endData n).nodePorts = s.nodePorts ∧ (s.endData n).store = s.store ∧ (s.endData n).queue = s.queue
      ∧ (s.endData n).channels = s.channels ∧ (s.endData n).monitor = s.monitor ∧ (s.endData n).alerts = s.alerts
      ∧ (s.endData n).active = s.active ∧ (s.endData n).staged = s.staged ∧ (s.endData n).array = s.array
      ∧ (s.endData n).saving = s.saving ∧ (s.endData n).clock = s.clock ∧ (s.endData n).resetAsserted = s.resetAsserted
      ∧ (s.endData n).powered = s.powered ∧ (s.endData n).pending = s.pending
      ∧ (∀ x : NodeId, (s.endData n).node x = s.node x) ∧ (∀ k : GroupId, (s.endData n).group k = s.group k)
      ∧ (∀ d : ChanId, (s.endData n).chan d = s.chan d) ∧ (∀ l' : Link, (s.endData n).port l' = s.port l')
      ∧ (∀ x : NodeId, x ≠ n → (s.endData n).exchange x = s.exchange x) := by
  refine ⟨?_, ?_, ?_, ?_, ?_, ?_, ?_, ?_, ?_, ?_, ?_, ?_, ?_, ?_, ?_, ?_, ?_, ?_, ?_, ?_, ?_, ?_⟩ <;> (intros; simp only [State.endData]; (repeat' split) <;> simp_all)

@[simp] theorem State.unbind_frame (s : State) (c : ChanId) :
    (s.unbind c).groups = s.groups ∧ (s.unbind c).supervisorPort = s.supervisorPort ∧ (s.unbind c).nodePorts = s.nodePorts
      ∧ (s.unbind c).monitor = s.monitor ∧ (s.unbind c).alerts = s.alerts ∧ (s.unbind c).active = s.active
      ∧ (s.unbind c).staged = s.staged ∧ (s.unbind c).array = s.array ∧ (s.unbind c).saving = s.saving
      ∧ (s.unbind c).clock = s.clock ∧ (s.unbind c).resetAsserted = s.resetAsserted ∧ (s.unbind c).powered = s.powered
      ∧ (s.unbind c).pending = s.pending ∧ (∀ k : GroupId, (s.unbind c).group k = s.group k)
      ∧ (∀ l' : Link, (s.unbind c).port l' = s.port l') ∧ (s.unbind c).store.pool = s.store.pool
      ∧ (s.unbind c).store.gens = s.store.gens ∧ (∀ x : NodeId, ((s.unbind c).node x).attempts = (s.node x).attempts) := by
  refine ⟨?_, ?_, ?_, ?_, ?_, ?_, ?_, ?_, ?_, ?_, ?_, ?_, ?_, ?_, ?_, ?_, ?_, ?_⟩
  iterate 17 (intros; simp only [State.unbind]; (repeat' split) <;> simp_all)
  all_goals (intros; simp only [State.unbind]; (repeat' split) <;> simp_all [State.modNode, State.node_setNode] <;> (repeat' split) <;> simp_all)

end Sys2Proof.Machine
end

