-- ==== Sys2Proof/Laws/FrameGroup.lean ====
section
/-! SUPPORT. What the operations of Machine/Group.lean leave unchanged: one lemma per operation. -/

namespace Sys2Proof.Machine

set_option linter.all false

@[simp] theorem State.sendTake_frame (s : State) (g : GroupId) (n : NodeId) :
    (s.sendTake g n).nodes = s.nodes ∧ (s.sendTake g n).store = s.store ∧ (s.sendTake g n).queue = s.queue
      ∧ (s.sendTake g n).channels = s.channels ∧ (s.sendTake g n).monitor = s.monitor ∧ (s.sendTake g n).alerts = s.alerts
      ∧ (s.sendTake g n).active = s.active ∧ (s.sendTake g n).staged = s.staged ∧ (s.sendTake g n).array = s.array
      ∧ (s.sendTake g n).saving = s.saving ∧ (s.sendTake g n).clock = s.clock
      ∧ (s.sendTake g n).resetAsserted = s.resetAsserted ∧ (s.sendTake g n).powered = s.powered
      ∧ (s.sendTake g n).pending = s.pending ∧ (∀ x : NodeId, (s.sendTake g n).node x = s.node x)
      ∧ (∀ d : ChanId, (s.sendTake g n).chan d = s.chan d) ∧ (∀ k : GroupId, k ≠ g → (s.sendTake g n).group k = s.group k)
      ∧ (∀ x : NodeId, x ≠ n → (s.sendTake g n).exchange x = s.exchange x)
      ∧ (∀ l' : Link, l' ≠ .node n → (s.sendTake g n).port l' = s.port l') := by
  refine ⟨?_, ?_, ?_, ?_, ?_, ?_, ?_, ?_, ?_, ?_, ?_, ?_, ?_, ?_, ?_, ?_, ?_, ?_, ?_⟩ <;> (intros; simp only [State.sendTake]; (repeat' split) <;> simp_all)

@[simp] theorem State.seekTakeover_frame (s : State) (g : GroupId) :
    (s.seekTakeover g).nodes = s.nodes ∧ (s.seekTakeover g).store = s.store ∧ (s.seekTakeover g).queue = s.queue
      ∧ (s.seekTakeover g).channels = s.channels ∧ (s.seekTakeover g).monitor = s.monitor
      ∧ (s.seekTakeover g).alerts = s.alerts ∧ (s.seekTakeover g).active = s.active ∧ (s.seekTakeover g).staged = s.staged
      ∧ (s.seekTakeover g).array = s.array ∧ (s.seekTakeover g).saving = s.saving ∧ (s.seekTakeover g).clock = s.clock
      ∧ (s.seekTakeover g).resetAsserted = s.resetAsserted ∧ (s.seekTakeover g).powered = s.powered
      ∧ (s.seekTakeover g).pending = s.pending ∧ (∀ x : NodeId, (s.seekTakeover g).node x = s.node x)
      ∧ (∀ d : ChanId, (s.seekTakeover g).chan d = s.chan d)
      ∧ (∀ k : GroupId, k ≠ g → (s.seekTakeover g).group k = s.group k) := by
  refine ⟨?_, ?_, ?_, ?_, ?_, ?_, ?_, ?_, ?_, ?_, ?_, ?_, ?_, ?_, ?_, ?_, ?_⟩ <;> (intros; simp only [State.seekTakeover]; (repeat' split) <;> simp_all)

@[simp] theorem State.seekUndeclined_frame (s : State) (g : GroupId) :
    (s.seekUndeclined g).nodes = s.nodes ∧ (s.seekUndeclined g).store = s.store ∧ (s.seekUndeclined g).queue = s.queue
      ∧ (s.seekUndeclined g).channels = s.channels ∧ (s.seekUndeclined g).monitor = s.monitor
      ∧ (s.seekUndeclined g).alerts = s.alerts ∧ (s.seekUndeclined g).active = s.active
      ∧ (s.seekUndeclined g).staged = s.staged ∧ (s.seekUndeclined g).array = s.array
      ∧ (s.seekUndeclined g).saving = s.saving ∧ (s.seekUndeclined g).clock = s.clock
      ∧ (s.seekUndeclined g).resetAsserted = s.resetAsserted ∧ (s.seekUndeclined g).powered = s.powered
      ∧ (s.seekUndeclined g).pending = s.pending ∧ (∀ x : NodeId, (s.seekUndeclined g).node x = s.node x)
      ∧ (∀ d : ChanId, (s.seekUndeclined g).chan d = s.chan d)
      ∧ (∀ k : GroupId, k ≠ g → (s.seekUndeclined g).group k = s.group k) := by
  refine ⟨?_, ?_, ?_, ?_, ?_, ?_, ?_, ?_, ?_, ?_, ?_, ?_, ?_, ?_, ?_, ?_, ?_⟩ <;> (intros; simp only [State.seekUndeclined]; (repeat' split) <;> simp_all)

@[simp] theorem State.standbyReachedRunning_frame (s : State) (g : GroupId) :
    (s.standbyReachedRunning g).nodes = s.nodes ∧ (s.standbyReachedRunning g).store = s.store
      ∧ (s.standbyReachedRunning g).queue = s.queue ∧ (s.standbyReachedRunning g).channels = s.channels
      ∧ (s.standbyReachedRunning g).monitor = s.monitor ∧ (s.standbyReachedRunning g).alerts = s.alerts
      ∧ (s.standbyReachedRunning g).active = s.active ∧ (s.standbyReachedRunning g).staged = s.staged
      ∧ (s.standbyReachedRunning g).array = s.array ∧ (s.standbyReachedRunning g).saving = s.saving
      ∧ (s.standbyReachedRunning g).clock = s.clock ∧ (s.standbyReachedRunning g).resetAsserted = s.resetAsserted
      ∧ (s.standbyReachedRunning g).powered = s.powered ∧ (s.standbyReachedRunning g).pending = s.pending
      ∧ (∀ x : NodeId, (s.standbyReachedRunning g).node x = s.node x)
      ∧ (∀ d : ChanId, (s.standbyReachedRunning g).chan d = s.chan d)
      ∧ (∀ k : GroupId, k ≠ g → (s.standbyReachedRunning g).group k = s.group k) := by
  refine ⟨?_, ?_, ?_, ?_, ?_, ?_, ?_, ?_, ?_, ?_, ?_, ?_, ?_, ?_, ?_, ?_, ?_⟩ <;> (intros; simp only [State.standbyReachedRunning]; (repeat' split) <;> simp_all)

@[simp] theorem State.enterHold_frame (s : State) (g : GroupId) (base : Word) :
    (s.enterHold g base).nodes = s.nodes ∧ (s.enterHold g base).store = s.store
      ∧ (s.enterHold g base).channels = s.channels ∧ (s.enterHold g base).monitor = s.monitor
      ∧ (s.enterHold g base).active = s.active ∧ (s.enterHold g base).staged = s.staged
      ∧ (s.enterHold g base).array = s.array ∧ (s.enterHold g base).saving = s.saving
      ∧ (s.enterHold g base).clock = s.clock ∧ (s.enterHold g base).resetAsserted = s.resetAsserted
      ∧ (s.enterHold g base).powered = s.powered ∧ (s.enterHold g base).pending = s.pending
      ∧ (∀ x : NodeId, (s.enterHold g base).node x = s.node x) ∧ (∀ d : ChanId, (s.enterHold g base).chan d = s.chan d)
      ∧ (∀ k : GroupId, k ≠ g → (s.enterHold g base).group k = s.group k) := by
  refine ⟨?_, ?_, ?_, ?_, ?_, ?_, ?_, ?_, ?_, ?_, ?_, ?_, ?_, ?_, ?_⟩ <;> (intros; simp only [State.enterHold]; (repeat' split) <;> simp_all)

@[simp] theorem State.leaveHold_frame (s : State) (g : GroupId) (after : GroupState) :
    (s.leaveHold g after).nodes = s.nodes ∧ (s.leaveHold g after).supervisorPort = s.supervisorPort
      ∧ (s.leaveHold g after).nodePorts = s.nodePorts ∧ (s.leaveHold g after).exchanges = s.exchanges
      ∧ (s.leaveHold g after).store = s.store ∧ (s.leaveHold g after).channels = s.channels
      ∧ (s.leaveHold g after).monitor = s.monitor ∧ (s.leaveHold g after).alerts = s.alerts
      ∧ (s.leaveHold g after).active = s.active ∧ (s.leaveHold g after).staged = s.staged
      ∧ (s.leaveHold g after).array = s.array ∧ (s.leaveHold g after).saving = s.saving
      ∧ (s.leaveHold g after).clock = s.clock ∧ (s.leaveHold g after).resetAsserted = s.resetAsserted
      ∧ (s.leaveHold g after).powered = s.powered ∧ (s.leaveHold g after).pending = s.pending
      ∧ (∀ x : NodeId, (s.leaveHold g after).node x = s.node x) ∧ (∀ d : ChanId, (s.leaveHold g after).chan d = s.chan d)
      ∧ (∀ x : NodeId, (s.leaveHold g after).exchange x = s.exchange x)
      ∧ (∀ l' : Link, (s.leaveHold g after).port l' = s.port l')
      ∧ (∀ k : GroupId, k ≠ g → (s.leaveHold g after).group k = s.group k) := by
  refine ⟨?_, ?_, ?_, ?_, ?_, ?_, ?_, ?_, ?_, ?_, ?_, ?_, ?_, ?_, ?_, ?_, ?_, ?_, ?_, ?_, ?_⟩ <;> (intros; simp only [State.leaveHold]; (repeat' split) <;> simp_all)

@[simp] theorem State.declineTake_frame (s : State) (g : GroupId) :
    (s.declineTake g).nodes = s.nodes ∧ (s.declineTake g).exchanges = s.exchanges ∧ (s.declineTake g).store = s.store
      ∧ (s.declineTake g).channels = s.channels ∧ (s.declineTake g).monitor = s.monitor
      ∧ (s.declineTake g).alerts = s.alerts ∧ (s.declineTake g).active = s.active ∧ (s.declineTake g).staged = s.staged
      ∧ (s.declineTake g).array = s.array ∧ (s.declineTake g).saving = s.saving ∧ (s.declineTake g).clock = s.clock
      ∧ (s.declineTake g).resetAsserted = s.resetAsserted ∧ (s.declineTake g).powered = s.powered
      ∧ (s.declineTake g).pending = s.pending ∧ (∀ x : NodeId, (s.declineTake g).node x = s.node x)
      ∧ (∀ d : ChanId, (s.declineTake g).chan d = s.chan d) ∧ (∀ x : NodeId, (s.declineTake g).exchange x = s.exchange x)
      ∧ (∀ k : GroupId, k ≠ g → (s.declineTake g).group k = s.group k) := by
  refine ⟨?_, ?_, ?_, ?_, ?_, ?_, ?_, ?_, ?_, ?_, ?_, ?_, ?_, ?_, ?_, ?_, ?_, ?_⟩ <;> (intros; simp only [State.declineTake]; (repeat' split) <;> simp_all)

@[simp] theorem State.acceptTake_frame (s : State) (g : GroupId) :
    (s.acceptTake g).nodes = s.nodes ∧ (s.acceptTake g).exchanges = s.exchanges ∧ (s.acceptTake g).store = s.store
      ∧ (s.acceptTake g).channels = s.channels ∧ (s.acceptTake g).monitor = s.monitor ∧ (s.acceptTake g).active = s.active
      ∧ (s.acceptTake g).staged = s.staged ∧ (s.acceptTake g).array = s.array ∧ (s.acceptTake g).saving = s.saving
      ∧ (s.acceptTake g).clock = s.clock ∧ (s.acceptTake g).resetAsserted = s.resetAsserted
      ∧ (s.acceptTake g).powered = s.powered ∧ (s.acceptTake g).pending = s.pending
      ∧ (∀ x : NodeId, (s.acceptTake g).node x = s.node x) ∧ (∀ d : ChanId, (s.acceptTake g).chan d = s.chan d)
      ∧ (∀ x : NodeId, (s.acceptTake g).exchange x = s.exchange x)
      ∧ (∀ k : GroupId, k ≠ g → (s.acceptTake g).group k = s.group k) := by
  refine ⟨?_, ?_, ?_, ?_, ?_, ?_, ?_, ?_, ?_, ?_, ?_, ?_, ?_, ?_, ?_, ?_, ?_⟩ <;> (intros; simp only [State.acceptTake]; (repeat' split) <;> simp_all)

@[simp] theorem State.tellRole_frame (s : State) (g : GroupId) (n : Option NodeId) (r : Role) :
    (s.tellRole g n r).nodes = s.nodes ∧ (s.tellRole g n r).groups = s.groups ∧ (s.tellRole g n r).exchanges = s.exchanges
      ∧ (s.tellRole g n r).store = s.store ∧ (s.tellRole g n r).queue = s.queue ∧ (s.tellRole g n r).channels = s.channels
      ∧ (s.tellRole g n r).monitor = s.monitor ∧ (s.tellRole g n r).alerts = s.alerts
      ∧ (s.tellRole g n r).active = s.active ∧ (s.tellRole g n r).staged = s.staged ∧ (s.tellRole g n r).array = s.array
      ∧ (s.tellRole g n r).saving = s.saving ∧ (s.tellRole g n r).clock = s.clock
      ∧ (s.tellRole g n r).resetAsserted = s.resetAsserted ∧ (s.tellRole g n r).powered = s.powered
      ∧ (s.tellRole g n r).pending = s.pending ∧ (∀ x : NodeId, (s.tellRole g n r).node x = s.node x)
      ∧ (∀ k : GroupId, (s.tellRole g n r).group k = s.group k) ∧ (∀ d : ChanId, (s.tellRole g n r).chan d = s.chan d)
      ∧ (∀ x : NodeId, (s.tellRole g n r).exchange x = s.exchange x) := by
  refine ⟨?_, ?_, ?_, ?_, ?_, ?_, ?_, ?_, ?_, ?_, ?_, ?_, ?_, ?_, ?_, ?_, ?_, ?_, ?_, ?_⟩ <;> (intros; simp only [State.tellRole]; (repeat' split) <;> simp_all)

@[simp] theorem State.assignRoles_frame (s : State) (g : GroupId) (duty : NodeId) (standby : Option NodeId) :
    (s.assignRoles g duty standby).nodes = s.nodes ∧ (s.assignRoles g duty standby).supervisorPort = s.supervisorPort
      ∧ (s.assignRoles g duty standby).nodePorts = s.nodePorts ∧ (s.assignRoles g duty standby).exchanges = s.exchanges
      ∧ (s.assignRoles g duty standby).store = s.store ∧ (s.assignRoles g duty standby).channels = s.channels
      ∧ (s.assignRoles g duty standby).monitor = s.monitor ∧ (s.assignRoles g duty standby).alerts = s.alerts
      ∧ (s.assignRoles g duty standby).active = s.active ∧ (s.assignRoles g duty standby).staged = s.staged
      ∧ (s.assignRoles g duty standby).array = s.array ∧ (s.assignRoles g duty standby).saving = s.saving
      ∧ (s.assignRoles g duty standby).clock = s.clock ∧ (s.assignRoles g duty standby).resetAsserted = s.resetAsserted
      ∧ (s.assignRoles g duty standby).powered = s.powered ∧ (s.assignRoles g duty standby).pending = s.pending
      ∧ (∀ x : NodeId, (s.assignRoles g duty standby).node x = s.node x)
      ∧ (∀ d : ChanId, (s.assignRoles g duty standby).chan d = s.chan d)
      ∧ (∀ x : NodeId, (s.assignRoles g duty standby).exchange x = s.exchange x)
      ∧ (∀ l' : Link, (s.assignRoles g duty standby).port l' = s.port l')
      ∧ (∀ k : GroupId, k ≠ g → (s.assignRoles g duty standby).group k = s.group k) := by
  refine ⟨?_, ?_, ?_, ?_, ?_, ?_, ?_, ?_, ?_, ?_, ?_, ?_, ?_, ?_, ?_, ?_, ?_, ?_, ?_, ?_, ?_⟩ <;> (intros; simp only [State.assignRoles]; (repeat' split) <;> simp_all)

@[simp] theorem State.claimDuty_frame (s : State) (g : GroupId) (n : NodeId) :
    (s.claimDuty g n).nodes = s.nodes ∧ (s.claimDuty g n).exchanges = s.exchanges ∧ (s.claimDuty g n).store = s.store
      ∧ (s.claimDuty g n).channels = s.channels ∧ (s.claimDuty g n).monitor = s.monitor
      ∧ (s.claimDuty g n).alerts = s.alerts ∧ (s.claimDuty g n).active = s.active ∧ (s.claimDuty g n).staged = s.staged
      ∧ (s.claimDuty g n).array = s.array ∧ (s.claimDuty g n).saving = s.saving ∧ (s.claimDuty g n).clock = s.clock
      ∧ (s.claimDuty g n).resetAsserted = s.resetAsserted ∧ (s.claimDuty g n).powered = s.powered
      ∧ (s.claimDuty g n).pending = s.pending ∧ (∀ x : NodeId, (s.claimDuty g n).node x = s.node x)
      ∧ (∀ d : ChanId, (s.claimDuty g n).chan d = s.chan d) ∧ (∀ x : NodeId, (s.claimDuty g n).exchange x = s.exchange x)
      ∧ (∀ k : GroupId, k ≠ g → (s.claimDuty g n).group k = s.group k) := by
  refine ⟨?_, ?_, ?_, ?_, ?_, ?_, ?_, ?_, ?_, ?_, ?_, ?_, ?_, ?_, ?_, ?_, ?_, ?_⟩ <;> (intros; simp only [State.claimDuty]; (repeat' split) <;> simp_all)

@[simp] theorem State.resolveRoles_frame (s : State) (g : GroupId) :
    (s.resolveRoles g).nodes = s.nodes ∧ (s.resolveRoles g).store = s.store ∧ (s.resolveRoles g).channels = s.channels
      ∧ (s.resolveRoles g).monitor = s.monitor ∧ (s.resolveRoles g).active = s.active
      ∧ (s.resolveRoles g).staged = s.staged ∧ (s.resolveRoles g).array = s.array ∧ (s.resolveRoles g).saving = s.saving
      ∧ (s.resolveRoles g).clock = s.clock ∧ (s.resolveRoles g).resetAsserted = s.resetAsserted
      ∧ (s.resolveRoles g).powered = s.powered ∧ (s.resolveRoles g).pending = s.pending
      ∧ (∀ x : NodeId, (s.resolveRoles g).node x = s.node x) ∧ (∀ d : ChanId, (s.resolveRoles g).chan d = s.chan d)
      ∧ (∀ k : GroupId, k ≠ g → (s.resolveRoles g).group k = s.group k) := by
  refine ⟨?_, ?_, ?_, ?_, ?_, ?_, ?_, ?_, ?_, ?_, ?_, ?_, ?_, ?_, ?_⟩ <;> (intros; simp only [State.resolveRoles]; (repeat' split) <;> simp_all)

@[simp] theorem State.resolveIfKnown_frame (s : State) (g : GroupId) :
    (s.resolveIfKnown g).nodes = s.nodes ∧ (s.resolveIfKnown g).store = s.store
      ∧ (s.resolveIfKnown g).channels = s.channels ∧ (s.resolveIfKnown g).monitor = s.monitor
      ∧ (s.resolveIfKnown g).active = s.active ∧ (s.resolveIfKnown g).staged = s.staged
      ∧ (s.resolveIfKnown g).array = s.array ∧ (s.resolveIfKnown g).saving = s.saving
      ∧ (s.resolveIfKnown g).clock = s.clock ∧ (s.resolveIfKnown g).resetAsserted = s.resetAsserted
      ∧ (s.resolveIfKnown g).powered = s.powered ∧ (s.resolveIfKnown g).pending = s.pending
      ∧ (∀ x : NodeId, (s.resolveIfKnown g).node x = s.node x) ∧ (∀ d : ChanId, (s.resolveIfKnown g).chan d = s.chan d)
      ∧ (∀ k : GroupId, k ≠ g → (s.resolveIfKnown g).group k = s.group k) := by
  refine ⟨?_, ?_, ?_, ?_, ?_, ?_, ?_, ?_, ?_, ?_, ?_, ?_, ?_, ?_, ?_⟩ <;> (intros; simp only [State.resolveIfKnown]; (repeat' split) <;> simp_all)

@[simp] theorem State.noteLeftUnknown_frame (s : State) (n : NodeId) :
    (s.noteLeftUnknown n).nodes = s.nodes ∧ (s.noteLeftUnknown n).store = s.store
      ∧ (s.noteLeftUnknown n).channels = s.channels ∧ (s.noteLeftUnknown n).monitor = s.monitor
      ∧ (s.noteLeftUnknown n).active = s.active ∧ (s.noteLeftUnknown n).staged = s.staged
      ∧ (s.noteLeftUnknown n).array = s.array ∧ (s.noteLeftUnknown n).saving = s.saving
      ∧ (s.noteLeftUnknown n).clock = s.clock ∧ (s.noteLeftUnknown n).resetAsserted = s.resetAsserted
      ∧ (s.noteLeftUnknown n).powered = s.powered ∧ (s.noteLeftUnknown n).pending = s.pending
      ∧ (∀ x : NodeId, (s.noteLeftUnknown n).node x = s.node x) ∧ (∀ d : ChanId, (s.noteLeftUnknown n).chan d = s.chan d) := by
  refine ⟨?_, ?_, ?_, ?_, ?_, ?_, ?_, ?_, ?_, ?_, ?_, ?_, ?_, ?_⟩ <;> (intros; simp only [State.noteLeftUnknown]; (repeat' split) <;> simp_all)

@[simp] theorem State.noteAcquired_frame (s : State) (n : NodeId) (claim : Option Role) :
    (s.noteAcquired n claim).nodes = s.nodes ∧ (s.noteAcquired n claim).store = s.store
      ∧ (s.noteAcquired n claim).channels = s.channels ∧ (s.noteAcquired n claim).monitor = s.monitor
      ∧ (s.noteAcquired n claim).active = s.active ∧ (s.noteAcquired n claim).staged = s.staged
      ∧ (s.noteAcquired n claim).array = s.array ∧ (s.noteAcquired n claim).saving = s.saving
      ∧ (s.noteAcquired n claim).clock = s.clock ∧ (s.noteAcquired n claim).resetAsserted = s.resetAsserted
      ∧ (s.noteAcquired n claim).powered = s.powered ∧ (s.noteAcquired n claim).pending = s.pending
      ∧ (∀ x : NodeId, (s.noteAcquired n claim).node x = s.node x)
      ∧ (∀ d : ChanId, (s.noteAcquired n claim).chan d = s.chan d) := by
  refine ⟨?_, ?_, ?_, ?_, ?_, ?_, ?_, ?_, ?_, ?_, ?_, ?_, ?_, ?_⟩ <;> (intros; simp only [State.noteAcquired]; (repeat' split) <;> simp_all)

@[simp] theorem State.noteLeftService_frame (s : State) (n : NodeId) :
    (s.noteLeftService n).nodes = s.nodes ∧ (s.noteLeftService n).store = s.store
      ∧ (s.noteLeftService n).channels = s.channels ∧ (s.noteLeftService n).monitor = s.monitor
      ∧ (s.noteLeftService n).active = s.active ∧ (s.noteLeftService n).staged = s.staged
      ∧ (s.noteLeftService n).array = s.array ∧ (s.noteLeftService n).saving = s.saving
      ∧ (s.noteLeftService n).clock = s.clock ∧ (s.noteLeftService n).resetAsserted = s.resetAsserted
      ∧ (s.noteLeftService n).powered = s.powered ∧ (s.noteLeftService n).pending = s.pending
      ∧ (∀ x : NodeId, (s.noteLeftService n).node x = s.node x) ∧ (∀ d : ChanId, (s.noteLeftService n).chan d = s.chan d) := by
  refine ⟨?_, ?_, ?_, ?_, ?_, ?_, ?_, ?_, ?_, ?_, ?_, ?_, ?_, ?_⟩ <;> (intros; simp only [State.noteLeftService]; (repeat' split) <;> simp_all)

@[simp] theorem State.noteStandbyRunning_frame (s : State) (n : NodeId) :
    (s.noteStandbyRunning n).nodes = s.nodes ∧ (s.noteStandbyRunning n).store = s.store
      ∧ (s.noteStandbyRunning n).queue = s.queue ∧ (s.noteStandbyRunning n).channels = s.channels
      ∧ (s.noteStandbyRunning n).monitor = s.monitor ∧ (s.noteStandbyRunning n).alerts = s.alerts
      ∧ (s.noteStandbyRunning n).active = s.active ∧ (s.noteStandbyRunning n).staged = s.staged
      ∧ (s.noteStandbyRunning n).array = s.array ∧ (s.noteStandbyRunning n).saving = s.saving
      ∧ (s.noteStandbyRunning n).clock = s.clock ∧ (s.noteStandbyRunning n).resetAsserted = s.resetAsserted
      ∧ (s.noteStandbyRunning n).powered = s.powered ∧ (s.noteStandbyRunning n).pending = s.pending
      ∧ (∀ x : NodeId, (s.noteStandbyRunning n).node x = s.node x)
      ∧ (∀ d : ChanId, (s.noteStandbyRunning n).chan d = s.chan d) := by
  refine ⟨?_, ?_, ?_, ?_, ?_, ?_, ?_, ?_, ?_, ?_, ?_, ?_, ?_, ?_, ?_, ?_⟩ <;> (intros; simp only [State.noteStandbyRunning]; (repeat' split) <;> simp_all)

@[simp] theorem State.noteResumed_frame (s : State) (n : NodeId) :
    (s.noteResumed n).nodes = s.nodes ∧ (s.noteResumed n).supervisorPort = s.supervisorPort
      ∧ (s.noteResumed n).nodePorts = s.nodePorts ∧ (s.noteResumed n).exchanges = s.exchanges
      ∧ (s.noteResumed n).store = s.store ∧ (s.noteResumed n).channels = s.channels
      ∧ (s.noteResumed n).monitor = s.monitor ∧ (s.noteResumed n).alerts = s.alerts ∧ (s.noteResumed n).active = s.active
      ∧ (s.noteResumed n).staged = s.staged ∧ (s.noteResumed n).array = s.array ∧ (s.noteResumed n).saving = s.saving
      ∧ (s.noteResumed n).clock = s.clock ∧ (s.noteResumed n).resetAsserted = s.resetAsserted
      ∧ (s.noteResumed n).powered = s.powered ∧ (s.noteResumed n).pending = s.pending
      ∧ (∀ x : NodeId, (s.noteResumed n).node x = s.node x) ∧ (∀ d : ChanId, (s.noteResumed n).chan d = s.chan d)
      ∧ (∀ x : NodeId, (s.noteResumed n).exchange x = s.exchange x) ∧ (∀ l' : Link, (s.noteResumed n).port l' = s.port l') := by
  refine ⟨?_, ?_, ?_, ?_, ?_, ?_, ?_, ?_, ?_, ?_, ?_, ?_, ?_, ?_, ?_, ?_, ?_, ?_, ?_, ?_⟩ <;> (intros; simp only [State.noteResumed]; (repeat' split) <;> simp_all)

@[simp] theorem State.reportTrip_frame (s : State) (g : GroupId) :
    (s.reportTrip g).nodes = s.nodes ∧ (s.reportTrip g).store = s.store ∧ (s.reportTrip g).channels = s.channels
      ∧ (s.reportTrip g).monitor = s.monitor ∧ (s.reportTrip g).alerts = s.alerts ∧ (s.reportTrip g).active = s.active
      ∧ (s.reportTrip g).staged = s.staged ∧ (s.reportTrip g).array = s.array ∧ (s.reportTrip g).saving = s.saving
      ∧ (s.reportTrip g).clock = s.clock ∧ (s.reportTrip g).resetAsserted = s.resetAsserted
      ∧ (s.reportTrip g).powered = s.powered ∧ (s.reportTrip g).pending = s.pending
      ∧ (∀ x : NodeId, (s.reportTrip g).node x = s.node x) ∧ (∀ d : ChanId, (s.reportTrip g).chan d = s.chan d)
      ∧ (∀ k : GroupId, k ≠ g → (s.reportTrip g).group k = s.group k) := by
  refine ⟨?_, ?_, ?_, ?_, ?_, ?_, ?_, ?_, ?_, ?_, ?_, ?_, ?_, ?_, ?_, ?_⟩ <;> (intros; simp only [State.reportTrip]; (repeat' split) <;> simp_all)

end Sys2Proof.Machine
end

