-- ==== Sys2Proof/Laws/FrameNode.lean ====
section
/-! SUPPORT. What the operations of Machine/Node.lean leave unchanged: one lemma per operation. -/

namespace Sys2Proof.Machine

set_option linter.all false

@[simp] theorem State.dropOpenRecord_frame (s : State) (n : NodeId) (answered : Bool) :
    (s.dropOpenRecord n answered).groups = s.groups ∧ (s.dropOpenRecord n answered).exchanges = s.exchanges
      ∧ (s.dropOpenRecord n answered).queue = s.queue ∧ (s.dropOpenRecord n answered).channels = s.channels
      ∧ (s.dropOpenRecord n answered).monitor = s.monitor ∧ (s.dropOpenRecord n answered).alerts = s.alerts
      ∧ (s.dropOpenRecord n answered).active = s.active ∧ (s.dropOpenRecord n answered).staged = s.staged
      ∧ (s.dropOpenRecord n answered).array = s.array ∧ (s.dropOpenRecord n answered).saving = s.saving
      ∧ (s.dropOpenRecord n answered).clock = s.clock ∧ (s.dropOpenRecord n answered).resetAsserted = s.resetAsserted
      ∧ (s.dropOpenRecord n answered).powered = s.powered ∧ (s.dropOpenRecord n answered).pending = s.pending
      ∧ (∀ d : ChanId, (s.dropOpenRecord n answered).chan d = s.chan d)
      ∧ (∀ x : NodeId, (s.dropOpenRecord n answered).exchange x = s.exchange x)
      ∧ (s.dropOpenRecord n answered).store.pool = s.store.pool ∧ (s.dropOpenRecord n answered).store.gens = s.store.gens
      ∧ (∀ l' : Link, l' ≠ .node n → (s.dropOpenRecord n answered).port l' = s.port l')
      ∧ (∀ x : NodeId, ((s.dropOpenRecord n answered).node x).state = (s.node x).state)
      ∧ (∀ x : NodeId, ((s.dropOpenRecord n answered).node x).attempts = (s.node x).attempts)
      ∧ (∀ x : NodeId, ((s.dropOpenRecord n answered).node x).channel = (s.node x).channel) := by
  refine ⟨?_, ?_, ?_, ?_, ?_, ?_, ?_, ?_, ?_, ?_, ?_, ?_, ?_, ?_, ?_, ?_, ?_, ?_, ?_, ?_, ?_, ?_⟩
  iterate 19 (intros; simp only [State.dropOpenRecord]; (repeat' split) <;> simp_all)
  all_goals (intros; simp only [State.dropOpenRecord]; (repeat' split) <;> simp_all [State.modNode, State.node_setNode] <;> (repeat' split) <;> simp_all)

@[simp] theorem State.leaveService_frame (s : State) (n : NodeId) (answered : Bool) :
    (s.leaveService n answered).groups = s.groups ∧ (s.leaveService n answered).exchanges = s.exchanges
      ∧ (s.leaveService n answered).queue = s.queue ∧ (s.leaveService n answered).channels = s.channels
      ∧ (s.leaveService n answered).monitor = s.monitor ∧ (s.leaveService n answered).alerts = s.alerts
      ∧ (s.leaveService n answered).active = s.active ∧ (s.leaveService n answered).staged = s.staged
      ∧ (s.leaveService n answered).array = s.array ∧ (s.leaveService n answered).saving = s.saving
      ∧ (s.leaveService n answered).clock = s.clock ∧ (s.leaveService n answered).resetAsserted = s.resetAsserted
      ∧ (s.leaveService n answered).powered = s.powered ∧ (s.leaveService n answered).pending = s.pending
      ∧ (∀ d : ChanId, (s.leaveService n answered).chan d = s.chan d)
      ∧ (∀ x : NodeId, (s.leaveService n answered).exchange x = s.exchange x)
      ∧ (s.leaveService n answered).store.pool = s.store.pool ∧ (s.leaveService n answered).store.gens = s.store.gens
      ∧ (∀ l' : Link, l' ≠ .node n → (s.leaveService n answered).port l' = s.port l')
      ∧ (∀ x : NodeId, ((s.leaveService n answered).node x).state = (s.node x).state)
      ∧ (∀ x : NodeId, ((s.leaveService n answered).node x).attempts = (s.node x).attempts)
      ∧ (∀ x : NodeId, ((s.leaveService n answered).node x).channel = (s.node x).channel) := by
  refine ⟨?_, ?_, ?_, ?_, ?_, ?_, ?_, ?_, ?_, ?_, ?_, ?_, ?_, ?_, ?_, ?_, ?_, ?_, ?_, ?_, ?_, ?_⟩
  iterate 19 (intros; simp only [State.leaveService]; (repeat' split) <;> simp_all)
  all_goals (intros; simp only [State.leaveService]; (repeat' split) <;> simp_all [State.modNode, State.node_setNode] <;> (repeat' split) <;> simp_all)

@[simp] theorem State.enterHalted_frame (s : State) (n : NodeId) :
    (s.enterHalted n).groups = s.groups ∧ (s.enterHalted n).supervisorPort = s.supervisorPort
      ∧ (s.enterHalted n).nodePorts = s.nodePorts ∧ (s.enterHalted n).exchanges = s.exchanges
      ∧ (s.enterHalted n).store = s.store ∧ (s.enterHalted n).queue = s.queue ∧ (s.enterHalted n).channels = s.channels
      ∧ (s.enterHalted n).monitor = s.monitor ∧ (s.enterHalted n).active = s.active ∧ (s.enterHalted n).staged = s.staged
      ∧ (s.enterHalted n).array = s.array ∧ (s.enterHalted n).saving = s.saving ∧ (s.enterHalted n).clock = s.clock
      ∧ (s.enterHalted n).resetAsserted = s.resetAsserted ∧ (s.enterHalted n).powered = s.powered
      ∧ (s.enterHalted n).pending = s.pending ∧ (∀ k : GroupId, (s.enterHalted n).group k = s.group k)
      ∧ (∀ d : ChanId, (s.enterHalted n).chan d = s.chan d) ∧ (∀ x : NodeId, (s.enterHalted n).exchange x = s.exchange x)
      ∧ (∀ l' : Link, (s.enterHalted n).port l' = s.port l') ∧ (∀ x : NodeId, x ≠ n → (s.enterHalted n).node x = s.node x) := by
  refine ⟨?_, ?_, ?_, ?_, ?_, ?_, ?_, ?_, ?_, ?_, ?_, ?_, ?_, ?_, ?_, ?_, ?_, ?_, ?_, ?_, ?_⟩ <;> (intros; simp only [State.enterHalted]; (repeat' split) <;> simp_all)

@[simp] theorem State.enterBoot_frame (s : State) (n : NodeId) :
    (s.enterBoot n).groups = s.groups ∧ (s.enterBoot n).supervisorPort = s.supervisorPort
      ∧ (s.enterBoot n).nodePorts = s.nodePorts ∧ (s.enterBoot n).exchanges = s.exchanges
      ∧ (s.enterBoot n).store = s.store ∧ (s.enterBoot n).queue = s.queue ∧ (s.enterBoot n).channels = s.channels
      ∧ (s.enterBoot n).monitor = s.monitor ∧ (s.enterBoot n).active = s.active ∧ (s.enterBoot n).staged = s.staged
      ∧ (s.enterBoot n).array = s.array ∧ (s.enterBoot n).saving = s.saving ∧ (s.enterBoot n).clock = s.clock
      ∧ (s.enterBoot n).resetAsserted = s.resetAsserted ∧ (s.enterBoot n).powered = s.powered
      ∧ (s.enterBoot n).pending = s.pending ∧ (∀ k : GroupId, (s.enterBoot n).group k = s.group k)
      ∧ (∀ d : ChanId, (s.enterBoot n).chan d = s.chan d) ∧ (∀ x : NodeId, (s.enterBoot n).exchange x = s.exchange x)
      ∧ (∀ l' : Link, (s.enterBoot n).port l' = s.port l') ∧ (∀ x : NodeId, x ≠ n → (s.enterBoot n).node x = s.node x) := by
  refine ⟨?_, ?_, ?_, ?_, ?_, ?_, ?_, ?_, ?_, ?_, ?_, ?_, ?_, ?_, ?_, ?_, ?_, ?_, ?_, ?_, ?_⟩ <;> (intros; simp only [State.enterBoot]; (repeat' split) <;> simp_all)

@[simp] theorem State.beginRestart_frame (s : State) (n : NodeId) (why : DriveReason) :
    (s.beginRestart n why).groups = s.groups ∧ (s.beginRestart n why).supervisorPort = s.supervisorPort
      ∧ (s.beginRestart n why).nodePorts = s.nodePorts ∧ (s.beginRestart n why).exchanges = s.exchanges
      ∧ (s.beginRestart n why).store = s.store ∧ (s.beginRestart n why).queue = s.queue
      ∧ (s.beginRestart n why).channels = s.channels ∧ (s.beginRestart n why).monitor = s.monitor
      ∧ (s.beginRestart n why).active = s.active ∧ (s.beginRestart n why).staged = s.staged
      ∧ (s.beginRestart n why).array = s.array ∧ (s.beginRestart n why).saving = s.saving
      ∧ (s.beginRestart n why).clock = s.clock ∧ (s.beginRestart n why).resetAsserted = s.resetAsserted
      ∧ (s.beginRestart n why).powered = s.powered ∧ (s.beginRestart n why).pending = s.pending
      ∧ (∀ k : GroupId, (s.beginRestart n why).group k = s.group k)
      ∧ (∀ d : ChanId, (s.beginRestart n why).chan d = s.chan d)
      ∧ (∀ x : NodeId, (s.beginRestart n why).exchange x = s.exchange x)
      ∧ (∀ l' : Link, (s.beginRestart n why).port l' = s.port l')
      ∧ (∀ x : NodeId, x ≠ n → (s.beginRestart n why).node x = s.node x) := by
  refine ⟨?_, ?_, ?_, ?_, ?_, ?_, ?_, ?_, ?_, ?_, ?_, ?_, ?_, ?_, ?_, ?_, ?_, ?_, ?_, ?_, ?_⟩ <;> (intros; simp only [State.beginRestart]; (repeat' split) <;> simp_all)

@[simp] theorem State.restartFromService_frame (s : State) (n : NodeId) (why : DriveReason) :
    (s.restartFromService n why).channels = s.channels ∧ (s.restartFromService n why).monitor = s.monitor
      ∧ (s.restartFromService n why).active = s.active ∧ (s.restartFromService n why).staged = s.staged
      ∧ (s.restartFromService n why).array = s.array ∧ (s.restartFromService n why).saving = s.saving
      ∧ (s.restartFromService n why).clock = s.clock ∧ (s.restartFromService n why).resetAsserted = s.resetAsserted
      ∧ (s.restartFromService n why).powered = s.powered ∧ (s.restartFromService n why).pending = s.pending
      ∧ (∀ d : ChanId, (s.restartFromService n why).chan d = s.chan d)
      ∧ (s.restartFromService n why).store.pool = s.store.pool ∧ (s.restartFromService n why).store.gens = s.store.gens := by
  refine ⟨?_, ?_, ?_, ?_, ?_, ?_, ?_, ?_, ?_, ?_, ?_, ?_, ?_⟩ <;> (intros; simp only [State.restartFromService]; (repeat' split) <;> simp_all)

@[simp] theorem State.lapseNode_frame (s : State) (n : NodeId) :
    (s.lapseNode n).channels = s.channels ∧ (s.lapseNode n).monitor = s.monitor ∧ (s.lapseNode n).active = s.active
      ∧ (s.lapseNode n).staged = s.staged ∧ (s.lapseNode n).array = s.array ∧ (s.lapseNode n).saving = s.saving
      ∧ (s.lapseNode n).clock = s.clock ∧ (s.lapseNode n).resetAsserted = s.resetAsserted
      ∧ (s.lapseNode n).powered = s.powered ∧ (s.lapseNode n).pending = s.pending
      ∧ (∀ d : ChanId, (s.lapseNode n).chan d = s.chan d) ∧ (s.lapseNode n).store.pool = s.store.pool
      ∧ (s.lapseNode n).store.gens = s.store.gens := by
  refine ⟨?_, ?_, ?_, ?_, ?_, ?_, ?_, ?_, ?_, ?_, ?_, ?_, ?_⟩ <;> (intros; simp only [State.lapseNode]; (repeat' split) <;> simp_all)

@[simp] theorem State.failedAfterHello_frame (s : State) (n : NodeId) :
    (s.failedAfterHello n).groups = s.groups ∧ (s.failedAfterHello n).supervisorPort = s.supervisorPort
      ∧ (s.failedAfterHello n).nodePorts = s.nodePorts ∧ (s.failedAfterHello n).exchanges = s.exchanges
      ∧ (s.failedAfterHello n).store = s.store ∧ (s.failedAfterHello n).queue = s.queue
      ∧ (s.failedAfterHello n).channels = s.channels ∧ (s.failedAfterHello n).monitor = s.monitor
      ∧ (s.failedAfterHello n).active = s.active ∧ (s.failedAfterHello n).staged = s.staged
      ∧ (s.failedAfterHello n).array = s.array ∧ (s.failedAfterHello n).saving = s.saving
      ∧ (s.failedAfterHello n).clock = s.clock ∧ (s.failedAfterHello n).resetAsserted = s.resetAsserted
      ∧ (s.failedAfterHello n).powered = s.powered ∧ (s.failedAfterHello n).pending = s.pending
      ∧ (∀ k : GroupId, (s.failedAfterHello n).group k = s.group k)
      ∧ (∀ d : ChanId, (s.failedAfterHello n).chan d = s.chan d)
      ∧ (∀ x : NodeId, (s.failedAfterHello n).exchange x = s.exchange x)
      ∧ (∀ l' : Link, (s.failedAfterHello n).port l' = s.port l')
      ∧ (∀ x : NodeId, x ≠ n → (s.failedAfterHello n).node x = s.node x) := by
  refine ⟨?_, ?_, ?_, ?_, ?_, ?_, ?_, ?_, ?_, ?_, ?_, ?_, ?_, ?_, ?_, ?_, ?_, ?_, ?_, ?_, ?_⟩ <;> (intros; simp only [State.failedAfterHello]; (repeat' split) <;> simp_all)

@[simp] theorem State.enterSettling_frame (s : State) (n : NodeId) (m : SettleMark) :
    (s.enterSettling n m).groups = s.groups ∧ (s.enterSettling n m).supervisorPort = s.supervisorPort
      ∧ (s.enterSettling n m).nodePorts = s.nodePorts ∧ (s.enterSettling n m).exchanges = s.exchanges
      ∧ (s.enterSettling n m).store = s.store ∧ (s.enterSettling n m).queue = s.queue
      ∧ (s.enterSettling n m).channels = s.channels ∧ (s.enterSettling n m).monitor = s.monitor
      ∧ (s.enterSettling n m).alerts = s.alerts ∧ (s.enterSettling n m).active = s.active
      ∧ (s.enterSettling n m).staged = s.staged ∧ (s.enterSettling n m).array = s.array
      ∧ (s.enterSettling n m).saving = s.saving ∧ (s.enterSettling n m).clock = s.clock
      ∧ (s.enterSettling n m).resetAsserted = s.resetAsserted ∧ (s.enterSettling n m).powered = s.powered
      ∧ (s.enterSettling n m).pending = s.pending ∧ (∀ k : GroupId, (s.enterSettling n m).group k = s.group k)
      ∧ (∀ d : ChanId, (s.enterSettling n m).chan d = s.chan d)
      ∧ (∀ x : NodeId, (s.enterSettling n m).exchange x = s.exchange x)
      ∧ (∀ l' : Link, (s.enterSettling n m).port l' = s.port l')
      ∧ (∀ x : NodeId, x ≠ n → (s.enterSettling n m).node x = s.node x) := by
  refine ⟨?_, ?_, ?_, ?_, ?_, ?_, ?_, ?_, ?_, ?_, ?_, ?_, ?_, ?_, ?_, ?_, ?_, ?_, ?_, ?_, ?_, ?_⟩ <;> (intros; simp only [State.enterSettling]; (repeat' split) <;> simp_all)

@[simp] theorem State.takeHello_frame (s : State) (n : NodeId) (p : List Byte) :
    (s.takeHello n p).groups = s.groups ∧ (s.takeHello n p).supervisorPort = s.supervisorPort
      ∧ (s.takeHello n p).nodePorts = s.nodePorts ∧ (s.takeHello n p).exchanges = s.exchanges
      ∧ (s.takeHello n p).store = s.store ∧ (s.takeHello n p).queue = s.queue ∧ (s.takeHello n p).channels = s.channels
      ∧ (s.takeHello n p).monitor = s.monitor ∧ (s.takeHello n p).alerts = s.alerts ∧ (s.takeHello n p).active = s.active
      ∧ (s.takeHello n p).staged = s.staged ∧ (s.takeHello n p).array = s.array ∧ (s.takeHello n p).saving = s.saving
      ∧ (s.takeHello n p).clock = s.clock ∧ (s.takeHello n p).resetAsserted = s.resetAsserted
      ∧ (s.takeHello n p).powered = s.powered ∧ (s.takeHello n p).pending = s.pending
      ∧ (∀ k : GroupId, (s.takeHello n p).group k = s.group k) ∧ (∀ d : ChanId, (s.takeHello n p).chan d = s.chan d)
      ∧ (∀ x : NodeId, (s.takeHello n p).exchange x = s.exchange x) ∧ (∀ l' : Link, (s.takeHello n p).port l' = s.port l')
      ∧ (∀ x : NodeId, x ≠ n → (s.takeHello n p).node x = s.node x) := by
  refine ⟨?_, ?_, ?_, ?_, ?_, ?_, ?_, ?_, ?_, ?_, ?_, ?_, ?_, ?_, ?_, ?_, ?_, ?_, ?_, ?_, ?_, ?_⟩ <;> (intros; simp only [State.takeHello]; (repeat' split) <;> simp_all)

@[simp] theorem State.giveVerdict_frame (s : State) (n : NodeId) :
    (s.giveVerdict n).groups = s.groups ∧ (s.giveVerdict n).exchanges = s.exchanges ∧ (s.giveVerdict n).store = s.store
      ∧ (s.giveVerdict n).queue = s.queue ∧ (s.giveVerdict n).channels = s.channels
      ∧ (s.giveVerdict n).monitor = s.monitor ∧ (s.giveVerdict n).active = s.active ∧ (s.giveVerdict n).staged = s.staged
      ∧ (s.giveVerdict n).array = s.array ∧ (s.giveVerdict n).saving = s.saving ∧ (s.giveVerdict n).clock = s.clock
      ∧ (s.giveVerdict n).resetAsserted = s.resetAsserted ∧ (s.giveVerdict n).powered = s.powered
      ∧ (s.giveVerdict n).pending = s.pending ∧ (∀ d : ChanId, (s.giveVerdict n).chan d = s.chan d)
      ∧ (∀ x : NodeId, (s.giveVerdict n).exchange x = s.exchange x)
      ∧ (∀ x : NodeId, x ≠ n → (s.giveVerdict n).node x = s.node x)
      ∧ (∀ l' : Link, l' ≠ .node n → (s.giveVerdict n).port l' = s.port l') := by
  refine ⟨?_, ?_, ?_, ?_, ?_, ?_, ?_, ?_, ?_, ?_, ?_, ?_, ?_, ?_, ?_, ?_, ?_, ?_⟩ <;> (intros; simp only [State.giveVerdict]; (repeat' split) <;> simp_all)

@[simp] theorem State.queueIfWarm_frame (s : State) (n : NodeId) :
    (s.queueIfWarm n).groups = s.groups ∧ (s.queueIfWarm n).supervisorPort = s.supervisorPort
      ∧ (s.queueIfWarm n).nodePorts = s.nodePorts ∧ (s.queueIfWarm n).exchanges = s.exchanges
      ∧ (s.queueIfWarm n).monitor = s.monitor ∧ (s.queueIfWarm n).alerts = s.alerts ∧ (s.queueIfWarm n).active = s.active
      ∧ (s.queueIfWarm n).staged = s.staged ∧ (s.queueIfWarm n).array = s.array ∧ (s.queueIfWarm n).saving = s.saving
      ∧ (s.queueIfWarm n).clock = s.clock ∧ (s.queueIfWarm n).resetAsserted = s.resetAsserted
      ∧ (s.queueIfWarm n).powered = s.powered ∧ (s.queueIfWarm n).pending = s.pending
      ∧ (∀ k : GroupId, (s.queueIfWarm n).group k = s.group k)
      ∧ (∀ x : NodeId, (s.queueIfWarm n).exchange x = s.exchange x) ∧ (∀ l' : Link, (s.queueIfWarm n).port l' = s.port l')
      ∧ (s.queueIfWarm n).store.pool = s.store.pool ∧ (s.queueIfWarm n).store.gens = s.store.gens
      ∧ (∀ x : NodeId, ((s.queueIfWarm n).node x).attempts = (s.node x).attempts) := by
  refine ⟨?_, ?_, ?_, ?_, ?_, ?_, ?_, ?_, ?_, ?_, ?_, ?_, ?_, ?_, ?_, ?_, ?_, ?_, ?_, ?_⟩
  iterate 19 (intros; simp only [State.queueIfWarm]; (repeat' split) <;> simp_all)
  all_goals (intros; simp only [State.queueIfWarm]; (repeat' split) <;> simp_all [State.modNode, State.node_setNode] <;> (repeat' split) <;> simp_all)

@[simp] theorem State.silentAbort_frame (s : State) (n : NodeId) :
    (s.silentAbort n).groups = s.groups ∧ (s.silentAbort n).supervisorPort = s.supervisorPort
      ∧ (s.silentAbort n).nodePorts = s.nodePorts ∧ (s.silentAbort n).monitor = s.monitor
      ∧ (s.silentAbort n).alerts = s.alerts ∧ (s.silentAbort n).active = s.active ∧ (s.silentAbort n).staged = s.staged
      ∧ (s.silentAbort n).array = s.array ∧ (s.silentAbort n).saving = s.saving ∧ (s.silentAbort n).clock = s.clock
      ∧ (s.silentAbort n).resetAsserted = s.resetAsserted ∧ (s.silentAbort n).powered = s.powered
      ∧ (s.silentAbort n).pending = s.pending ∧ (∀ k : GroupId, (s.silentAbort n).group k = s.group k)
      ∧ (∀ l' : Link, (s.silentAbort n).port l' = s.port l') ∧ (s.silentAbort n).store.pool = s.store.pool
      ∧ (s.silentAbort n).store.gens = s.store.gens
      ∧ (∀ x : NodeId, ((s.silentAbort n).node x).attempts = (s.node x).attempts) := by
  refine ⟨?_, ?_, ?_, ?_, ?_, ?_, ?_, ?_, ?_, ?_, ?_, ?_, ?_, ?_, ?_, ?_, ?_, ?_⟩
  iterate 17 (intros; simp only [State.silentAbort]; (repeat' split) <;> simp_all)
  all_goals (intros; simp only [State.silentAbort]; (repeat' split) <;> simp_all [State.modNode, State.node_setNode] <;> (repeat' split) <;> simp_all)

@[simp] theorem State.endForHello_frame (s : State) (n : NodeId) :
    (s.endForHello n).groups = s.groups ∧ (s.endForHello n).monitor = s.monitor ∧ (s.endForHello n).alerts = s.alerts
      ∧ (s.endForHello n).active = s.active ∧ (s.endForHello n).staged = s.staged ∧ (s.endForHello n).array = s.array
      ∧ (s.endForHello n).saving = s.saving ∧ (s.endForHello n).clock = s.clock
      ∧ (s.endForHello n).resetAsserted = s.resetAsserted ∧ (s.endForHello n).powered = s.powered
      ∧ (s.endForHello n).pending = s.pending ∧ (s.endForHello n).store.pool = s.store.pool
      ∧ (s.endForHello n).store.gens = s.store.gens ∧ (∀ l' : Link, l' ≠ .node n → (s.endForHello n).port l' = s.port l')
      ∧ (∀ x : NodeId, ((s.endForHello n).node x).attempts = (s.node x).attempts) := by
  refine ⟨?_, ?_, ?_, ?_, ?_, ?_, ?_, ?_, ?_, ?_, ?_, ?_, ?_, ?_, ?_⟩
  iterate 14 (intros; simp only [State.endForHello]; (repeat' split) <;> simp_all)
  all_goals (intros; simp only [State.endForHello]; (repeat' split) <;> simp_all [State.modNode, State.node_setNode] <;> (repeat' split) <;> simp_all)

@[simp] theorem State.unannounced_frame (s : State) (n : NodeId) (p : List Byte) :
    (s.unannounced n p).monitor = s.monitor ∧ (s.unannounced n p).active = s.active
      ∧ (s.unannounced n p).staged = s.staged ∧ (s.unannounced n p).array = s.array
      ∧ (s.unannounced n p).saving = s.saving ∧ (s.unannounced n p).clock = s.clock
      ∧ (s.unannounced n p).resetAsserted = s.resetAsserted ∧ (s.unannounced n p).powered = s.powered
      ∧ (s.unannounced n p).pending = s.pending ∧ (s.unannounced n p).store.pool = s.store.pool
      ∧ (s.unannounced n p).store.gens = s.store.gens := by
  refine ⟨?_, ?_, ?_, ?_, ?_, ?_, ?_, ?_, ?_, ?_, ?_⟩ <;> (intros; simp only [State.unannounced]; (repeat' split) <;> simp_all)

@[simp] theorem State.helloTaken_frame (s : State) (n : NodeId) (p : List Byte) :
    (s.helloTaken n p).monitor = s.monitor ∧ (s.helloTaken n p).active = s.active ∧ (s.helloTaken n p).staged = s.staged
      ∧ (s.helloTaken n p).array = s.array ∧ (s.helloTaken n p).saving = s.saving ∧ (s.helloTaken n p).clock = s.clock
      ∧ (s.helloTaken n p).resetAsserted = s.resetAsserted ∧ (s.helloTaken n p).powered = s.powered
      ∧ (s.helloTaken n p).pending = s.pending ∧ (s.helloTaken n p).store.pool = s.store.pool
      ∧ (s.helloTaken n p).store.gens = s.store.gens := by
  refine ⟨?_, ?_, ?_, ?_, ?_, ?_, ?_, ?_, ?_, ?_, ?_⟩ <;> (intros; simp only [State.helloTaken]; (repeat' split) <;> simp_all)

@[simp] theorem State.abortForHalt_frame (s : State) (n : NodeId) :
    (s.abortForHalt n).groups = s.groups ∧ (s.abortForHalt n).monitor = s.monitor ∧ (s.abortForHalt n).alerts = s.alerts
      ∧ (s.abortForHalt n).active = s.active ∧ (s.abortForHalt n).staged = s.staged ∧ (s.abortForHalt n).array = s.array
      ∧ (s.abortForHalt n).saving = s.saving ∧ (s.abortForHalt n).clock = s.clock
      ∧ (s.abortForHalt n).resetAsserted = s.resetAsserted ∧ (s.abortForHalt n).powered = s.powered
      ∧ (s.abortForHalt n).pending = s.pending ∧ (∀ k : GroupId, (s.abortForHalt n).group k = s.group k)
      ∧ (s.abortForHalt n).store.pool = s.store.pool ∧ (s.abortForHalt n).store.gens = s.store.gens
      ∧ (∀ l' : Link, l' ≠ .node n → (s.abortForHalt n).port l' = s.port l')
      ∧ (∀ x : NodeId, ((s.abortForHalt n).node x).attempts = (s.node x).attempts) := by
  refine ⟨?_, ?_, ?_, ?_, ?_, ?_, ?_, ?_, ?_, ?_, ?_, ?_, ?_, ?_, ?_, ?_⟩
  iterate 15 (intros; simp only [State.abortForHalt]; (repeat' split) <;> simp_all)
  all_goals (intros; simp only [State.abortForHalt]; (repeat' split) <;> simp_all [State.modNode, State.node_setNode] <;> (repeat' split) <;> simp_all)

@[simp] theorem State.endForHalt_frame (s : State) (n : NodeId) :
    (s.endForHalt n).groups = s.groups ∧ (s.endForHalt n).monitor = s.monitor ∧ (s.endForHalt n).alerts = s.alerts
      ∧ (s.endForHalt n).active = s.active ∧ (s.endForHalt n).staged = s.staged ∧ (s.endForHalt n).array = s.array
      ∧ (s.endForHalt n).saving = s.saving ∧ (s.endForHalt n).clock = s.clock
      ∧ (s.endForHalt n).resetAsserted = s.resetAsserted ∧ (s.endForHalt n).powered = s.powered
      ∧ (s.endForHalt n).pending = s.pending ∧ (s.endForHalt n).store.pool = s.store.pool
      ∧ (s.endForHalt n).store.gens = s.store.gens ∧ (∀ l' : Link, l' ≠ .node n → (s.endForHalt n).port l' = s.port l')
      ∧ (∀ x : NodeId, ((s.endForHalt n).node x).attempts = (s.node x).attempts) := by
  refine ⟨?_, ?_, ?_, ?_, ?_, ?_, ?_, ?_, ?_, ?_, ?_, ?_, ?_, ?_, ?_⟩
  iterate 14 (intros; simp only [State.endForHalt]; (repeat' split) <;> simp_all)
  all_goals (intros; simp only [State.endForHalt]; (repeat' split) <;> simp_all [State.modNode, State.node_setNode] <;> (repeat' split) <;> simp_all)

@[simp] theorem State.haltNode_frame (s : State) (n : NodeId) :
    (s.haltNode n).monitor = s.monitor ∧ (s.haltNode n).active = s.active ∧ (s.haltNode n).staged = s.staged
      ∧ (s.haltNode n).array = s.array ∧ (s.haltNode n).saving = s.saving ∧ (s.haltNode n).clock = s.clock
      ∧ (s.haltNode n).resetAsserted = s.resetAsserted ∧ (s.haltNode n).powered = s.powered
      ∧ (s.haltNode n).pending = s.pending ∧ (s.haltNode n).store.pool = s.store.pool
      ∧ (s.haltNode n).store.gens = s.store.gens := by
  refine ⟨?_, ?_, ?_, ?_, ?_, ?_, ?_, ?_, ?_, ?_, ?_⟩ <;> (intros; simp only [State.haltNode]; (repeat' split) <;> simp_all)

end Sys2Proof.Machine
end

