-- ==== Sys2Proof/Laws/FrameRestore.lean ====
section
/-! SUPPORT. What the operations of Machine/Restore.lean leave unchanged: one lemma per operation. -/

namespace Sys2Proof.Machine

set_option linter.all false

@[simp] theorem State.secondCold_frame (s : State) (c : ChanId) (b : Binding) (why : ColdReason) :
    (s.secondCold c b why).groups = s.groups ∧ (s.secondCold c b why).monitor = s.monitor
      ∧ (s.secondCold c b why).active = s.active ∧ (s.secondCold c b why).staged = s.staged
      ∧ (s.secondCold c b why).array = s.array ∧ (s.secondCold c b why).saving = s.saving
      ∧ (s.secondCold c b why).clock = s.clock ∧ (s.secondCold c b why).resetAsserted = s.resetAsserted
      ∧ (s.secondCold c b why).powered = s.powered ∧ (s.secondCold c b why).pending = s.pending
      ∧ (∀ k : GroupId, (s.secondCold c b why).group k = s.group k) ∧ (s.secondCold c b why).store.pool = s.store.pool
      ∧ (s.secondCold c b why).store.gens = s.store.gens := by
  refine ⟨?_, ?_, ?_, ?_, ?_, ?_, ?_, ?_, ?_, ?_, ?_, ?_, ?_⟩ <;> (intros; simp only [State.secondCold]; (repeat' split) <;> simp_all)

@[simp] theorem State.abortRestore_frame (s : State) (c : ChanId) (b : Binding) (st : DoneStatus) :
    (s.abortRestore c b st).groups = s.groups ∧ (s.abortRestore c b st).monitor = s.monitor
      ∧ (s.abortRestore c b st).active = s.active ∧ (s.abortRestore c b st).staged = s.staged
      ∧ (s.abortRestore c b st).array = s.array ∧ (s.abortRestore c b st).saving = s.saving
      ∧ (s.abortRestore c b st).clock = s.clock ∧ (s.abortRestore c b st).resetAsserted = s.resetAsserted
      ∧ (s.abortRestore c b st).powered = s.powered ∧ (s.abortRestore c b st).pending = s.pending
      ∧ (∀ k : GroupId, (s.abortRestore c b st).group k = s.group k) ∧ (s.abortRestore c b st).store.pool = s.store.pool
      ∧ (s.abortRestore c b st).store.gens = s.store.gens := by
  refine ⟨?_, ?_, ?_, ?_, ?_, ?_, ?_, ?_, ?_, ?_, ?_, ?_, ?_⟩ <;> (intros; simp only [State.abortRestore]; (repeat' split) <;> simp_all)

@[simp] theorem State.finishRestore_frame (s : State) (c : ChanId) (b : Binding) :
    (s.finishRestore c b).groups = s.groups ∧ (s.finishRestore c b).monitor = s.monitor
      ∧ (s.finishRestore c b).alerts = s.alerts ∧ (s.finishRestore c b).active = s.active
      ∧ (s.finishRestore c b).staged = s.staged ∧ (s.finishRestore c b).array = s.array
      ∧ (s.finishRestore c b).saving = s.saving ∧ (s.finishRestore c b).clock = s.clock
      ∧ (s.finishRestore c b).resetAsserted = s.resetAsserted ∧ (s.finishRestore c b).powered = s.powered
      ∧ (s.finishRestore c b).pending = s.pending ∧ (∀ k : GroupId, (s.finishRestore c b).group k = s.group k)
      ∧ (s.finishRestore c b).store.pool = s.store.pool ∧ (s.finishRestore c b).store.gens = s.store.gens := by
  refine ⟨?_, ?_, ?_, ?_, ?_, ?_, ?_, ?_, ?_, ?_, ?_, ?_, ?_, ?_⟩ <;> (intros; simp only [State.finishRestore]; (repeat' split) <;> simp_all)

@[simp] theorem State.fallBack_frame (s : State) (c : ChanId) (b : Binding) (k : Nat) (r : Record) :
    (s.fallBack c b k r).groups = s.groups ∧ (s.fallBack c b k r).monitor = s.monitor
      ∧ (s.fallBack c b k r).active = s.active ∧ (s.fallBack c b k r).staged = s.staged
      ∧ (s.fallBack c b k r).array = s.array ∧ (s.fallBack c b k r).saving = s.saving
      ∧ (s.fallBack c b k r).clock = s.clock ∧ (s.fallBack c b k r).resetAsserted = s.resetAsserted
      ∧ (s.fallBack c b k r).powered = s.powered ∧ (s.fallBack c b k r).pending = s.pending
      ∧ (s.fallBack c b k r).store.pool = s.store.pool ∧ (s.fallBack c b k r).store.gens = s.store.gens := by
  refine ⟨?_, ?_, ?_, ?_, ?_, ?_, ?_, ?_, ?_, ?_, ?_, ?_⟩ <;> (intros; simp only [State.fallBack]; (repeat' split) <;> simp_all)

@[simp] theorem State.sendBlock_frame (s : State) (c : ChanId) (b : Binding) :
    (s.sendBlock c b).groups = s.groups ∧ (s.sendBlock c b).monitor = s.monitor ∧ (s.sendBlock c b).active = s.active
      ∧ (s.sendBlock c b).staged = s.staged ∧ (s.sendBlock c b).array = s.array ∧ (s.sendBlock c b).saving = s.saving
      ∧ (s.sendBlock c b).clock = s.clock ∧ (s.sendBlock c b).resetAsserted = s.resetAsserted
      ∧ (s.sendBlock c b).powered = s.powered ∧ (s.sendBlock c b).pending = s.pending
      ∧ (s.sendBlock c b).store.pool = s.store.pool ∧ (s.sendBlock c b).store.gens = s.store.gens := by
  refine ⟨?_, ?_, ?_, ?_, ?_, ?_, ?_, ?_, ?_, ?_, ?_, ?_⟩ <;> (intros; simp only [State.sendBlock]; (repeat' split) <;> simp_all)

@[simp] theorem State.advance_frame (s : State) (c : ChanId) (b : Binding) :
    (s.advance c b).groups = s.groups ∧ (s.advance c b).monitor = s.monitor ∧ (s.advance c b).active = s.active
      ∧ (s.advance c b).staged = s.staged ∧ (s.advance c b).array = s.array ∧ (s.advance c b).saving = s.saving
      ∧ (s.advance c b).clock = s.clock ∧ (s.advance c b).resetAsserted = s.resetAsserted
      ∧ (s.advance c b).powered = s.powered ∧ (s.advance c b).pending = s.pending
      ∧ (s.advance c b).store.pool = s.store.pool ∧ (s.advance c b).store.gens = s.store.gens := by
  refine ⟨?_, ?_, ?_, ?_, ?_, ?_, ?_, ?_, ?_, ?_, ?_, ?_⟩ <;> (intros; simp only [State.advance]; (repeat' split) <;> simp_all)

@[simp] theorem State.crcBad_frame (s : State) (c : ChanId) (b : Binding) :
    (s.crcBad c b).groups = s.groups ∧ (s.crcBad c b).monitor = s.monitor ∧ (s.crcBad c b).active = s.active
      ∧ (s.crcBad c b).staged = s.staged ∧ (s.crcBad c b).array = s.array ∧ (s.crcBad c b).saving = s.saving
      ∧ (s.crcBad c b).clock = s.clock ∧ (s.crcBad c b).resetAsserted = s.resetAsserted
      ∧ (s.crcBad c b).powered = s.powered ∧ (s.crcBad c b).pending = s.pending ∧ (s.crcBad c b).store.pool = s.store.pool
      ∧ (s.crcBad c b).store.gens = s.store.gens := by
  refine ⟨?_, ?_, ?_, ?_, ?_, ?_, ?_, ?_, ?_, ?_, ?_, ?_⟩ <;> (intros; simp only [State.crcBad]; (repeat' split) <;> simp_all)

@[simp] theorem State.notReady_frame (s : State) (c : ChanId) (b : Binding) :
    (s.notReady c b).groups = s.groups ∧ (s.notReady c b).monitor = s.monitor ∧ (s.notReady c b).active = s.active
      ∧ (s.notReady c b).staged = s.staged ∧ (s.notReady c b).array = s.array ∧ (s.notReady c b).saving = s.saving
      ∧ (s.notReady c b).clock = s.clock ∧ (s.notReady c b).resetAsserted = s.resetAsserted
      ∧ (s.notReady c b).powered = s.powered ∧ (s.notReady c b).pending = s.pending
      ∧ (∀ k : GroupId, (s.notReady c b).group k = s.group k) ∧ (s.notReady c b).store.pool = s.store.pool
      ∧ (s.notReady c b).store.gens = s.store.gens := by
  refine ⟨?_, ?_, ?_, ?_, ?_, ?_, ?_, ?_, ?_, ?_, ?_, ?_, ?_⟩ <;> (intros; simp only [State.notReady]; (repeat' split) <;> simp_all)

@[simp] theorem State.ackTaken_frame (s : State) (n : NodeId) (p : List Byte) :
    (s.ackTaken n p).groups = s.groups ∧ (s.ackTaken n p).monitor = s.monitor ∧ (s.ackTaken n p).active = s.active
      ∧ (s.ackTaken n p).staged = s.staged ∧ (s.ackTaken n p).array = s.array ∧ (s.ackTaken n p).saving = s.saving
      ∧ (s.ackTaken n p).clock = s.clock ∧ (s.ackTaken n p).resetAsserted = s.resetAsserted
      ∧ (s.ackTaken n p).powered = s.powered ∧ (s.ackTaken n p).pending = s.pending
      ∧ (s.ackTaken n p).store.pool = s.store.pool ∧ (s.ackTaken n p).store.gens = s.store.gens := by
  refine ⟨?_, ?_, ?_, ?_, ?_, ?_, ?_, ?_, ?_, ?_, ?_, ?_⟩ <;> (intros; simp only [State.ackTaken]; (repeat' split) <;> simp_all)

@[simp] theorem State.verifyDone_frame (s : State) (c : ChanId) (b : Binding) :
    (s.verifyDone c b).groups = s.groups ∧ (s.verifyDone c b).monitor = s.monitor ∧ (s.verifyDone c b).active = s.active
      ∧ (s.verifyDone c b).staged = s.staged ∧ (s.verifyDone c b).array = s.array ∧ (s.verifyDone c b).saving = s.saving
      ∧ (s.verifyDone c b).clock = s.clock ∧ (s.verifyDone c b).resetAsserted = s.resetAsserted
      ∧ (s.verifyDone c b).powered = s.powered ∧ (s.verifyDone c b).pending = s.pending
      ∧ (s.verifyDone c b).store.pool = s.store.pool ∧ (s.verifyDone c b).store.gens = s.store.gens := by
  refine ⟨?_, ?_, ?_, ?_, ?_, ?_, ?_, ?_, ?_, ?_, ?_, ?_⟩ <;> (intros; simp only [State.verifyDone]; (repeat' split) <;> simp_all)

@[simp] theorem State.dataUnanswered_frame (s : State) (n : NodeId) :
    (s.dataUnanswered n).groups = s.groups ∧ (s.dataUnanswered n).monitor = s.monitor
      ∧ (s.dataUnanswered n).active = s.active ∧ (s.dataUnanswered n).staged = s.staged
      ∧ (s.dataUnanswered n).array = s.array ∧ (s.dataUnanswered n).saving = s.saving
      ∧ (s.dataUnanswered n).clock = s.clock ∧ (s.dataUnanswered n).resetAsserted = s.resetAsserted
      ∧ (s.dataUnanswered n).powered = s.powered ∧ (s.dataUnanswered n).pending = s.pending
      ∧ (∀ k : GroupId, (s.dataUnanswered n).group k = s.group k) ∧ (s.dataUnanswered n).store.pool = s.store.pool
      ∧ (s.dataUnanswered n).store.gens = s.store.gens := by
  refine ⟨?_, ?_, ?_, ?_, ?_, ?_, ?_, ?_, ?_, ?_, ?_, ?_, ?_⟩ <;> (intros; simp only [State.dataUnanswered]; (repeat' split) <;> simp_all)

end Sys2Proof.Machine
end

