-- ==== Sys2Proof/Laws/FrameMonitor.lean ====
section
/-! SUPPORT. What the operations of Machine/Monitor.lean, Machine/NodeFrames.lean leave unchanged: one lemma per operation. -/

namespace Sys2Proof.Machine

set_option linter.all false

@[simp] theorem State.tripChannel_frame (s : State) (c : Fin 16) (m : MonChannel) :
    (s.tripChannel c m).nodes = s.nodes ∧ (s.tripChannel c m).store = s.store ∧ (s.tripChannel c m).channels = s.channels
      ∧ (s.tripChannel c m).active = s.active ∧ (s.tripChannel c m).staged = s.staged
      ∧ (s.tripChannel c m).array = s.array ∧ (s.tripChannel c m).saving = s.saving ∧ (s.tripChannel c m).clock = s.clock
      ∧ (s.tripChannel c m).resetAsserted = s.resetAsserted ∧ (s.tripChannel c m).powered = s.powered
      ∧ (s.tripChannel c m).pending = s.pending ∧ (∀ x : NodeId, (s.tripChannel c m).node x = s.node x)
      ∧ (∀ d : ChanId, (s.tripChannel c m).chan d = s.chan d) := by
  refine ⟨?_, ?_, ?_, ?_, ?_, ?_, ?_, ?_, ?_, ?_, ?_, ?_, ?_⟩ <;> (intros; simp only [State.tripChannel]; (repeat' split) <;> simp_all)

@[simp] theorem State.countReading_frame (s : State) (c : Fin 16) (m : MonChannel) (value : Nat) :
    (s.countReading c m value).nodes = s.nodes ∧ (s.countReading c m value).store = s.store
      ∧ (s.countReading c m value).channels = s.channels ∧ (s.countReading c m value).active = s.active
      ∧ (s.countReading c m value).staged = s.staged ∧ (s.countReading c m value).array = s.array
      ∧ (s.countReading c m value).saving = s.saving ∧ (s.countReading c m value).clock = s.clock
      ∧ (s.countReading c m value).resetAsserted = s.resetAsserted ∧ (s.countReading c m value).powered = s.powered
      ∧ (s.countReading c m value).pending = s.pending ∧ (∀ x : NodeId, (s.countReading c m value).node x = s.node x)
      ∧ (∀ d : ChanId, (s.countReading c m value).chan d = s.chan d) := by
  refine ⟨?_, ?_, ?_, ?_, ?_, ?_, ?_, ?_, ?_, ?_, ?_, ?_, ?_⟩ <;> (intros; simp only [State.countReading]; (repeat' split) <;> simp_all)

@[simp] theorem State.comparatorReading_frame (s : State) (c : Fin 16) (m : MonChannel) (value : Nat) :
    (s.comparatorReading c m value).nodes = s.nodes ∧ (s.comparatorReading c m value).groups = s.groups
      ∧ (s.comparatorReading c m value).supervisorPort = s.supervisorPort
      ∧ (s.comparatorReading c m value).nodePorts = s.nodePorts ∧ (s.comparatorReading c m value).exchanges = s.exchanges
      ∧ (s.comparatorReading c m value).store = s.store ∧ (s.comparatorReading c m value).queue = s.queue
      ∧ (s.comparatorReading c m value).channels = s.channels ∧ (s.comparatorReading c m value).active = s.active
      ∧ (s.comparatorReading c m value).staged = s.staged ∧ (s.comparatorReading c m value).array = s.array
      ∧ (s.comparatorReading c m value).saving = s.saving ∧ (s.comparatorReading c m value).clock = s.clock
      ∧ (s.comparatorReading c m value).resetAsserted = s.resetAsserted
      ∧ (s.comparatorReading c m value).powered = s.powered ∧ (s.comparatorReading c m value).pending = s.pending
      ∧ (∀ x : NodeId, (s.comparatorReading c m value).node x = s.node x)
      ∧ (∀ k : GroupId, (s.comparatorReading c m value).group k = s.group k)
      ∧ (∀ d : ChanId, (s.comparatorReading c m value).chan d = s.chan d)
      ∧ (∀ x : NodeId, (s.comparatorReading c m value).exchange x = s.exchange x)
      ∧ (∀ l' : Link, (s.comparatorReading c m value).port l' = s.port l') := by
  refine ⟨?_, ?_, ?_, ?_, ?_, ?_, ?_, ?_, ?_, ?_, ?_, ?_, ?_, ?_, ?_, ?_, ?_, ?_, ?_, ?_, ?_⟩ <;> (intros; simp only [State.comparatorReading]; (repeat' split) <;> simp_all)

@[simp] theorem State.twoTimesReading_frame (s : State) (c : Fin 16) (m : MonChannel) (value : Nat) :
    (s.twoTimesReading c m value).nodes = s.nodes ∧ (s.twoTimesReading c m value).groups = s.groups
      ∧ (s.twoTimesReading c m value).supervisorPort = s.supervisorPort
      ∧ (s.twoTimesReading c m value).nodePorts = s.nodePorts ∧ (s.twoTimesReading c m value).exchanges = s.exchanges
      ∧ (s.twoTimesReading c m value).store = s.store ∧ (s.twoTimesReading c m value).queue = s.queue
      ∧ (s.twoTimesReading c m value).channels = s.channels ∧ (s.twoTimesReading c m value).active = s.active
      ∧ (s.twoTimesReading c m value).staged = s.staged ∧ (s.twoTimesReading c m value).array = s.array
      ∧ (s.twoTimesReading c m value).saving = s.saving ∧ (s.twoTimesReading c m value).clock = s.clock
      ∧ (s.twoTimesReading c m value).resetAsserted = s.resetAsserted ∧ (s.twoTimesReading c m value).powered = s.powered
      ∧ (s.twoTimesReading c m value).pending = s.pending
      ∧ (∀ x : NodeId, (s.twoTimesReading c m value).node x = s.node x)
      ∧ (∀ k : GroupId, (s.twoTimesReading c m value).group k = s.group k)
      ∧ (∀ d : ChanId, (s.twoTimesReading c m value).chan d = s.chan d)
      ∧ (∀ x : NodeId, (s.twoTimesReading c m value).exchange x = s.exchange x)
      ∧ (∀ l' : Link, (s.twoTimesReading c m value).port l' = s.port l') := by
  refine ⟨?_, ?_, ?_, ?_, ?_, ?_, ?_, ?_, ?_, ?_, ?_, ?_, ?_, ?_, ?_, ?_, ?_, ?_, ?_, ?_, ?_⟩ <;> (intros; simp only [State.twoTimesReading]; (repeat' split) <;> simp_all)

@[simp] theorem State.takeReading_frame (s : State) (r : Nat × Nat) :
    (s.takeReading r).nodes = s.nodes ∧ (s.takeReading r).store = s.store ∧ (s.takeReading r).channels = s.channels
      ∧ (s.takeReading r).active = s.active ∧ (s.takeReading r).staged = s.staged ∧ (s.takeReading r).array = s.array
      ∧ (s.takeReading r).saving = s.saving ∧ (s.takeReading r).clock = s.clock
      ∧ (s.takeReading r).resetAsserted = s.resetAsserted ∧ (s.takeReading r).powered = s.powered
      ∧ (s.takeReading r).pending = s.pending ∧ (∀ x : NodeId, (s.takeReading r).node x = s.node x)
      ∧ (∀ d : ChanId, (s.takeReading r).chan d = s.chan d) := by
  refine ⟨?_, ?_, ?_, ?_, ?_, ?_, ?_, ?_, ?_, ?_, ?_, ?_, ?_⟩ <;> (intros; simp only [State.takeReading]; (repeat' split) <;> simp_all)

@[simp] theorem State.takeReadings_frame (s : State) (rs : List (Nat × Nat)) :
    (s.takeReadings rs).nodes = s.nodes ∧ (s.takeReadings rs).store = s.store ∧ (s.takeReadings rs).channels = s.channels
      ∧ (s.takeReadings rs).active = s.active ∧ (s.takeReadings rs).staged = s.staged
      ∧ (s.takeReadings rs).array = s.array ∧ (s.takeReadings rs).saving = s.saving ∧ (s.takeReadings rs).clock = s.clock
      ∧ (s.takeReadings rs).resetAsserted = s.resetAsserted ∧ (s.takeReadings rs).powered = s.powered
      ∧ (s.takeReadings rs).pending = s.pending ∧ (∀ x : NodeId, (s.takeReadings rs).node x = s.node x)
      ∧ (∀ d : ChanId, (s.takeReadings rs).chan d = s.chan d) :=
  ⟨by exact foldl_keeps _ (fun s : State => s.nodes) (by intros; simp) _ s,
    by exact foldl_keeps _ (fun s : State => s.store) (by intros; simp) _ s,
    by exact foldl_keeps _ (fun s : State => s.channels) (by intros; simp) _ s,
    by exact foldl_keeps _ (fun s : State => s.active) (by intros; simp) _ s,
    by exact foldl_keeps _ (fun s : State => s.staged) (by intros; simp) _ s,
    by exact foldl_keeps _ (fun s : State => s.array) (by intros; simp) _ s,
    by exact foldl_keeps _ (fun s : State => s.saving) (by intros; simp) _ s,
    by exact foldl_keeps _ (fun s : State => s.clock) (by intros; simp) _ s,
    by exact foldl_keeps _ (fun s : State => s.resetAsserted) (by intros; simp) _ s,
    by exact foldl_keeps _ (fun s : State => s.powered) (by intros; simp) _ s,
    by exact foldl_keeps _ (fun s : State => s.pending) (by intros; simp) _ s,
    by intro x; exact foldl_keeps _ (fun s : State => s.node x) (by intros; simp) _ s,
    by intro d; exact foldl_keeps _ (fun s : State => s.chan d) (by intros; simp) _ s⟩

@[simp] theorem State.limitTaken_frame (s : State) (p : List Byte) :
    (s.limitTaken p).nodes = s.nodes ∧ (s.limitTaken p).groups = s.groups ∧ (s.limitTaken p).exchanges = s.exchanges
      ∧ (s.limitTaken p).store = s.store ∧ (s.limitTaken p).queue = s.queue ∧ (s.limitTaken p).channels = s.channels
      ∧ (s.limitTaken p).alerts = s.alerts ∧ (s.limitTaken p).active = s.active ∧ (s.limitTaken p).staged = s.staged
      ∧ (s.limitTaken p).array = s.array ∧ (s.limitTaken p).saving = s.saving ∧ (s.limitTaken p).clock = s.clock
      ∧ (s.limitTaken p).resetAsserted = s.resetAsserted ∧ (s.limitTaken p).powered = s.powered
      ∧ (s.limitTaken p).pending = s.pending ∧ (∀ x : NodeId, (s.limitTaken p).node x = s.node x)
      ∧ (∀ d : ChanId, (s.limitTaken p).chan d = s.chan d) ∧ (∀ x : NodeId, (s.limitTaken p).exchange x = s.exchange x) := by
  refine ⟨?_, ?_, ?_, ?_, ?_, ?_, ?_, ?_, ?_, ?_, ?_, ?_, ?_, ?_, ?_, ?_, ?_, ?_⟩ <;> (intros; simp only [State.limitTaken]; (repeat' split) <;> simp_all)

@[simp] theorem State.noteBeat_frame (s : State) (n : NodeId) :
    (s.noteBeat n).groups = s.groups ∧ (s.noteBeat n).supervisorPort = s.supervisorPort
      ∧ (s.noteBeat n).nodePorts = s.nodePorts ∧ (s.noteBeat n).exchanges = s.exchanges ∧ (s.noteBeat n).store = s.store
      ∧ (s.noteBeat n).queue = s.queue ∧ (s.noteBeat n).channels = s.channels ∧ (s.noteBeat n).monitor = s.monitor
      ∧ (s.noteBeat n).alerts = s.alerts ∧ (s.noteBeat n).active = s.active ∧ (s.noteBeat n).staged = s.staged
      ∧ (s.noteBeat n).array = s.array ∧ (s.noteBeat n).saving = s.saving ∧ (s.noteBeat n).clock = s.clock
      ∧ (s.noteBeat n).resetAsserted = s.resetAsserted ∧ (s.noteBeat n).powered = s.powered
      ∧ (s.noteBeat n).pending = s.pending ∧ (∀ k : GroupId, (s.noteBeat n).group k = s.group k)
      ∧ (∀ d : ChanId, (s.noteBeat n).chan d = s.chan d) ∧ (∀ x : NodeId, (s.noteBeat n).exchange x = s.exchange x)
      ∧ (∀ l' : Link, (s.noteBeat n).port l' = s.port l') ∧ (∀ x : NodeId, x ≠ n → (s.noteBeat n).node x = s.node x)
      ∧ (∀ x : NodeId, ((s.noteBeat n).node x).state = (s.node x).state)
      ∧ (∀ x : NodeId, ((s.noteBeat n).node x).attempts = (s.node x).attempts)
      ∧ (∀ x : NodeId, ((s.noteBeat n).node x).channel = (s.node x).channel) := by
  refine ⟨?_, ?_, ?_, ?_, ?_, ?_, ?_, ?_, ?_, ?_, ?_, ?_, ?_, ?_, ?_, ?_, ?_, ?_, ?_, ?_, ?_, ?_, ?_, ?_, ?_⟩
  iterate 22 (intros; simp only [State.noteBeat]; (repeat' split) <;> simp_all)
  all_goals (intros; simp only [State.noteBeat]; (repeat' split) <;> simp_all [State.modNode, State.node_setNode] <;> (repeat' split) <;> simp_all)

@[simp] theorem State.beatTaken_frame (s : State) (n : NodeId) (p : List Byte) :
    (s.beatTaken n p).store = s.store ∧ (s.beatTaken n p).channels = s.channels ∧ (s.beatTaken n p).active = s.active
      ∧ (s.beatTaken n p).staged = s.staged ∧ (s.beatTaken n p).array = s.array ∧ (s.beatTaken n p).saving = s.saving
      ∧ (s.beatTaken n p).clock = s.clock ∧ (s.beatTaken n p).resetAsserted = s.resetAsserted
      ∧ (s.beatTaken n p).powered = s.powered ∧ (s.beatTaken n p).pending = s.pending
      ∧ (∀ d : ChanId, (s.beatTaken n p).chan d = s.chan d) ∧ (∀ x : NodeId, x ≠ n → (s.beatTaken n p).node x = s.node x) := by
  refine ⟨?_, ?_, ?_, ?_, ?_, ?_, ?_, ?_, ?_, ?_, ?_, ?_⟩ <;> (intros; simp only [State.beatTaken]; (repeat' split) <;> simp_all)

@[simp] theorem State.quietTaken_frame (s : State) (n : NodeId) :
    (s.quietTaken n).groups = s.groups ∧ (s.quietTaken n).exchanges = s.exchanges ∧ (s.quietTaken n).store = s.store
      ∧ (s.quietTaken n).queue = s.queue ∧ (s.quietTaken n).channels = s.channels ∧ (s.quietTaken n).monitor = s.monitor
      ∧ (s.quietTaken n).alerts = s.alerts ∧ (s.quietTaken n).active = s.active ∧ (s.quietTaken n).staged = s.staged
      ∧ (s.quietTaken n).array = s.array ∧ (s.quietTaken n).saving = s.saving ∧ (s.quietTaken n).clock = s.clock
      ∧ (s.quietTaken n).resetAsserted = s.resetAsserted ∧ (s.quietTaken n).powered = s.powered
      ∧ (s.quietTaken n).pending = s.pending ∧ (∀ d : ChanId, (s.quietTaken n).chan d = s.chan d)
      ∧ (∀ x : NodeId, (s.quietTaken n).exchange x = s.exchange x)
      ∧ (∀ x : NodeId, x ≠ n → (s.quietTaken n).node x = s.node x)
      ∧ (∀ l' : Link, l' ≠ .node n → (s.quietTaken n).port l' = s.port l')
      ∧ (∀ x : NodeId, ((s.quietTaken n).node x).attempts = (s.node x).attempts)
      ∧ (∀ x : NodeId, ((s.quietTaken n).node x).channel = (s.node x).channel) := by
  refine ⟨?_, ?_, ?_, ?_, ?_, ?_, ?_, ?_, ?_, ?_, ?_, ?_, ?_, ?_, ?_, ?_, ?_, ?_, ?_, ?_, ?_⟩
  iterate 19 (intros; simp only [State.quietTaken]; (repeat' split) <;> simp_all)
  all_goals (intros; simp only [State.quietTaken]; (repeat' split) <;> simp_all [State.modNode, State.node_setNode] <;> (repeat' split) <;> simp_all)

@[simp] theorem State.awakeTaken_frame (s : State) (n : NodeId) :
    (s.awakeTaken n).store = s.store ∧ (s.awakeTaken n).queue = s.queue ∧ (s.awakeTaken n).channels = s.channels
      ∧ (s.awakeTaken n).monitor = s.monitor ∧ (s.awakeTaken n).alerts = s.alerts ∧ (s.awakeTaken n).active = s.active
      ∧ (s.awakeTaken n).staged = s.staged ∧ (s.awakeTaken n).array = s.array ∧ (s.awakeTaken n).saving = s.saving
      ∧ (s.awakeTaken n).clock = s.clock ∧ (s.awakeTaken n).resetAsserted = s.resetAsserted
      ∧ (s.awakeTaken n).powered = s.powered ∧ (s.awakeTaken n).pending = s.pending
      ∧ (∀ d : ChanId, (s.awakeTaken n).chan d = s.chan d) ∧ (∀ x : NodeId, x ≠ n → (s.awakeTaken n).node x = s.node x)
      ∧ (∀ x : NodeId, ((s.awakeTaken n).node x).attempts = (s.node x).attempts)
      ∧ (∀ x : NodeId, ((s.awakeTaken n).node x).channel = (s.node x).channel) := by
  refine ⟨?_, ?_, ?_, ?_, ?_, ?_, ?_, ?_, ?_, ?_, ?_, ?_, ?_, ?_, ?_, ?_, ?_⟩
  iterate 15 (intros; simp only [State.awakeTaken]; (repeat' split) <;> simp_all)
  all_goals (intros; simp only [State.awakeTaken]; (repeat' split) <;> simp_all [State.modNode, State.node_setNode] <;> (repeat' split) <;> simp_all)

@[simp] theorem State.askRestartTaken_frame (s : State) (n : NodeId) :
    (s.askRestartTaken n).channels = s.channels ∧ (s.askRestartTaken n).monitor = s.monitor
      ∧ (s.askRestartTaken n).active = s.active ∧ (s.askRestartTaken n).staged = s.staged
      ∧ (s.askRestartTaken n).array = s.array ∧ (s.askRestartTaken n).saving = s.saving
      ∧ (s.askRestartTaken n).clock = s.clock ∧ (s.askRestartTaken n).resetAsserted = s.resetAsserted
      ∧ (s.askRestartTaken n).powered = s.powered ∧ (s.askRestartTaken n).pending = s.pending
      ∧ (∀ d : ChanId, (s.askRestartTaken n).chan d = s.chan d) ∧ (s.askRestartTaken n).store.pool = s.store.pool
      ∧ (s.askRestartTaken n).store.gens = s.store.gens := by
  refine ⟨?_, ?_, ?_, ?_, ?_, ?_, ?_, ?_, ?_, ?_, ?_, ?_, ?_⟩ <;> (intros; simp only [State.askRestartTaken]; (repeat' split) <;> simp_all)

@[simp] theorem State.resumedTaken_frame (s : State) (n : NodeId) :
    (s.resumedTaken n).store = s.store ∧ (s.resumedTaken n).channels = s.channels ∧ (s.resumedTaken n).monitor = s.monitor
      ∧ (s.resumedTaken n).alerts = s.alerts ∧ (s.resumedTaken n).active = s.active ∧ (s.resumedTaken n).staged = s.staged
      ∧ (s.resumedTaken n).array = s.array ∧ (s.resumedTaken n).saving = s.saving ∧ (s.resumedTaken n).clock = s.clock
      ∧ (s.resumedTaken n).resetAsserted = s.resetAsserted ∧ (s.resumedTaken n).powered = s.powered
      ∧ (s.resumedTaken n).pending = s.pending ∧ (∀ d : ChanId, (s.resumedTaken n).chan d = s.chan d)
      ∧ (∀ x : NodeId, x ≠ n → (s.resumedTaken n).node x = s.node x) := by
  refine ⟨?_, ?_, ?_, ?_, ?_, ?_, ?_, ?_, ?_, ?_, ?_, ?_, ?_, ?_⟩ <;> (intros; simp only [State.resumedTaken]; (repeat' split) <;> simp_all)

@[simp] theorem State.whoTaken_frame (s : State) (n : NodeId) :
    (s.whoTaken n).nodes = s.nodes ∧ (s.whoTaken n).groups = s.groups ∧ (s.whoTaken n).exchanges = s.exchanges
      ∧ (s.whoTaken n).store = s.store ∧ (s.whoTaken n).queue = s.queue ∧ (s.whoTaken n).channels = s.channels
      ∧ (s.whoTaken n).monitor = s.monitor ∧ (s.whoTaken n).alerts = s.alerts ∧ (s.whoTaken n).active = s.active
      ∧ (s.whoTaken n).staged = s.staged ∧ (s.whoTaken n).array = s.array ∧ (s.whoTaken n).saving = s.saving
      ∧ (s.whoTaken n).clock = s.clock ∧ (s.whoTaken n).resetAsserted = s.resetAsserted
      ∧ (s.whoTaken n).powered = s.powered ∧ (s.whoTaken n).pending = s.pending
      ∧ (∀ x : NodeId, (s.whoTaken n).node x = s.node x) ∧ (∀ d : ChanId, (s.whoTaken n).chan d = s.chan d)
      ∧ (∀ x : NodeId, (s.whoTaken n).exchange x = s.exchange x)
      ∧ (∀ l' : Link, l' ≠ .node n → (s.whoTaken n).port l' = s.port l') := by
  refine ⟨?_, ?_, ?_, ?_, ?_, ?_, ?_, ?_, ?_, ?_, ?_, ?_, ?_, ?_, ?_, ?_, ?_, ?_, ?_, ?_⟩ <;> (intros; simp only [State.whoTaken]; (repeat' split) <;> simp_all)

@[simp] theorem State.takenTaken_frame (s : State) (n : NodeId) (p : List Byte) :
    (s.takenTaken n p).nodes = s.nodes ∧ (s.takenTaken n p).store = s.store ∧ (s.takenTaken n p).channels = s.channels
      ∧ (s.takenTaken n p).monitor = s.monitor ∧ (s.takenTaken n p).active = s.active
      ∧ (s.takenTaken n p).staged = s.staged ∧ (s.takenTaken n p).array = s.array ∧ (s.takenTaken n p).saving = s.saving
      ∧ (s.takenTaken n p).clock = s.clock ∧ (s.takenTaken n p).resetAsserted = s.resetAsserted
      ∧ (s.takenTaken n p).powered = s.powered ∧ (s.takenTaken n p).pending = s.pending
      ∧ (∀ x : NodeId, (s.takenTaken n p).node x = s.node x) ∧ (∀ d : ChanId, (s.takenTaken n p).chan d = s.chan d)
      ∧ (∀ x : NodeId, x ≠ n → (s.takenTaken n p).exchange x = s.exchange x) := by
  refine ⟨?_, ?_, ?_, ?_, ?_, ?_, ?_, ?_, ?_, ?_, ?_, ?_, ?_, ?_, ?_⟩ <;> (intros; simp only [State.takenTaken]; (repeat' split) <;> simp_all)

end Sys2Proof.Machine
end

