-- ==== Sys2Proof/Laws/FrameUpload.lean ====
section
/-! SUPPORT. What the operations of Machine/Upload.lean leave unchanged: one lemma per operation. -/

namespace Sys2Proof.Machine

set_option linter.all false

@[simp] theorem State.refuseUpload_frame (s : State) (n : NodeId) (k : Kind) :
    (s.refuseUpload n k).nodes = s.nodes ∧ (s.refuseUpload n k).groups = s.groups
      ∧ (s.refuseUpload n k).exchanges = s.exchanges ∧ (s.refuseUpload n k).store = s.store
      ∧ (s.refuseUpload n k).queue = s.queue ∧ (s.refuseUpload n k).channels = s.channels
      ∧ (s.refuseUpload n k).monitor = s.monitor ∧ (s.refuseUpload n k).alerts = s.alerts
      ∧ (s.refuseUpload n k).active = s.active ∧ (s.refuseUpload n k).staged = s.staged
      ∧ (s.refuseUpload n k).array = s.array ∧ (s.refuseUpload n k).saving = s.saving
      ∧ (s.refuseUpload n k).clock = s.clock ∧ (s.refuseUpload n k).resetAsserted = s.resetAsserted
      ∧ (s.refuseUpload n k).powered = s.powered ∧ (s.refuseUpload n k).pending = s.pending
      ∧ (∀ x : NodeId, (s.refuseUpload n k).node x = s.node x) ∧ (∀ d : ChanId, (s.refuseUpload n k).chan d = s.chan d)
      ∧ (∀ x : NodeId, (s.refuseUpload n k).exchange x = s.exchange x)
      ∧ (∀ l' : Link, l' ≠ .node n → (s.refuseUpload n k).port l' = s.port l') := by
  refine ⟨?_, ?_, ?_, ?_, ?_, ?_, ?_, ?_, ?_, ?_, ?_, ?_, ?_, ?_, ?_, ?_, ?_, ?_, ?_, ?_⟩ <;> (intros; simp only [State.refuseUpload]; (repeat' split) <;> simp_all)

@[simp] theorem State.placeRecord_frame (s : State) (n : NodeId) (i : Slot) (k : RecKind) (declared : Nat) :
    (s.placeRecord n i k declared).groups = s.groups ∧ (s.placeRecord n i k declared).supervisorPort = s.supervisorPort
      ∧ (s.placeRecord n i k declared).nodePorts = s.nodePorts ∧ (s.placeRecord n i k declared).exchanges = s.exchanges
      ∧ (s.placeRecord n i k declared).queue = s.queue ∧ (s.placeRecord n i k declared).channels = s.channels
      ∧ (s.placeRecord n i k declared).monitor = s.monitor ∧ (s.placeRecord n i k declared).alerts = s.alerts
      ∧ (s.placeRecord n i k declared).active = s.active ∧ (s.placeRecord n i k declared).staged = s.staged
      ∧ (s.placeRecord n i k declared).array = s.array ∧ (s.placeRecord n i k declared).saving = s.saving
      ∧ (s.placeRecord n i k declared).clock = s.clock ∧ (s.placeRecord n i k declared).resetAsserted = s.resetAsserted
      ∧ (s.placeRecord n i k declared).powered = s.powered ∧ (s.placeRecord n i k declared).pending = s.pending
      ∧ (∀ d : ChanId, (s.placeRecord n i k declared).chan d = s.chan d)
      ∧ (∀ x : NodeId, (s.placeRecord n i k declared).exchange x = s.exchange x)
      ∧ (∀ l' : Link, (s.placeRecord n i k declared).port l' = s.port l')
      ∧ (s.placeRecord n i k declared).store.pool = s.store.pool
      ∧ (∀ x : NodeId, x ≠ n → (s.placeRecord n i k declared).node x = s.node x)
      ∧ (∀ x : NodeId, ((s.placeRecord n i k declared).node x).state = (s.node x).state)
      ∧ (∀ x : NodeId, ((s.placeRecord n i k declared).node x).attempts = (s.node x).attempts)
      ∧ (∀ x : NodeId, ((s.placeRecord n i k declared).node x).channel = (s.node x).channel) := by
  refine ⟨?_, ?_, ?_, ?_, ?_, ?_, ?_, ?_, ?_, ?_, ?_, ?_, ?_, ?_, ?_, ?_, ?_, ?_, ?_, ?_, ?_, ?_, ?_, ?_⟩
  iterate 21 (intros; simp only [State.placeRecord]; (repeat' split) <;> simp_all)
  all_goals (intros; simp only [State.placeRecord]; (repeat' split) <;> simp_all [State.modNode, State.node_setNode] <;> (repeat' split) <;> simp_all)

@[simp] theorem State.openTaken_frame (s : State) (n : NodeId) (p : List Byte) :
    (s.openTaken n p).groups = s.groups ∧ (s.openTaken n p).exchanges = s.exchanges ∧ (s.openTaken n p).queue = s.queue
      ∧ (s.openTaken n p).channels = s.channels ∧ (s.openTaken n p).monitor = s.monitor
      ∧ (s.openTaken n p).alerts = s.alerts ∧ (s.openTaken n p).active = s.active ∧ (s.openTaken n p).staged = s.staged
      ∧ (s.openTaken n p).array = s.array ∧ (s.openTaken n p).saving = s.saving ∧ (s.openTaken n p).clock = s.clock
      ∧ (s.openTaken n p).resetAsserted = s.resetAsserted ∧ (s.openTaken n p).powered = s.powered
      ∧ (s.openTaken n p).pending = s.pending ∧ (∀ d : ChanId, (s.openTaken n p).chan d = s.chan d)
      ∧ (∀ x : NodeId, (s.openTaken n p).exchange x = s.exchange x) ∧ (s.openTaken n p).store.pool = s.store.pool
      ∧ (∀ x : NodeId, x ≠ n → (s.openTaken n p).node x = s.node x)
      ∧ (∀ l' : Link, l' ≠ .node n → (s.openTaken n p).port l' = s.port l')
      ∧ (∀ x : NodeId, ((s.openTaken n p).node x).state = (s.node x).state)
      ∧ (∀ x : NodeId, ((s.openTaken n p).node x).attempts = (s.node x).attempts)
      ∧ (∀ x : NodeId, ((s.openTaken n p).node x).channel = (s.node x).channel) := by
  refine ⟨?_, ?_, ?_, ?_, ?_, ?_, ?_, ?_, ?_, ?_, ?_, ?_, ?_, ?_, ?_, ?_, ?_, ?_, ?_, ?_, ?_, ?_⟩
  iterate 19 (intros; simp only [State.openTaken]; (repeat' split) <;> simp_all)
  all_goals (intros; simp only [State.openTaken]; (repeat' split) <;> simp_all [State.modNode, State.node_setNode] <;> (repeat' split) <;> simp_all)

@[simp] theorem State.blockTaken_frame (s : State) (n : NodeId) (p : List Byte) :
    (s.blockTaken n p).groups = s.groups ∧ (s.blockTaken n p).exchanges = s.exchanges ∧ (s.blockTaken n p).queue = s.queue
      ∧ (s.blockTaken n p).channels = s.channels ∧ (s.blockTaken n p).monitor = s.monitor
      ∧ (s.blockTaken n p).active = s.active ∧ (s.blockTaken n p).staged = s.staged ∧ (s.blockTaken n p).array = s.array
      ∧ (s.blockTaken n p).saving = s.saving ∧ (s.blockTaken n p).clock = s.clock
      ∧ (s.blockTaken n p).resetAsserted = s.resetAsserted ∧ (s.blockTaken n p).powered = s.powered
      ∧ (s.blockTaken n p).pending = s.pending ∧ (∀ d : ChanId, (s.blockTaken n p).chan d = s.chan d)
      ∧ (∀ x : NodeId, (s.blockTaken n p).exchange x = s.exchange x)
      ∧ (∀ l' : Link, l' ≠ .node n → (s.blockTaken n p).port l' = s.port l')
      ∧ (∀ x : NodeId, ((s.blockTaken n p).node x).state = (s.node x).state)
      ∧ (∀ x : NodeId, ((s.blockTaken n p).node x).attempts = (s.node x).attempts)
      ∧ (∀ x : NodeId, ((s.blockTaken n p).node x).channel = (s.node x).channel) := by
  refine ⟨?_, ?_, ?_, ?_, ?_, ?_, ?_, ?_, ?_, ?_, ?_, ?_, ?_, ?_, ?_, ?_, ?_, ?_, ?_⟩
  iterate 16 (intros; simp only [State.blockTaken]; (repeat' split) <;> simp_all)
  all_goals (intros; simp only [State.blockTaken]; (repeat' split) <;> simp_all [State.modNode, State.node_setNode] <;> (repeat' split) <;> simp_all)

@[simp] theorem State.commitTaken_frame (s : State) (n : NodeId) (p : List Byte) :
    (s.commitTaken n p).nodes = s.nodes ∧ (s.commitTaken n p).groups = s.groups
      ∧ (s.commitTaken n p).exchanges = s.exchanges ∧ (s.commitTaken n p).queue = s.queue
      ∧ (s.commitTaken n p).channels = s.channels ∧ (s.commitTaken n p).monitor = s.monitor
      ∧ (s.commitTaken n p).alerts = s.alerts ∧ (s.commitTaken n p).active = s.active
      ∧ (s.commitTaken n p).staged = s.staged ∧ (s.commitTaken n p).array = s.array
      ∧ (s.commitTaken n p).saving = s.saving ∧ (s.commitTaken n p).clock = s.clock
      ∧ (s.commitTaken n p).resetAsserted = s.resetAsserted ∧ (s.commitTaken n p).powered = s.powered
      ∧ (s.commitTaken n p).pending = s.pending ∧ (∀ x : NodeId, (s.commitTaken n p).node x = s.node x)
      ∧ (∀ d : ChanId, (s.commitTaken n p).chan d = s.chan d)
      ∧ (∀ x : NodeId, (s.commitTaken n p).exchange x = s.exchange x) ∧ (s.commitTaken n p).store.pool = s.store.pool
      ∧ (s.commitTaken n p).store.gens = s.store.gens
      ∧ (∀ l' : Link, l' ≠ .node n → (s.commitTaken n p).port l' = s.port l') := by
  refine ⟨?_, ?_, ?_, ?_, ?_, ?_, ?_, ?_, ?_, ?_, ?_, ?_, ?_, ?_, ?_, ?_, ?_, ?_, ?_, ?_, ?_⟩ <;> (intros; simp only [State.commitTaken]; (repeat' split) <;> simp_all)

@[simp] theorem State.dropTaken_frame (s : State) (n : NodeId) :
    (s.dropTaken n).groups = s.groups ∧ (s.dropTaken n).exchanges = s.exchanges ∧ (s.dropTaken n).queue = s.queue
      ∧ (s.dropTaken n).channels = s.channels ∧ (s.dropTaken n).monitor = s.monitor ∧ (s.dropTaken n).alerts = s.alerts
      ∧ (s.dropTaken n).active = s.active ∧ (s.dropTaken n).staged = s.staged ∧ (s.dropTaken n).array = s.array
      ∧ (s.dropTaken n).saving = s.saving ∧ (s.dropTaken n).clock = s.clock
      ∧ (s.dropTaken n).resetAsserted = s.resetAsserted ∧ (s.dropTaken n).powered = s.powered
      ∧ (s.dropTaken n).pending = s.pending ∧ (∀ d : ChanId, (s.dropTaken n).chan d = s.chan d)
      ∧ (∀ x : NodeId, (s.dropTaken n).exchange x = s.exchange x) ∧ (s.dropTaken n).store.pool = s.store.pool
      ∧ (s.dropTaken n).store.gens = s.store.gens ∧ (∀ l' : Link, l' ≠ .node n → (s.dropTaken n).port l' = s.port l')
      ∧ (∀ x : NodeId, ((s.dropTaken n).node x).state = (s.node x).state)
      ∧ (∀ x : NodeId, ((s.dropTaken n).node x).attempts = (s.node x).attempts)
      ∧ (∀ x : NodeId, ((s.dropTaken n).node x).channel = (s.node x).channel) := by
  refine ⟨?_, ?_, ?_, ?_, ?_, ?_, ?_, ?_, ?_, ?_, ?_, ?_, ?_, ?_, ?_, ?_, ?_, ?_, ?_, ?_, ?_, ?_⟩
  iterate 19 (intros; simp only [State.dropTaken]; (repeat' split) <;> simp_all)
  all_goals (intros; simp only [State.dropTaken]; (repeat' split) <;> simp_all [State.modNode, State.node_setNode] <;> (repeat' split) <;> simp_all)

@[simp] theorem State.commitRecord_frame (s : State) (n : NodeId) (i : Slot) (check : Word) :
    (s.commitRecord n i check).groups = s.groups ∧ (s.commitRecord n i check).supervisorPort = s.supervisorPort
      ∧ (s.commitRecord n i check).nodePorts = s.nodePorts ∧ (s.commitRecord n i check).exchanges = s.exchanges
      ∧ (s.commitRecord n i check).queue = s.queue ∧ (s.commitRecord n i check).channels = s.channels
      ∧ (s.commitRecord n i check).monitor = s.monitor ∧ (s.commitRecord n i check).alerts = s.alerts
      ∧ (s.commitRecord n i check).active = s.active ∧ (s.commitRecord n i check).staged = s.staged
      ∧ (s.commitRecord n i check).array = s.array ∧ (s.commitRecord n i check).saving = s.saving
      ∧ (s.commitRecord n i check).clock = s.clock ∧ (s.commitRecord n i check).resetAsserted = s.resetAsserted
      ∧ (s.commitRecord n i check).powered = s.powered ∧ (s.commitRecord n i check).pending = s.pending
      ∧ (∀ k : GroupId, (s.commitRecord n i check).group k = s.group k)
      ∧ (∀ d : ChanId, (s.commitRecord n i check).chan d = s.chan d)
      ∧ (∀ x : NodeId, (s.commitRecord n i check).exchange x = s.exchange x)
      ∧ (∀ l' : Link, (s.commitRecord n i check).port l' = s.port l')
      ∧ (s.commitRecord n i check).store.pool = s.store.pool ∧ (s.commitRecord n i check).store.gens = s.store.gens
      ∧ (∀ x : NodeId, ((s.commitRecord n i check).node x).state = (s.node x).state)
      ∧ (∀ x : NodeId, ((s.commitRecord n i check).node x).attempts = (s.node x).attempts)
      ∧ (∀ x : NodeId, ((s.commitRecord n i check).node x).channel = (s.node x).channel) := by
  refine ⟨?_, ?_, ?_, ?_, ?_, ?_, ?_, ?_, ?_, ?_, ?_, ?_, ?_, ?_, ?_, ?_, ?_, ?_, ?_, ?_, ?_, ?_, ?_, ?_, ?_⟩
  iterate 22 (intros; simp only [State.commitRecord]; (repeat' split) <;> simp_all)
  all_goals (intros; simp only [State.commitRecord]; (repeat' split) <;> simp_all [State.modNode, State.node_setNode] <;> (repeat' split) <;> simp_all)

@[simp] theorem State.passDone_frame (s : State) (n : NodeId) (i : Slot) (r : Record) (expected : Word) (seen : SeenWords) :
    (s.passDone n i r expected seen).groups = s.groups ∧ (s.passDone n i r expected seen).exchanges = s.exchanges
      ∧ (s.passDone n i r expected seen).queue = s.queue ∧ (s.passDone n i r expected seen).channels = s.channels
      ∧ (s.passDone n i r expected seen).monitor = s.monitor ∧ (s.passDone n i r expected seen).alerts = s.alerts
      ∧ (s.passDone n i r expected seen).active = s.active ∧ (s.passDone n i r expected seen).staged = s.staged
      ∧ (s.passDone n i r expected seen).array = s.array ∧ (s.passDone n i r expected seen).saving = s.saving
      ∧ (s.passDone n i r expected seen).clock = s.clock ∧ (s.passDone n i r expected seen).resetAsserted = s.resetAsserted
      ∧ (s.passDone n i r expected seen).powered = s.powered ∧ (s.passDone n i r expected seen).pending = s.pending
      ∧ (∀ d : ChanId, (s.passDone n i r expected seen).chan d = s.chan d)
      ∧ (∀ x : NodeId, (s.passDone n i r expected seen).exchange x = s.exchange x)
      ∧ (s.passDone n i r expected seen).store.pool = s.store.pool ∧ (s.passDone n i r expected seen).store.gens = s.store.gens
      ∧ (∀ l' : Link, l' ≠ .node n → (s.passDone n i r expected seen).port l' = s.port l')
      ∧ (∀ x : NodeId, ((s.passDone n i r expected seen).node x).state = (s.node x).state)
      ∧ (∀ x : NodeId, ((s.passDone n i r expected seen).node x).attempts = (s.node x).attempts)
      ∧ (∀ x : NodeId, ((s.passDone n i r expected seen).node x).channel = (s.node x).channel) := by
  refine ⟨?_, ?_, ?_, ?_, ?_, ?_, ?_, ?_, ?_, ?_, ?_, ?_, ?_, ?_, ?_, ?_, ?_, ?_, ?_, ?_, ?_, ?_⟩
  iterate 19 (intros; simp only [State.passDone]; (repeat' split) <;> simp_all)
  all_goals (intros; simp only [State.passDone]; (repeat' split) <;> simp_all [State.modNode, State.node_setNode] <;> (repeat' split) <;> simp_all)

end Sys2Proof.Machine
end

