-- ==== Sys2Proof/Laws/FrameSupervisor.lean ====
section
/-! SUPPORT. What the operations of Machine/Supervisor.lean leave unchanged: one lemma per operation. -/

namespace Sys2Proof.Machine

set_option linter.all false

@[simp] theorem State.answer_frame (s : State) (k : Kind) (r : Result) (b : Body) :
    (s.answer k r b).nodes = s.nodes ∧ (s.answer k r b).groups = s.groups ∧ (s.answer k r b).exchanges = s.exchanges
      ∧ (s.answer k r b).store = s.store ∧ (s.answer k r b).queue = s.queue ∧ (s.answer k r b).channels = s.channels
      ∧ (s.answer k r b).monitor = s.monitor ∧ (s.answer k r b).alerts = s.alerts ∧ (s.answer k r b).active = s.active
      ∧ (s.answer k r b).staged = s.staged ∧ (s.answer k r b).array = s.array ∧ (s.answer k r b).saving = s.saving
      ∧ (s.answer k r b).clock = s.clock ∧ (s.answer k r b).resetAsserted = s.resetAsserted
      ∧ (s.answer k r b).powered = s.powered ∧ (s.answer k r b).pending = s.pending
      ∧ (∀ x : NodeId, (s.answer k r b).node x = s.node x) ∧ (∀ d : ChanId, (s.answer k r b).chan d = s.chan d)
      ∧ (∀ x : NodeId, (s.answer k r b).exchange x = s.exchange x) := by
  refine ⟨?_, ?_, ?_, ?_, ?_, ?_, ?_, ?_, ?_, ?_, ?_, ?_, ?_, ?_, ?_, ?_, ?_, ?_, ?_⟩ <;> (intros; simp only [State.answer]; (repeat' split) <;> simp_all)

@[simp] theorem State.readNodeTaken_frame (s : State) (p : List Byte) :
    (s.readNodeTaken p).nodes = s.nodes ∧ (s.readNodeTaken p).groups = s.groups
      ∧ (s.readNodeTaken p).exchanges = s.exchanges ∧ (s.readNodeTaken p).store = s.store
      ∧ (s.readNodeTaken p).queue = s.queue ∧ (s.readNodeTaken p).channels = s.channels
      ∧ (s.readNodeTaken p).monitor = s.monitor ∧ (s.readNodeTaken p).alerts = s.alerts
      ∧ (s.readNodeTaken p).active = s.active ∧ (s.readNodeTaken p).staged = s.staged
      ∧ (s.readNodeTaken p).array = s.array ∧ (s.readNodeTaken p).saving = s.saving ∧ (s.readNodeTaken p).clock = s.clock
      ∧ (s.readNodeTaken p).resetAsserted = s.resetAsserted ∧ (s.readNodeTaken p).powered = s.powered
      ∧ (s.readNodeTaken p).pending = s.pending ∧ (∀ x : NodeId, (s.readNodeTaken p).node x = s.node x)
      ∧ (∀ d : ChanId, (s.readNodeTaken p).chan d = s.chan d)
      ∧ (∀ x : NodeId, (s.readNodeTaken p).exchange x = s.exchange x) := by
  refine ⟨?_, ?_, ?_, ?_, ?_, ?_, ?_, ?_, ?_, ?_, ?_, ?_, ?_, ?_, ?_, ?_, ?_, ?_, ?_⟩ <;> (intros; simp only [State.readNodeTaken]; (repeat' split) <;> simp_all)

@[simp] theorem State.readGroupTaken_frame (s : State) (p : List Byte) :
    (s.readGroupTaken p).nodes = s.nodes ∧ (s.readGroupTaken p).groups = s.groups
      ∧ (s.readGroupTaken p).exchanges = s.exchanges ∧ (s.readGroupTaken p).store = s.store
      ∧ (s.readGroupTaken p).queue = s.queue ∧ (s.readGroupTaken p).channels = s.channels
      ∧ (s.readGroupTaken p).monitor = s.monitor ∧ (s.readGroupTaken p).alerts = s.alerts
      ∧ (s.readGroupTaken p).active = s.active ∧ (s.readGroupTaken p).staged = s.staged
      ∧ (s.readGroupTaken p).array = s.array ∧ (s.readGroupTaken p).saving = s.saving
      ∧ (s.readGroupTaken p).clock = s.clock ∧ (s.readGroupTaken p).resetAsserted = s.resetAsserted
      ∧ (s.readGroupTaken p).powered = s.powered ∧ (s.readGroupTaken p).pending = s.pending
      ∧ (∀ x : NodeId, (s.readGroupTaken p).node x = s.node x) ∧ (∀ d : ChanId, (s.readGroupTaken p).chan d = s.chan d)
      ∧ (∀ x : NodeId, (s.readGroupTaken p).exchange x = s.exchange x) := by
  refine ⟨?_, ?_, ?_, ?_, ?_, ?_, ?_, ?_, ?_, ?_, ?_, ?_, ?_, ?_, ?_, ?_, ?_, ?_, ?_⟩ <;> (intros; simp only [State.readGroupTaken]; (repeat' split) <;> simp_all)

@[simp] theorem State.readAlertsTaken_frame (s : State) :
    (s.readAlertsTaken).nodes = s.nodes ∧ (s.readAlertsTaken).groups = s.groups
      ∧ (s.readAlertsTaken).exchanges = s.exchanges ∧ (s.readAlertsTaken).store = s.store
      ∧ (s.readAlertsTaken).queue = s.queue ∧ (s.readAlertsTaken).channels = s.channels
      ∧ (s.readAlertsTaken).monitor = s.monitor ∧ (s.readAlertsTaken).active = s.active
      ∧ (s.readAlertsTaken).staged = s.staged ∧ (s.readAlertsTaken).array = s.array
      ∧ (s.readAlertsTaken).saving = s.saving ∧ (s.readAlertsTaken).clock = s.clock
      ∧ (s.readAlertsTaken).resetAsserted = s.resetAsserted ∧ (s.readAlertsTaken).powered = s.powered
      ∧ (s.readAlertsTaken).pending = s.pending := by
  refine ⟨?_, ?_, ?_, ?_, ?_, ?_, ?_, ?_, ?_, ?_, ?_, ?_, ?_, ?_, ?_⟩ <;> (intros; simp only [State.readAlertsTaken]; (repeat' split) <;> simp_all)

@[simp] theorem State.setPeek_frame (s : State) (c : Option Cursor) :
    (s.setPeek c).nodes = s.nodes ∧ (s.setPeek c).groups = s.groups ∧ (s.setPeek c).supervisorPort = s.supervisorPort
      ∧ (s.setPeek c).nodePorts = s.nodePorts ∧ (s.setPeek c).exchanges = s.exchanges ∧ (s.setPeek c).queue = s.queue
      ∧ (s.setPeek c).channels = s.channels ∧ (s.setPeek c).monitor = s.monitor ∧ (s.setPeek c).alerts = s.alerts
      ∧ (s.setPeek c).active = s.active ∧ (s.setPeek c).staged = s.staged ∧ (s.setPeek c).array = s.array
      ∧ (s.setPeek c).saving = s.saving ∧ (s.setPeek c).clock = s.clock ∧ (s.setPeek c).resetAsserted = s.resetAsserted
      ∧ (s.setPeek c).powered = s.powered ∧ (s.setPeek c).pending = s.pending
      ∧ (∀ x : NodeId, (s.setPeek c).node x = s.node x) ∧ (∀ k : GroupId, (s.setPeek c).group k = s.group k)
      ∧ (∀ d : ChanId, (s.setPeek c).chan d = s.chan d) ∧ (∀ x : NodeId, (s.setPeek c).exchange x = s.exchange x)
      ∧ (∀ l' : Link, (s.setPeek c).port l' = s.port l') ∧ (s.setPeek c).store.pool = s.store.pool
      ∧ (s.setPeek c).store.gens = s.store.gens := by
  refine ⟨?_, ?_, ?_, ?_, ?_, ?_, ?_, ?_, ?_, ?_, ?_, ?_, ?_, ?_, ?_, ?_, ?_, ?_, ?_, ?_, ?_, ?_, ?_, ?_⟩ <;> (intros; simp only [State.setPeek]; (repeat' split) <;> simp_all)

@[simp] theorem State.peekAtTaken_frame (s : State) (p : List Byte) :
    (s.peekAtTaken p).nodes = s.nodes ∧ (s.peekAtTaken p).groups = s.groups ∧ (s.peekAtTaken p).exchanges = s.exchanges
      ∧ (s.peekAtTaken p).queue = s.queue ∧ (s.peekAtTaken p).channels = s.channels
      ∧ (s.peekAtTaken p).monitor = s.monitor ∧ (s.peekAtTaken p).alerts = s.alerts ∧ (s.peekAtTaken p).active = s.active
      ∧ (s.peekAtTaken p).staged = s.staged ∧ (s.peekAtTaken p).array = s.array ∧ (s.peekAtTaken p).saving = s.saving
      ∧ (s.peekAtTaken p).clock = s.clock ∧ (s.peekAtTaken p).resetAsserted = s.resetAsserted
      ∧ (s.peekAtTaken p).powered = s.powered ∧ (s.peekAtTaken p).pending = s.pending
      ∧ (∀ x : NodeId, (s.peekAtTaken p).node x = s.node x) ∧ (∀ d : ChanId, (s.peekAtTaken p).chan d = s.chan d)
      ∧ (∀ x : NodeId, (s.peekAtTaken p).exchange x = s.exchange x) ∧ (s.peekAtTaken p).store.pool = s.store.pool
      ∧ (s.peekAtTaken p).store.gens = s.store.gens := by
  refine ⟨?_, ?_, ?_, ?_, ?_, ?_, ?_, ?_, ?_, ?_, ?_, ?_, ?_, ?_, ?_, ?_, ?_, ?_, ?_, ?_⟩ <;> (intros; simp only [State.peekAtTaken]; (repeat' split) <;> simp_all)

@[simp] theorem State.peekRead_frame (s : State) (c : Cursor) (r : Record) :
    (s.peekRead c r).nodes = s.nodes ∧ (s.peekRead c r).groups = s.groups ∧ (s.peekRead c r).exchanges = s.exchanges
      ∧ (s.peekRead c r).queue = s.queue ∧ (s.peekRead c r).channels = s.channels ∧ (s.peekRead c r).monitor = s.monitor
      ∧ (s.peekRead c r).alerts = s.alerts ∧ (s.peekRead c r).active = s.active ∧ (s.peekRead c r).staged = s.staged
      ∧ (s.peekRead c r).array = s.array ∧ (s.peekRead c r).saving = s.saving ∧ (s.peekRead c r).clock = s.clock
      ∧ (s.peekRead c r).resetAsserted = s.resetAsserted ∧ (s.peekRead c r).powered = s.powered
      ∧ (s.peekRead c r).pending = s.pending ∧ (∀ x : NodeId, (s.peekRead c r).node x = s.node x)
      ∧ (∀ d : ChanId, (s.peekRead c r).chan d = s.chan d) ∧ (∀ x : NodeId, (s.peekRead c r).exchange x = s.exchange x)
      ∧ (s.peekRead c r).store.pool = s.store.pool ∧ (s.peekRead c r).store.gens = s.store.gens := by
  refine ⟨?_, ?_, ?_, ?_, ?_, ?_, ?_, ?_, ?_, ?_, ?_, ?_, ?_, ?_, ?_, ?_, ?_, ?_, ?_, ?_⟩ <;> (intros; simp only [State.peekRead]; (repeat' split) <;> simp_all)

@[simp] theorem State.peekNextTaken_frame (s : State) :
    (s.peekNextTaken).nodes = s.nodes ∧ (s.peekNextTaken).groups = s.groups ∧ (s.peekNextTaken).exchanges = s.exchanges
      ∧ (s.peekNextTaken).queue = s.queue ∧ (s.peekNextTaken).channels = s.channels
      ∧ (s.peekNextTaken).monitor = s.monitor ∧ (s.peekNextTaken).alerts = s.alerts ∧ (s.peekNextTaken).active = s.active
      ∧ (s.peekNextTaken).staged = s.staged ∧ (s.peekNextTaken).array = s.array ∧ (s.peekNextTaken).saving = s.saving
      ∧ (s.peekNextTaken).clock = s.clock ∧ (s.peekNextTaken).resetAsserted = s.resetAsserted
      ∧ (s.peekNextTaken).powered = s.powered ∧ (s.peekNextTaken).pending = s.pending
      ∧ (∀ x : NodeId, (s.peekNextTaken).node x = s.node x) ∧ (∀ d : ChanId, (s.peekNextTaken).chan d = s.chan d)
      ∧ (∀ x : NodeId, (s.peekNextTaken).exchange x = s.exchange x) ∧ (s.peekNextTaken).store.pool = s.store.pool
      ∧ (s.peekNextTaken).store.gens = s.store.gens := by
  refine ⟨?_, ?_, ?_, ?_, ?_, ?_, ?_, ?_, ?_, ?_, ?_, ?_, ?_, ?_, ?_, ?_, ?_, ?_, ?_, ?_⟩ <;> (intros; simp only [State.peekNextTaken]; (repeat' split) <;> simp_all)

@[simp] theorem State.restartNode_frame (s : State) (n : NodeId) (force : Bool) :
    (s.restartNode n force).channels = s.channels ∧ (s.restartNode n force).monitor = s.monitor
      ∧ (s.restartNode n force).active = s.active ∧ (s.restartNode n force).staged = s.staged
      ∧ (s.restartNode n force).array = s.array ∧ (s.restartNode n force).saving = s.saving
      ∧ (s.restartNode n force).clock = s.clock ∧ (s.restartNode n force).resetAsserted = s.resetAsserted
      ∧ (s.restartNode n force).powered = s.powered ∧ (s.restartNode n force).pending = s.pending
      ∧ (∀ d : ChanId, (s.restartNode n force).chan d = s.chan d) ∧ (s.restartNode n force).store.pool = s.store.pool
      ∧ (s.restartNode n force).store.gens = s.store.gens := by
  refine ⟨?_, ?_, ?_, ?_, ?_, ?_, ?_, ?_, ?_, ?_, ?_, ?_, ?_⟩ <;> (intros; simp only [State.restartNode]; (repeat' split) <;> simp_all)

@[simp] theorem State.restartTaken_frame (s : State) (p : List Byte) :
    (s.restartTaken p).channels = s.channels ∧ (s.restartTaken p).monitor = s.monitor
      ∧ (s.restartTaken p).active = s.active ∧ (s.restartTaken p).staged = s.staged ∧ (s.restartTaken p).array = s.array
      ∧ (s.restartTaken p).saving = s.saving ∧ (s.restartTaken p).clock = s.clock
      ∧ (s.restartTaken p).resetAsserted = s.resetAsserted ∧ (s.restartTaken p).powered = s.powered
      ∧ (s.restartTaken p).pending = s.pending ∧ (∀ d : ChanId, (s.restartTaken p).chan d = s.chan d)
      ∧ (s.restartTaken p).store.pool = s.store.pool ∧ (s.restartTaken p).store.gens = s.store.gens := by
  refine ⟨?_, ?_, ?_, ?_, ?_, ?_, ?_, ?_, ?_, ?_, ?_, ?_, ?_⟩ <;> (intros; simp only [State.restartTaken]; (repeat' split) <;> simp_all)

@[simp] theorem State.haltTaken_frame (s : State) (p : List Byte) :
    (s.haltTaken p).monitor = s.monitor ∧ (s.haltTaken p).active = s.active ∧ (s.haltTaken p).staged = s.staged
      ∧ (s.haltTaken p).array = s.array ∧ (s.haltTaken p).saving = s.saving ∧ (s.haltTaken p).clock = s.clock
      ∧ (s.haltTaken p).resetAsserted = s.resetAsserted ∧ (s.haltTaken p).powered = s.powered
      ∧ (s.haltTaken p).pending = s.pending ∧ (s.haltTaken p).store.pool = s.store.pool
      ∧ (s.haltTaken p).store.gens = s.store.gens := by
  refine ⟨?_, ?_, ?_, ?_, ?_, ?_, ?_, ?_, ?_, ?_, ?_⟩ <;> (intros; simp only [State.haltTaken, State.aboutNode]; (repeat' split) <;> simp_all)

@[simp] theorem State.releaseTaken_frame (s : State) (p : List Byte) :
    (s.releaseTaken p).groups = s.groups ∧ (s.releaseTaken p).exchanges = s.exchanges ∧ (s.releaseTaken p).store = s.store
      ∧ (s.releaseTaken p).queue = s.queue ∧ (s.releaseTaken p).channels = s.channels
      ∧ (s.releaseTaken p).monitor = s.monitor ∧ (s.releaseTaken p).active = s.active
      ∧ (s.releaseTaken p).staged = s.staged ∧ (s.releaseTaken p).array = s.array ∧ (s.releaseTaken p).saving = s.saving
      ∧ (s.releaseTaken p).clock = s.clock ∧ (s.releaseTaken p).resetAsserted = s.resetAsserted
      ∧ (s.releaseTaken p).powered = s.powered ∧ (s.releaseTaken p).pending = s.pending
      ∧ (∀ d : ChanId, (s.releaseTaken p).chan d = s.chan d)
      ∧ (∀ x : NodeId, (s.releaseTaken p).exchange x = s.exchange x) := by
  refine ⟨?_, ?_, ?_, ?_, ?_, ?_, ?_, ?_, ?_, ?_, ?_, ?_, ?_, ?_, ?_, ?_⟩ <;> (intros; simp only [State.releaseTaken, State.aboutNode]; (repeat' split) <;> simp_all)

@[simp] theorem State.maskTaken_frame (s : State) (p : List Byte) :
    (s.maskTaken p).nodes = s.nodes ∧ (s.maskTaken p).groups = s.groups ∧ (s.maskTaken p).exchanges = s.exchanges
      ∧ (s.maskTaken p).store = s.store ∧ (s.maskTaken p).queue = s.queue ∧ (s.maskTaken p).channels = s.channels
      ∧ (s.maskTaken p).monitor = s.monitor ∧ (s.maskTaken p).active = s.active ∧ (s.maskTaken p).staged = s.staged
      ∧ (s.maskTaken p).array = s.array ∧ (s.maskTaken p).saving = s.saving ∧ (s.maskTaken p).clock = s.clock
      ∧ (s.maskTaken p).resetAsserted = s.resetAsserted ∧ (s.maskTaken p).powered = s.powered
      ∧ (s.maskTaken p).pending = s.pending := by
  refine ⟨?_, ?_, ?_, ?_, ?_, ?_, ?_, ?_, ?_, ?_, ?_, ?_, ?_, ?_, ?_⟩ <;> (intros; simp only [State.maskTaken]; (repeat' split) <;> simp_all)

end Sys2Proof.Machine
end

