-- ==== Sys2Proof/Laws/FramePlanUnit.lean ====
section
/-! SUPPORT. What the operations of Machine/PlanUnit.lean leave unchanged: one lemma per operation. -/

namespace Sys2Proof.Machine

set_option linter.all false

@[simp] theorem State.setTaken_frame (s : State) (p : List Byte) :
    (s.setTaken p).nodes = s.nodes ∧ (s.setTaken p).groups = s.groups ∧ (s.setTaken p).exchanges = s.exchanges
      ∧ (s.setTaken p).store = s.store ∧ (s.setTaken p).queue = s.queue ∧ (s.setTaken p).channels = s.channels
      ∧ (s.setTaken p).monitor = s.monitor ∧ (s.setTaken p).alerts = s.alerts ∧ (s.setTaken p).active = s.active
      ∧ (s.setTaken p).array = s.array ∧ (s.setTaken p).saving = s.saving ∧ (s.setTaken p).clock = s.clock
      ∧ (s.setTaken p).resetAsserted = s.resetAsserted ∧ (s.setTaken p).powered = s.powered
      ∧ (s.setTaken p).pending = s.pending := by
  refine ⟨?_, ?_, ?_, ?_, ?_, ?_, ?_, ?_, ?_, ?_, ?_, ?_, ?_, ?_, ?_⟩ <;> (intros; simp only [State.setTaken]; (repeat' split) <;> simp_all)

@[simp] theorem State.uproot_frame (s : State) (n : NodeId) :
    (s.uproot n).groups = s.groups ∧ (s.uproot n).exchanges = s.exchanges ∧ (s.uproot n).queue = s.queue
      ∧ (s.uproot n).channels = s.channels ∧ (s.uproot n).monitor = s.monitor ∧ (s.uproot n).alerts = s.alerts
      ∧ (s.uproot n).active = s.active ∧ (s.uproot n).staged = s.staged ∧ (s.uproot n).array = s.array
      ∧ (s.uproot n).saving = s.saving ∧ (s.uproot n).clock = s.clock ∧ (s.uproot n).resetAsserted = s.resetAsserted
      ∧ (s.uproot n).powered = s.powered ∧ (s.uproot n).pending = s.pending
      ∧ (∀ d : ChanId, (s.uproot n).chan d = s.chan d) ∧ (∀ x : NodeId, (s.uproot n).exchange x = s.exchange x)
      ∧ (s.uproot n).store.pool = s.store.pool ∧ (s.uproot n).store.gens = s.store.gens
      ∧ (∀ l' : Link, l' ≠ .node n → (s.uproot n).port l' = s.port l')
      ∧ (∀ x : NodeId, ((s.uproot n).node x).state = (s.node x).state)
      ∧ (∀ x : NodeId, ((s.uproot n).node x).attempts = (s.node x).attempts)
      ∧ (∀ x : NodeId, ((s.uproot n).node x).channel = (s.node x).channel) := by
  refine ⟨?_, ?_, ?_, ?_, ?_, ?_, ?_, ?_, ?_, ?_, ?_, ?_, ?_, ?_, ?_, ?_, ?_, ?_, ?_, ?_, ?_, ?_⟩
  iterate 19 (intros; simp only [State.uproot]; (repeat' split) <;> simp_all)
  all_goals (intros; simp only [State.uproot]; (repeat' split) <;> simp_all [State.modNode, State.node_setNode] <;> (repeat' split) <;> simp_all)

@[simp] theorem State.forgetTake_frame (s : State) (g : GroupId) :
    (s.forgetTake g).nodes = s.nodes ∧ (s.forgetTake g).groups = s.groups
      ∧ (s.forgetTake g).supervisorPort = s.supervisorPort ∧ (s.forgetTake g).nodePorts = s.nodePorts
      ∧ (s.forgetTake g).store = s.store ∧ (s.forgetTake g).queue = s.queue ∧ (s.forgetTake g).channels = s.channels
      ∧ (s.forgetTake g).monitor = s.monitor ∧ (s.forgetTake g).alerts = s.alerts ∧ (s.forgetTake g).active = s.active
      ∧ (s.forgetTake g).staged = s.staged ∧ (s.forgetTake g).array = s.array ∧ (s.forgetTake g).saving = s.saving
      ∧ (s.forgetTake g).clock = s.clock ∧ (s.forgetTake g).resetAsserted = s.resetAsserted
      ∧ (s.forgetTake g).powered = s.powered ∧ (s.forgetTake g).pending = s.pending
      ∧ (∀ x : NodeId, (s.forgetTake g).node x = s.node x) ∧ (∀ k : GroupId, (s.forgetTake g).group k = s.group k)
      ∧ (∀ d : ChanId, (s.forgetTake g).chan d = s.chan d) ∧ (∀ l' : Link, (s.forgetTake g).port l' = s.port l') := by
  refine ⟨?_, ?_, ?_, ?_, ?_, ?_, ?_, ?_, ?_, ?_, ?_, ?_, ?_, ?_, ?_, ?_, ?_, ?_, ?_, ?_, ?_⟩ <;> (intros; simp only [State.forgetTake]; (repeat' split) <;> simp_all)

@[simp] theorem State.foldModNode_frame (s : State) (l : List NodeId) (f : NodeRec → NodeRec) :
    (l.foldl (fun s n => s.modNode n f) s).groups = s.groups
      ∧ (l.foldl (fun s n => s.modNode n f) s).supervisorPort = s.supervisorPort
      ∧ (l.foldl (fun s n => s.modNode n f) s).nodePorts = s.nodePorts
      ∧ (l.foldl (fun s n => s.modNode n f) s).exchanges = s.exchanges
      ∧ (l.foldl (fun s n => s.modNode n f) s).store = s.store ∧ (l.foldl (fun s n => s.modNode n f) s).queue = s.queue
      ∧ (l.foldl (fun s n => s.modNode n f) s).channels = s.channels
      ∧ (l.foldl (fun s n => s.modNode n f) s).monitor = s.monitor
      ∧ (l.foldl (fun s n => s.modNode n f) s).alerts = s.alerts
      ∧ (l.foldl (fun s n => s.modNode n f) s).active = s.active
      ∧ (l.foldl (fun s n => s.modNode n f) s).staged = s.staged ∧ (l.foldl (fun s n => s.modNode n f) s).array = s.array
      ∧ (l.foldl (fun s n => s.modNode n f) s).saving = s.saving ∧ (l.foldl (fun s n => s.modNode n f) s).clock = s.clock
      ∧ (l.foldl (fun s n => s.modNode n f) s).resetAsserted = s.resetAsserted
      ∧ (l.foldl (fun s n => s.modNode n f) s).powered = s.powered
      ∧ (l.foldl (fun s n => s.modNode n f) s).pending = s.pending :=
  ⟨foldl_keeps _ (fun s : State => s.groups) (by intros; simp) _ s,
    foldl_keeps _ (fun s : State => s.supervisorPort) (by intros; simp) _ s,
    foldl_keeps _ (fun s : State => s.nodePorts) (by intros; simp) _ s,
    foldl_keeps _ (fun s : State => s.exchanges) (by intros; simp) _ s,
    foldl_keeps _ (fun s : State => s.store) (by intros; simp) _ s,
    foldl_keeps _ (fun s : State => s.queue) (by intros; simp) _ s,
    foldl_keeps _ (fun s : State => s.channels) (by intros; simp) _ s,
    foldl_keeps _ (fun s : State => s.monitor) (by intros; simp) _ s,
    foldl_keeps _ (fun s : State => s.alerts) (by intros; simp) _ s,
    foldl_keeps _ (fun s : State => s.active) (by intros; simp) _ s,
    foldl_keeps _ (fun s : State => s.staged) (by intros; simp) _ s,
    foldl_keeps _ (fun s : State => s.array) (by intros; simp) _ s,
    foldl_keeps _ (fun s : State => s.saving) (by intros; simp) _ s,
    foldl_keeps _ (fun s : State => s.clock) (by intros; simp) _ s,
    foldl_keeps _ (fun s : State => s.resetAsserted) (by intros; simp) _ s,
    foldl_keeps _ (fun s : State => s.powered) (by intros; simp) _ s,
    foldl_keeps _ (fun s : State => s.pending) (by intros; simp) _ s⟩

@[simp] theorem State.regroup_frame (s : State) (g : GroupId) :
    (s.regroup g).store = s.store ∧ (s.regroup g).channels = s.channels ∧ (s.regroup g).monitor = s.monitor
      ∧ (s.regroup g).active = s.active ∧ (s.regroup g).staged = s.staged ∧ (s.regroup g).array = s.array
      ∧ (s.regroup g).saving = s.saving ∧ (s.regroup g).clock = s.clock ∧ (s.regroup g).resetAsserted = s.resetAsserted
      ∧ (s.regroup g).powered = s.powered ∧ (s.regroup g).pending = s.pending := by
  refine ⟨?_, ?_, ?_, ?_, ?_, ?_, ?_, ?_, ?_, ?_, ?_⟩ <;> (intros; simp only [State.regroup]; (repeat' split) <;> simp_all)

@[simp] theorem State.foldUproot_frame (s : State) (l : List NodeId) :
    (l.foldl State.uproot s).groups = s.groups ∧ (l.foldl State.uproot s).exchanges = s.exchanges
      ∧ (l.foldl State.uproot s).queue = s.queue ∧ (l.foldl State.uproot s).channels = s.channels
      ∧ (l.foldl State.uproot s).monitor = s.monitor ∧ (l.foldl State.uproot s).alerts = s.alerts
      ∧ (l.foldl State.uproot s).active = s.active ∧ (l.foldl State.uproot s).staged = s.staged
      ∧ (l.foldl State.uproot s).array = s.array ∧ (l.foldl State.uproot s).saving = s.saving
      ∧ (l.foldl State.uproot s).clock = s.clock ∧ (l.foldl State.uproot s).resetAsserted = s.resetAsserted
      ∧ (l.foldl State.uproot s).powered = s.powered ∧ (l.foldl State.uproot s).pending = s.pending
      ∧ (l.foldl State.uproot s).store.pool = s.store.pool ∧ (l.foldl State.uproot s).store.gens = s.store.gens :=
  ⟨foldl_keeps _ (fun s : State => s.groups) (by intros; simp) _ s,
    foldl_keeps _ (fun s : State => s.exchanges) (by intros; simp) _ s,
    foldl_keeps _ (fun s : State => s.queue) (by intros; simp) _ s,
    foldl_keeps _ (fun s : State => s.channels) (by intros; simp) _ s,
    foldl_keeps _ (fun s : State => s.monitor) (by intros; simp) _ s,
    foldl_keeps _ (fun s : State => s.alerts) (by intros; simp) _ s,
    foldl_keeps _ (fun s : State => s.active) (by intros; simp) _ s,
    foldl_keeps _ (fun s : State => s.staged) (by intros; simp) _ s,
    foldl_keeps _ (fun s : State => s.array) (by intros; simp) _ s,
    foldl_keeps _ (fun s : State => s.saving) (by intros; simp) _ s,
    foldl_keeps _ (fun s : State => s.clock) (by intros; simp) _ s,
    foldl_keeps _ (fun s : State => s.resetAsserted) (by intros; simp) _ s,
    foldl_keeps _ (fun s : State => s.powered) (by intros; simp) _ s,
    foldl_keeps _ (fun s : State => s.pending) (by intros; simp) _ s,
    foldl_keeps _ (fun s : State => s.store.pool) (by intros; simp) _ s,
    foldl_keeps _ (fun s : State => s.store.gens) (by intros; simp) _ s⟩

@[simp] theorem State.foldRegroup_frame (s : State) (l : List GroupId) :
    (l.foldl State.regroup s).store = s.store ∧ (l.foldl State.regroup s).channels = s.channels
      ∧ (l.foldl State.regroup s).monitor = s.monitor ∧ (l.foldl State.regroup s).active = s.active
      ∧ (l.foldl State.regroup s).staged = s.staged ∧ (l.foldl State.regroup s).array = s.array
      ∧ (l.foldl State.regroup s).saving = s.saving ∧ (l.foldl State.regroup s).clock = s.clock
      ∧ (l.foldl State.regroup s).resetAsserted = s.resetAsserted ∧ (l.foldl State.regroup s).powered = s.powered
      ∧ (l.foldl State.regroup s).pending = s.pending :=
  ⟨foldl_keeps _ (fun s : State => s.store) (by intros; simp) _ s,
    foldl_keeps _ (fun s : State => s.channels) (by intros; simp) _ s,
    foldl_keeps _ (fun s : State => s.monitor) (by intros; simp) _ s,
    foldl_keeps _ (fun s : State => s.active) (by intros; simp) _ s,
    foldl_keeps _ (fun s : State => s.staged) (by intros; simp) _ s,
    foldl_keeps _ (fun s : State => s.array) (by intros; simp) _ s,
    foldl_keeps _ (fun s : State => s.saving) (by intros; simp) _ s,
    foldl_keeps _ (fun s : State => s.clock) (by intros; simp) _ s,
    foldl_keeps _ (fun s : State => s.resetAsserted) (by intros; simp) _ s,
    foldl_keeps _ (fun s : State => s.powered) (by intros; simp) _ s,
    foldl_keeps _ (fun s : State => s.pending) (by intros; simp) _ s⟩

@[simp] theorem State.activate_frame (s : State) :
    (s.activate).channels = s.channels ∧ (s.activate).monitor = s.monitor ∧ (s.activate).staged = s.staged
      ∧ (s.activate).array = s.array ∧ (s.activate).saving = s.saving ∧ (s.activate).clock = s.clock
      ∧ (s.activate).resetAsserted = s.resetAsserted ∧ (s.activate).powered = s.powered ∧ (s.activate).pending = s.pending
      ∧ (s.activate).store.pool = s.store.pool ∧ (s.activate).store.gens = s.store.gens := by
  refine ⟨?_, ?_, ?_, ?_, ?_, ?_, ?_, ?_, ?_, ?_, ?_⟩ <;> (intros; simp only [State.activate]; (repeat' split) <;> simp_all)

@[simp] theorem State.applyTaken_frame (s : State) :
    (s.applyTaken).channels = s.channels ∧ (s.applyTaken).monitor = s.monitor ∧ (s.applyTaken).staged = s.staged
      ∧ (s.applyTaken).array = s.array ∧ (s.applyTaken).saving = s.saving ∧ (s.applyTaken).clock = s.clock
      ∧ (s.applyTaken).resetAsserted = s.resetAsserted ∧ (s.applyTaken).powered = s.powered
      ∧ (s.applyTaken).pending = s.pending ∧ (s.applyTaken).store.pool = s.store.pool
      ∧ (s.applyTaken).store.gens = s.store.gens := by
  refine ⟨?_, ?_, ?_, ?_, ?_, ?_, ?_, ?_, ?_, ?_, ?_⟩ <;> (intros; simp only [State.applyTaken]; (repeat' split) <;> simp_all)

@[simp] theorem State.saveTaken_frame (s : State) :
    (s.saveTaken).nodes = s.nodes ∧ (s.saveTaken).groups = s.groups ∧ (s.saveTaken).exchanges = s.exchanges
      ∧ (s.saveTaken).store = s.store ∧ (s.saveTaken).queue = s.queue ∧ (s.saveTaken).channels = s.channels
      ∧ (s.saveTaken).monitor = s.monitor ∧ (s.saveTaken).alerts = s.alerts ∧ (s.saveTaken).active = s.active
      ∧ (s.saveTaken).staged = s.staged ∧ (s.saveTaken).clock = s.clock ∧ (s.saveTaken).resetAsserted = s.resetAsserted
      ∧ (s.saveTaken).powered = s.powered ∧ (s.saveTaken).pending = s.pending := by
  refine ⟨?_, ?_, ?_, ?_, ?_, ?_, ?_, ?_, ?_, ?_, ?_, ?_, ?_, ?_⟩ <;> (intros; simp only [State.saveTaken]; (repeat' split) <;> simp_all)

@[simp] theorem State.saveDone_frame (s : State) (img : Image) (sum : Word) :
    (s.saveDone img sum).nodes = s.nodes ∧ (s.saveDone img sum).groups = s.groups
      ∧ (s.saveDone img sum).exchanges = s.exchanges ∧ (s.saveDone img sum).store = s.store
      ∧ (s.saveDone img sum).queue = s.queue ∧ (s.saveDone img sum).channels = s.channels
      ∧ (s.saveDone img sum).monitor = s.monitor ∧ (s.saveDone img sum).alerts = s.alerts
      ∧ (s.saveDone img sum).active = s.active ∧ (s.saveDone img sum).staged = s.staged
      ∧ (s.saveDone img sum).clock = s.clock ∧ (s.saveDone img sum).resetAsserted = s.resetAsserted
      ∧ (s.saveDone img sum).powered = s.powered ∧ (s.saveDone img sum).pending = s.pending := by
  refine ⟨?_, ?_, ?_, ?_, ?_, ?_, ?_, ?_, ?_, ?_, ?_, ?_, ?_, ?_⟩ <;> (intros; simp only [State.saveDone]; (repeat' split) <;> simp_all)

end Sys2Proof.Machine
end

