-- ==== Sys2Proof/Laws/FrameResets.lean ====
section
/-! SUPPORT. What the operations of Machine/Resets.lean leave unchanged: one lemma per operation. -/

namespace Sys2Proof.Machine

set_option linter.all false

@[simp] theorem State.resetBlocks_frame (s : State) (planFault : Bool) :
    (s.resetBlocks planFault).store = s.store ∧ (s.resetBlocks planFault).active = s.active
      ∧ (s.resetBlocks planFault).staged = s.staged ∧ (s.resetBlocks planFault).array = s.array
      ∧ (s.resetBlocks planFault).saving = s.saving ∧ (s.resetBlocks planFault).clock = s.clock
      ∧ (s.resetBlocks planFault).resetAsserted = s.resetAsserted ∧ (s.resetBlocks planFault).powered = s.powered
      ∧ (s.resetBlocks planFault).pending = s.pending := by
  refine ⟨?_, ?_, ?_, ?_, ?_, ?_, ?_, ?_, ?_⟩ <;> (intros; simp only [State.resetBlocks] <;> (try rfl) <;> (try simp))

@[simp] theorem State.loadImage_frame (s : State) (img : Image) :
    (s.loadImage img).nodes = s.nodes ∧ (s.loadImage img).groups = s.groups
      ∧ (s.loadImage img).supervisorPort = s.supervisorPort ∧ (s.loadImage img).nodePorts = s.nodePorts
      ∧ (s.loadImage img).exchanges = s.exchanges ∧ (s.loadImage img).store = s.store ∧ (s.loadImage img).queue = s.queue
      ∧ (s.loadImage img).channels = s.channels ∧ (s.loadImage img).alerts = s.alerts ∧ (s.loadImage img).array = s.array
      ∧ (s.loadImage img).saving = s.saving ∧ (s.loadImage img).clock = s.clock
      ∧ (s.loadImage img).resetAsserted = s.resetAsserted ∧ (s.loadImage img).powered = s.powered
      ∧ (s.loadImage img).pending = s.pending ∧ (∀ x : NodeId, (s.loadImage img).node x = s.node x)
      ∧ (∀ k : GroupId, (s.loadImage img).group k = s.group k) ∧ (∀ d : ChanId, (s.loadImage img).chan d = s.chan d)
      ∧ (∀ x : NodeId, (s.loadImage img).exchange x = s.exchange x) ∧ (∀ l' : Link, (s.loadImage img).port l' = s.port l') := by
  refine ⟨?_, ?_, ?_, ?_, ?_, ?_, ?_, ?_, ?_, ?_, ?_, ?_, ?_, ?_, ?_, ?_, ?_, ?_, ?_, ?_⟩ <;> (intros; simp only [State.loadImage] <;> (try rfl) <;> (try simp))

@[simp] theorem State.dropForReset_frame (s : State) (keep : NodeId → Bool) (n : NodeId) :
    (s.dropForReset keep n).groups = s.groups ∧ (s.dropForReset keep n).supervisorPort = s.supervisorPort
      ∧ (s.dropForReset keep n).nodePorts = s.nodePorts ∧ (s.dropForReset keep n).exchanges = s.exchanges
      ∧ (s.dropForReset keep n).queue = s.queue ∧ (s.dropForReset keep n).channels = s.channels
      ∧ (s.dropForReset keep n).monitor = s.monitor ∧ (s.dropForReset keep n).alerts = s.alerts
      ∧ (s.dropForReset keep n).active = s.active ∧ (s.dropForReset keep n).staged = s.staged
      ∧ (s.dropForReset keep n).array = s.array ∧ (s.dropForReset keep n).saving = s.saving
      ∧ (s.dropForReset keep n).clock = s.clock ∧ (s.dropForReset keep n).resetAsserted = s.resetAsserted
      ∧ (s.dropForReset keep n).powered = s.powered ∧ (s.dropForReset keep n).pending = s.pending
      ∧ (∀ k : GroupId, (s.dropForReset keep n).group k = s.group k)
      ∧ (∀ d : ChanId, (s.dropForReset keep n).chan d = s.chan d)
      ∧ (∀ x : NodeId, (s.dropForReset keep n).exchange x = s.exchange x)
      ∧ (∀ l' : Link, (s.dropForReset keep n).port l' = s.port l') ∧ (s.dropForReset keep n).store.pool = s.store.pool
      ∧ (s.dropForReset keep n).store.gens = s.store.gens
      ∧ (∀ x : NodeId, ((s.dropForReset keep n).node x).state = (s.node x).state)
      ∧ (∀ x : NodeId, ((s.dropForReset keep n).node x).attempts = (s.node x).attempts)
      ∧ (∀ x : NodeId, ((s.dropForReset keep n).node x).channel = (s.node x).channel) := by
  refine ⟨?_, ?_, ?_, ?_, ?_, ?_, ?_, ?_, ?_, ?_, ?_, ?_, ?_, ?_, ?_, ?_, ?_, ?_, ?_, ?_, ?_, ?_, ?_, ?_, ?_⟩
  iterate 22 (intros; simp only [State.dropForReset]; (repeat' split) <;> simp_all)
  all_goals (intros; simp only [State.dropForReset]; (repeat' split) <;> simp_all [State.modNode, State.node_setNode] <;> (repeat' split) <;> simp_all)

@[simp] theorem State.foldDropForReset_frame (s : State) (keep : NodeId → Bool) (l : List NodeId) :
    (l.foldl (fun s n => s.dropForReset keep n) s).groups = s.groups
      ∧ (l.foldl (fun s n => s.dropForReset keep n) s).supervisorPort = s.supervisorPort
      ∧ (l.foldl (fun s n => s.dropForReset keep n) s).nodePorts = s.nodePorts
      ∧ (l.foldl (fun s n => s.dropForReset keep n) s).exchanges = s.exchanges
      ∧ (l.foldl (fun s n => s.dropForReset keep n) s).queue = s.queue
      ∧ (l.foldl (fun s n => s.dropForReset keep n) s).channels = s.channels
      ∧ (l.foldl (fun s n => s.dropForReset keep n) s).monitor = s.monitor
      ∧ (l.foldl (fun s n => s.dropForReset keep n) s).alerts = s.alerts
      ∧ (l.foldl (fun s n => s.dropForReset keep n) s).active = s.active
      ∧ (l.foldl (fun s n => s.dropForReset keep n) s).staged = s.staged
      ∧ (l.foldl (fun s n => s.dropForReset keep n) s).array = s.array
      ∧ (l.foldl (fun s n => s.dropForReset keep n) s).saving = s.saving
      ∧ (l.foldl (fun s n => s.dropForReset keep n) s).clock = s.clock
      ∧ (l.foldl (fun s n => s.dropForReset keep n) s).resetAsserted = s.resetAsserted
      ∧ (l.foldl (fun s n => s.dropForReset keep n) s).powered = s.powered
      ∧ (l.foldl (fun s n => s.dropForReset keep n) s).pending = s.pending
      ∧ (l.foldl (fun s n => s.dropForReset keep n) s).store.pool = s.store.pool
      ∧ (l.foldl (fun s n => s.dropForReset keep n) s).store.gens = s.store.gens :=
  ⟨foldl_keeps _ (fun s : State => s.groups) (by intros; simp) _ s,
    foldl_keeps _ (fun s : State => s.supervisorPort) (by intros; simp) _ s,
    foldl_keeps _ (fun s : State => s.nodePorts) (by intros; simp) _ s,
    foldl_keeps _ (fun s : State => s.exchanges) (by intros; simp) _ s,
    foldl_keeps _ (fun s : State => s.queue) (by intros; simp) _ s,
    foldl_keeps _ (fun s : State => s.channels) (by intros; simp) _ s,
    foldl_keeps _ (fun s : State => s.monitor) (by intros; simp) _ s,
    foldl_keeps _ (fun s : State => s.alerts) (by intros; simp) _ s,
    foldl_keeps _ (fun s : State => s.active) (by intros; simp) _ s,
    foldl_keeps _ (fun s : State => s.staged) (by intros; simp) _ s,
    foldl_keeps _ (fun s : State => s.array) (by intros; simp) _ s,
    foldl_keeps _ (fun s : State => s.saving) (by intros; simp) _ s,
    foldl_keeps _ (fun s : State => s.clock) (by intros; simp) _ s,
    foldl_keeps _ (fun s : State => s.resetAsserted) (by intros; simp) _ s,
    foldl_keeps _ (fun s : State => s.powered) (by intros; simp) _ s,
    foldl_keeps _ (fun s : State => s.pending) (by intros; simp) _ s,
    foldl_keeps _ (fun s : State => s.store.pool) (by intros; simp) _ s,
    foldl_keeps _ (fun s : State => s.store.gens) (by intros; simp) _ s⟩

@[simp] theorem State.storeReset_frame (s : State) (keep : NodeId → Bool) :
    (s.storeReset keep).groups = s.groups ∧ (s.storeReset keep).supervisorPort = s.supervisorPort
      ∧ (s.storeReset keep).nodePorts = s.nodePorts ∧ (s.storeReset keep).exchanges = s.exchanges
      ∧ (s.storeReset keep).queue = s.queue ∧ (s.storeReset keep).channels = s.channels
      ∧ (s.storeReset keep).monitor = s.monitor ∧ (s.storeReset keep).alerts = s.alerts
      ∧ (s.storeReset keep).active = s.active ∧ (s.storeReset keep).staged = s.staged
      ∧ (s.storeReset keep).array = s.array ∧ (s.storeReset keep).saving = s.saving ∧ (s.storeReset keep).clock = s.clock
      ∧ (s.storeReset keep).resetAsserted = s.resetAsserted ∧ (s.storeReset keep).powered = s.powered
      ∧ (s.storeReset keep).pending = s.pending ∧ (s.storeReset keep).store.pool = s.store.pool
      ∧ (s.storeReset keep).store.gens = s.store.gens := by
  refine ⟨?_, ?_, ?_, ?_, ?_, ?_, ?_, ?_, ?_, ?_, ?_, ?_, ?_, ?_, ?_, ?_, ?_, ?_⟩ <;> (intros; simp only [State.storeReset]; (repeat' split) <;> simp_all)

@[simp] theorem State.pinReset_frame (s : State) :
    s.pinReset.array = s.array ∧ s.pinReset.clock = s.clock ∧ s.pinReset.resetAsserted = s.resetAsserted
      ∧ s.pinReset.powered = s.powered ∧ s.pinReset.pending = s.pending := by
  unfold State.pinReset
  split
  simp

@[simp] theorem State.resyncTaken_frame (s : State) :
    s.resyncTaken.active = s.active ∧ s.resyncTaken.staged = s.staged ∧ s.resyncTaken.array = s.array
      ∧ s.resyncTaken.saving = s.saving ∧ s.resyncTaken.clock = s.clock ∧ s.resyncTaken.resetAsserted = s.resetAsserted
      ∧ s.resyncTaken.powered = s.powered ∧ s.resyncTaken.pending = s.pending := by
  unfold State.resyncTaken
  simp

end Sys2Proof.Machine
end

