-- ==== Sys2Proof/Laws/FrameTimers.lean ====
section
/-! SUPPORT. What the operations of Machine/Timers.lean leave unchanged: one lemma per operation. -/

namespace Sys2Proof.Machine

set_option linter.all false

@[simp] theorem State.tick_frame (s : State) :
    (s.tick).groups = s.groups ∧ (s.tick).supervisorPort = s.supervisorPort ∧ (s.tick).nodePorts = s.nodePorts
      ∧ (s.tick).store = s.store ∧ (s.tick).monitor = s.monitor ∧ (s.tick).alerts = s.alerts ∧ (s.tick).active = s.active
      ∧ (s.tick).staged = s.staged ∧ (s.tick).array = s.array ∧ (s.tick).saving = s.saving
      ∧ (s.tick).resetAsserted = s.resetAsserted ∧ (s.tick).powered = s.powered ∧ (s.tick).pending = s.pending := by
  refine ⟨?_, ?_, ?_, ?_, ?_, ?_, ?_, ?_, ?_, ?_, ?_, ?_, ?_⟩ <;> (intros; simp only [State.tick]; (repeat' split) <;> simp_all)

@[simp] theorem State.acquireExpired_frame (s : State) (n : NodeId) :
    (s.acquireExpired n).store = s.store ∧ (s.acquireExpired n).channels = s.channels
      ∧ (s.acquireExpired n).monitor = s.monitor ∧ (s.acquireExpired n).active = s.active
      ∧ (s.acquireExpired n).staged = s.staged ∧ (s.acquireExpired n).array = s.array
      ∧ (s.acquireExpired n).saving = s.saving ∧ (s.acquireExpired n).clock = s.clock
      ∧ (s.acquireExpired n).resetAsserted = s.resetAsserted ∧ (s.acquireExpired n).powered = s.powered
      ∧ (s.acquireExpired n).pending = s.pending ∧ (∀ d : ChanId, (s.acquireExpired n).chan d = s.chan d)
      ∧ (∀ x : NodeId, x ≠ n → (s.acquireExpired n).node x = s.node x) := by
  refine ⟨?_, ?_, ?_, ?_, ?_, ?_, ?_, ?_, ?_, ?_, ?_, ?_, ?_⟩ <;> (intros; simp only [State.acquireExpired]; (repeat' split) <;> simp_all)

@[simp] theorem State.nudge_frame (s : State) (n : NodeId) :
    (s.nudge n).groups = s.groups ∧ (s.nudge n).exchanges = s.exchanges ∧ (s.nudge n).store = s.store
      ∧ (s.nudge n).queue = s.queue ∧ (s.nudge n).channels = s.channels ∧ (s.nudge n).monitor = s.monitor
      ∧ (s.nudge n).alerts = s.alerts ∧ (s.nudge n).active = s.active ∧ (s.nudge n).staged = s.staged
      ∧ (s.nudge n).array = s.array ∧ (s.nudge n).saving = s.saving ∧ (s.nudge n).clock = s.clock
      ∧ (s.nudge n).resetAsserted = s.resetAsserted ∧ (s.nudge n).powered = s.powered ∧ (s.nudge n).pending = s.pending
      ∧ (∀ k : GroupId, (s.nudge n).group k = s.group k) ∧ (∀ d : ChanId, (s.nudge n).chan d = s.chan d)
      ∧ (∀ x : NodeId, (s.nudge n).exchange x = s.exchange x) ∧ (∀ x : NodeId, x ≠ n → (s.nudge n).node x = s.node x)
      ∧ (∀ l' : Link, l' ≠ .node n → (s.nudge n).port l' = s.port l')
      ∧ (∀ x : NodeId, ((s.nudge n).node x).state = (s.node x).state)
      ∧ (∀ x : NodeId, ((s.nudge n).node x).attempts = (s.node x).attempts)
      ∧ (∀ x : NodeId, ((s.nudge n).node x).channel = (s.node x).channel) := by
  refine ⟨?_, ?_, ?_, ?_, ?_, ?_, ?_, ?_, ?_, ?_, ?_, ?_, ?_, ?_, ?_, ?_, ?_, ?_, ?_, ?_, ?_, ?_, ?_⟩
  iterate 20 (intros; simp only [State.nudge]; (repeat' split) <;> simp_all)
  all_goals (intros; simp only [State.nudge]; (repeat' split) <;> simp_all [State.modNode, State.node_setNode] <;> (repeat' split) <;> simp_all)

@[simp] theorem State.lapseExpired_frame (s : State) (n : NodeId) :
    (s.lapseExpired n).channels = s.channels ∧ (s.lapseExpired n).monitor = s.monitor
      ∧ (s.lapseExpired n).active = s.active ∧ (s.lapseExpired n).staged = s.staged ∧ (s.lapseExpired n).array = s.array
      ∧ (s.lapseExpired n).saving = s.saving ∧ (s.lapseExpired n).clock = s.clock
      ∧ (s.lapseExpired n).resetAsserted = s.resetAsserted ∧ (s.lapseExpired n).powered = s.powered
      ∧ (s.lapseExpired n).pending = s.pending ∧ (∀ d : ChanId, (s.lapseExpired n).chan d = s.chan d)
      ∧ (s.lapseExpired n).store.pool = s.store.pool ∧ (s.lapseExpired n).store.gens = s.store.gens := by
  refine ⟨?_, ?_, ?_, ?_, ?_, ?_, ?_, ?_, ?_, ?_, ?_, ?_, ?_⟩ <;> (intros; simp only [State.lapseExpired]; (repeat' split) <;> simp_all)

@[simp] theorem State.bootExpired_frame (s : State) (n : NodeId) :
    (s.bootExpired n).groups = s.groups ∧ (s.bootExpired n).supervisorPort = s.supervisorPort
      ∧ (s.bootExpired n).nodePorts = s.nodePorts ∧ (s.bootExpired n).exchanges = s.exchanges
      ∧ (s.bootExpired n).store = s.store ∧ (s.bootExpired n).queue = s.queue ∧ (s.bootExpired n).channels = s.channels
      ∧ (s.bootExpired n).monitor = s.monitor ∧ (s.bootExpired n).active = s.active ∧ (s.bootExpired n).staged = s.staged
      ∧ (s.bootExpired n).array = s.array ∧ (s.bootExpired n).saving = s.saving ∧ (s.bootExpired n).clock = s.clock
      ∧ (s.bootExpired n).resetAsserted = s.resetAsserted ∧ (s.bootExpired n).powered = s.powered
      ∧ (s.bootExpired n).pending = s.pending ∧ (∀ k : GroupId, (s.bootExpired n).group k = s.group k)
      ∧ (∀ d : ChanId, (s.bootExpired n).chan d = s.chan d) ∧ (∀ x : NodeId, (s.bootExpired n).exchange x = s.exchange x)
      ∧ (∀ l' : Link, (s.bootExpired n).port l' = s.port l') ∧ (∀ x : NodeId, x ≠ n → (s.bootExpired n).node x = s.node x) := by
  refine ⟨?_, ?_, ?_, ?_, ?_, ?_, ?_, ?_, ?_, ?_, ?_, ?_, ?_, ?_, ?_, ?_, ?_, ?_, ?_, ?_, ?_⟩ <;> (intros; simp only [State.bootExpired]; (repeat' split) <;> simp_all)

@[simp] theorem State.unanswered_frame (s : State) (n : NodeId) :
    (s.unanswered n).monitor = s.monitor ∧ (s.unanswered n).active = s.active ∧ (s.unanswered n).staged = s.staged
      ∧ (s.unanswered n).array = s.array ∧ (s.unanswered n).saving = s.saving ∧ (s.unanswered n).clock = s.clock
      ∧ (s.unanswered n).resetAsserted = s.resetAsserted ∧ (s.unanswered n).powered = s.powered
      ∧ (s.unanswered n).pending = s.pending ∧ (s.unanswered n).store.pool = s.store.pool
      ∧ (s.unanswered n).store.gens = s.store.gens := by
  refine ⟨?_, ?_, ?_, ?_, ?_, ?_, ?_, ?_, ?_, ?_, ?_⟩ <;> (intros; simp only [State.unanswered]; (repeat' split) <;> simp_all)

end Sys2Proof.Machine
end

