-- ==== Sys2Proof/Laws/Ops.lean ====
section
/-! SUPPORT. What the shared operations of Machine/Ops.lean, Machine/Flags.lean and the link interface do to what they change. -/

namespace Sys2Proof.Machine

/-! ### Records changed by a function -/

@[simp] theorem State.node_modNode_self (s : State) (n : NodeId) (f : NodeRec → NodeRec) :
    (s.modNode n f).node n = f (s.node n) := State.node_setNode_self _ _ _

theorem State.node_modNode (s : State) (n x : NodeId) (f : NodeRec → NodeRec) :
    (s.modNode n f).node x = if x = n then f (s.node n) else s.node x := State.node_setNode _ _ _ _

@[simp] theorem State.group_modGroup_self (s : State) (g : GroupId) (f : GroupRec → GroupRec) :
    (s.modGroup g f).group g = f (s.group g) := State.group_setGroup_self _ _ _

theorem State.group_modGroup (s : State) (g k : GroupId) (f : GroupRec → GroupRec) :
    (s.modGroup g f).group k = if k = g then f (s.group g) else s.group k := State.group_setGroup _ _ _ _

@[simp] theorem State.port_modPort_self (s : State) (l : Link) (f : Port → Port) :
    (s.modPort l f).port l = f (s.port l) := State.port_setPort_self _ _ _

theorem State.port_modPort (s : State) (l k : Link) (f : Port → Port) :
    (s.modPort l f).port k = if k = l then f (s.port l) else s.port k := State.port_setPort _ _ _ _

/-! ### Frames and requests in progress -/

/-- With the RESET input released, a frame is formed after those already formed. -/
theorem State.port_send_self (s : State) (l : Link) (f : Frame) (h : s.resetAsserted = false) :
    (s.send l f).port l = { s.port l with sent := (s.port l).sent ++ [f] } := by
  simp [State.send, h]

/-- With the RESET input asserted, no frame is formed (R164). -/
theorem State.send_of_asserted (s : State) (l : Link) (f : Frame) (h : s.resetAsserted = true) : s.send l f = s := by
  simp [State.send, h]

/-- A frame formed changes nothing of a link but the frames it has formed. -/
@[simp] theorem State.port_send_fields (s : State) (l k : Link) (f : Frame) :
    ((s.send l f).port k).rx = (s.port k).rx ∧ ((s.send l f).port k).inProgress = (s.port k).inProgress
      ∧ ((s.send l f).port k).errors = (s.port k).errors := by
  unfold State.send
  split
  · simp
  · rw [State.port_modPort]
    split <;> simp_all

theorem State.port_reply_self (s : State) (l : Link) (k : Kind) (r : Result) (b : Body) (h : s.resetAsserted = false) :
    (s.reply l k r b).port l = { s.port l with sent := (s.port l).sent ++ [.reply k.code r b] } :=
  State.port_send_self s l _ h

@[simp] theorem State.port_reply_fields (s : State) (l m : Link) (k : Kind) (r : Result) (b : Body) :
    ((s.reply l k r b).port m).rx = (s.port m).rx ∧ ((s.reply l k r b).port m).inProgress = (s.port m).inProgress
      ∧ ((s.reply l k r b).port m).errors = (s.port m).errors := State.port_send_fields s l m _

@[simp] theorem State.port_beginRequest_self (s : State) (l : Link) (k : Kind) :
    (s.beginRequest l k).port l = { s.port l with inProgress := some k } := by
  simp [State.beginRequest]

@[simp] theorem State.port_endRequest_self (s : State) (l : Link) :
    (s.endRequest l).port l = { s.port l with inProgress := none } := by
  simp [State.endRequest]

/-! ### Exchanges -/

@[simp] theorem State.exchange_startExchange_self (s : State) (n : NodeId) (e : Exchange) :
    (s.startExchange n e).exchange n = ⟨some e, .start s.active.answerTime⟩ := by
  simp [State.startExchange]

@[simp] theorem State.exchange_endExchange_self (s : State) (n : NodeId) : (s.endExchange n).exchange n = .empty := by
  simp [State.endExchange]

theorem State.exchange_startExchange (s : State) (n x : NodeId) (e : Exchange) :
    (s.startExchange n e).exchange x = if x = n then ⟨some e, .start s.active.answerTime⟩ else s.exchange x :=
  State.exchange_setExchange _ _ _ _

theorem State.exchange_endExchange (s : State) (n x : NodeId) :
    (s.endExchange n).exchange x = if x = n then .empty else s.exchange x := State.exchange_setExchange _ _ _ _

/-! ### Alert flags -/

theorem Alert.bit_injective {a b : Alert} (h : a.bit = b.bit) : a = b := by
  cases a <;> cases b <;> simp [Alert.bit] at h ⊢ <;> omega

theorem Alert.bit_lt (a : Alert) : a.bit < 27 := by
  cases a <;> simp [Alert.bit]; omega

theorem Alert.getLsbD_mark (a b : Alert) : a.mark.getLsbD b.bit = decide (a = b) := by
  have ha := a.bit_lt
  have hb := b.bit_lt
  by_cases h : a = b
  · subst h
    simp [Alert.mark, hb]
  · have hne : a.bit ≠ b.bit := fun e => h (Alert.bit_injective e)
    have : b.bit - a.bit ≠ 0 ∨ b.bit < a.bit := by omega
    rcases this with h1 | h1
    · simp only [Alert.mark, BitVec.getLsbD_shiftLeft, h, decide_false]
      have : (1#27).getLsbD (b.bit - a.bit) = false := by
        rw [BitVec.getLsbD_one]; simp; omega
      simp [this]
    · simp [Alert.mark, BitVec.getLsbD_shiftLeft, h, h1]

/-- R149: the flag is set. -/
@[simp] theorem State.flag_raise_self (s : State) (a : Alert) : (s.raise a).flag a = true := by
  simp [State.flag, State.raise, Alert.getLsbD_mark]

/-- R149: no other flag changes. -/
theorem State.flag_raise (s : State) (a b : Alert) : (s.raise a).flag b = (s.flag b || decide (a = b)) := by
  simp [State.flag, State.raise, Alert.getLsbD_mark]

/-! ### The link interface -/

/-- The frames that go to their owner are those that pass every check of R159. -/
theorem State.judge_accepted_iff (s : State) (k : Kind) (l : Link) (p : List Byte) :
    s.judge k l p = .accepted ↔
      s.receiving = true ∧ p.length ≤ Config.maxPayload ∧ k.allowedOn l = true ∧ s.linkPresent l = true
        ∧ k.lengthOk p = true ∧ ((s.port l).inProgress = none ∨ k.alwaysTaken = true) := by
  unfold State.judge failedCheck
  split
  · simp_all
  · split
    · simp_all
    · split
      · split <;> simp_all
      · split
        · split <;> simp_all
        · split
          · split <;> simp_all
          · split
            · rcases h : (s.port l).inProgress with _ | x <;> simp_all
            · rcases h : (s.port l).inProgress with _ | x <;> simp_all

theorem State.receive_accepted (s : State) (k : Kind) (l : Link) (p : List Byte) (owner : State → State)
    (h : s.judge k l p = .accepted) : s.receive k l p owner = owner s := by
  simp [State.receive, h]

/-- A frame that passes the checks goes to its owner. -/
theorem State.receive_of_passes {s : State} {k : Kind} {l : Link} {p : List Byte} (h : s.passes k l p)
    (owner : State → State) : s.receive k l p owner = owner s := by
  apply State.receive_accepted
  rw [State.judge_accepted_iff]
  obtain ⟨⟨h1, h2⟩, h3, h4, h5, h6, h7⟩ := h
  exact ⟨by simp [State.receiving, h1, h2], h3, h4, h5, h6, h7⟩

/-- A reply sends one frame on its link. -/
theorem State.sends_reply (s : State) (l : Link) (k : Kind) (r : Result) (b : Body) :
    s.sends (s.reply l k r b) l [.reply k.code r b] := by
  refine ⟨?_, fun m hm => ?_⟩
  · unfold State.reply State.send
    split <;> simp_all
  · simp [State.reply, State.send]
    split
    · rfl
    · rw [State.port_modPort, if_neg hm]

/-- What the link interface and the owner both keep, an arriving frame keeps. -/
theorem State.receive_keeps {P : State → Prop} (s : State) (k : Kind) (l : Link) (p : List Byte) (owner : State → State)
    (hs : P s) (hd : P (s.discardFrame l)) (hr : ∀ r, P (s.reply l k r)) (ho : P (owner s)) :
    P (s.receive k l p owner) := by
  unfold State.receive
  split <;> simp_all

theorem State.whenPowered_keeps {P : State → Prop} (s : State) (f : State → State) (hs : P s) (hf : P (f s)) :
    P (s.whenPowered f) := by
  unfold State.whenPowered
  split <;> assumption

@[simp] theorem State.whenPowered_of_powered (s : State) (f : State → State) (h : s.powered = true) :
    s.whenPowered f = f s := by simp [State.whenPowered, h]

end Sys2Proof.Machine
end

