-- ==== Sys2Proof/Laws/Order.lean ====
section
/-! SUPPORT. The order of the restart queue (R97): the order that the scheduler uses is the one of the law, it is a strict total order,
and the operations that place nodes give a queue in it. -/

namespace Sys2Proof.Machine

theorem NodeId.num_injective {a b : NodeId} (h : a.num = b.num) : a = b := by
  cases a <;> cases b <;> first | rfl | simp [NodeId.num] at h

theorem State.orderKey_escalated (s : State) (n : NodeId) : (s.orderKey n).escalated = s.keyEscalated n := by
  unfold State.orderKey State.keyEscalated
  cases s.groupOf n with
  | none => rfl
  | some g => by_cases h : (s.group g).duty = some n <;> simp [h]

theorem State.orderKey_deadline (s : State) (n : NodeId) : (s.orderKey n).deadline = s.keyDeadline n := by
  unfold State.orderKey State.keyDeadline
  cases s.groupOf n with
  | none => rfl
  | some g =>
    by_cases h : (s.group g).duty = some n
    · cases hs : (s.group g).state <;> simp [h, hs, GroupState.inHold]
    · simp [h]

/-- The scheduler's order is that of the law. -/
theorem State.keyBefore_eq_ahead (s : State) (a b : NodeId) : s.keyBefore a b = s.ahead a b := by
  unfold State.keyBefore State.ahead
  simp only [s.orderKey_escalated, s.orderKey_deadline]
  by_cases he : s.keyEscalated a = s.keyEscalated b
  · simp only [he, bne_self_eq_false, Bool.false_eq_true, if_false, if_true]
    cases s.keyDeadline a <;> cases s.keyDeadline b <;> try rfl
    rename_i t u
    by_cases htu : t = u
    · subst htu
      simp
    · simp [htu, earlier]
  · simp [he]

theorem toInt_sub_inj {now t u : Word} (h : (now - t).toInt = (now - u).toInt) : t = u := by
  have := BitVec.eq_of_toInt_eq h
  bv_omega

/-- `ahead` read on the ranks. -/
theorem State.ahead_iff (s : State) (a b : NodeId) :
    s.ahead a b = true ↔
      (s.keyEscalated a = true ∧ s.keyEscalated b = false)
        ∨ (s.keyEscalated a = s.keyEscalated b ∧
          ((∃ t u, s.keyDeadline a = some t ∧ s.keyDeadline b = some u
              ∧ ((s.clock.ms - u).toInt < (s.clock.ms - t).toInt
                ∨ (s.clock.ms - u).toInt = (s.clock.ms - t).toInt ∧ a.num < b.num))
            ∨ ((s.keyDeadline a).isSome = true ∧ s.keyDeadline b = none)
            ∨ (s.keyDeadline a = none ∧ s.keyDeadline b = none ∧ a.num < b.num))) := by
  unfold State.ahead
  by_cases he : s.keyEscalated a = s.keyEscalated b
  · have hn : ¬ (s.keyEscalated b = true ∧ s.keyEscalated b = false) := by simp
    simp only [he, if_true, true_and, hn, false_or]
    cases ha : s.keyDeadline a <;> cases hb : s.keyDeadline b
    · simp
    · simp
    · simp
    · rename_i t u
      have : t = u ↔ (s.clock.ms - u).toInt = (s.clock.ms - t).toInt :=
        ⟨fun h => by rw [h], fun h => (toInt_sub_inj h).symm⟩
      simp [this]
  · simp only [he, if_false, false_and, or_false]
    cases h1 : s.keyEscalated a <;> cases h2 : s.keyEscalated b <;> simp_all

theorem State.ahead_trans (s : State) {a b c : NodeId} (h : s.ahead a b = true) (h' : s.ahead b c = true) :
    s.ahead a c = true := by
  rw [s.ahead_iff] at h h' ⊢
  rcases h with ⟨h1, h2⟩ | ⟨h1, h⟩
  · left
    rcases h' with ⟨h3, _⟩ | ⟨h3, _⟩
    · simp [h2] at h3
    · exact ⟨h1, h3 ▸ h2⟩
  · rcases h' with ⟨h3, h4⟩ | ⟨h3, h'⟩
    · exact .inl ⟨h1 ▸ h3, h4⟩
    · refine .inr ⟨h1.trans h3, ?_⟩
      rcases h with ⟨t, u, ht, hu, h⟩ | ⟨ht, hu⟩ | ⟨ht, hu, h⟩
      · rcases h' with ⟨u', v, hu', hv, h'⟩ | ⟨_, hv⟩ | ⟨hu', _, _⟩
        · obtain rfl : u = u' := Option.some.inj (hu.symm.trans hu')
          exact .inl ⟨t, v, ht, hv, by omega⟩
        · exact .inr (.inl ⟨by simp [ht], hv⟩)
        · simp [hu] at hu'
      · rcases h' with ⟨u', v, hu', _, _⟩ | ⟨hu', _⟩ | ⟨_, hv, _⟩
        · simp [hu] at hu'
        · simp [hu] at hu'
        · exact .inr (.inl ⟨ht, hv⟩)
      · rcases h' with ⟨u', v, hu', _, _⟩ | ⟨hu', _⟩ | ⟨_, hv, h'⟩
        · simp [hu] at hu'
        · simp [hu] at hu'
        · exact .inr (.inr ⟨ht, hv, by omega⟩)

theorem State.ahead_total (s : State) {a b : NodeId} (h : a ≠ b) : s.ahead a b = true ∨ s.ahead b a = true := by
  have hnum : a.num < b.num ∨ b.num < a.num := by
    have : a.num ≠ b.num := fun e => h (NodeId.num_injective e)
    omega
  simp only [s.ahead_iff]
  cases h1 : s.keyEscalated a <;> cases h2 : s.keyEscalated b <;> simp
  all_goals
    cases ha : s.keyDeadline a <;> cases hb : s.keyDeadline b <;> simp
    all_goals omega

/-- Placing a node that does not stand in a queue keeps the order. -/
theorem State.placed_ordered (s : State) {q : List NodeId} {n : NodeId} (h : q.Pairwise fun a b => s.ahead a b = true)
    (hn : n ∉ q) : (s.placed q n).Pairwise fun a b => s.ahead a b = true := by
  induction q with
  | nil => simp [State.placed]
  | cons b q ih =>
    have hb : n ≠ b := fun e => hn (by simp [e])
    have hq : n ∉ q := fun e => hn (by simp [e])
    rw [List.pairwise_cons] at h
    unfold State.placed at ih ⊢
    rw [List.orderedInsert_cons]
    by_cases hk : s.keyBefore n b = true
    · rw [if_pos hk]
      rw [s.keyBefore_eq_ahead] at hk
      refine List.pairwise_cons.mpr ⟨fun x hx => ?_, List.pairwise_cons.mpr h⟩
      rcases List.mem_cons.mp hx with rfl | hx
      · exact hk
      · exact s.ahead_trans hk (h.1 x hx)
    · rw [if_neg hk]
      rw [s.keyBefore_eq_ahead] at hk
      refine List.pairwise_cons.mpr ⟨fun x hx => ?_, ih h.2 hq⟩
      rcases List.mem_cons.mp ((List.perm_orderedInsert _ n q).mem_iff.mp hx) with rfl | hx
      · exact (s.ahead_total hb).resolve_left hk
      · exact h.1 x hx

theorem State.placed_perm (s : State) (q : List NodeId) (n : NodeId) : (s.placed q n).Perm (n :: q) :=
  List.perm_orderedInsert _ n q

/-- Placing nodes one after the other into a queue in order gives a queue in order, of the same nodes. -/
theorem State.foldl_placed (s : State) (moved : List NodeId) {q : List NodeId}
    (h : q.Pairwise fun a b => s.ahead a b = true) (hd : (moved ++ q).Nodup) :
    ((moved.foldl s.placed q).Pairwise fun a b => s.ahead a b = true) ∧ (moved.foldl s.placed q).Perm (moved ++ q) := by
  induction moved generalizing q with
  | nil => exact ⟨h, .refl _⟩
  | cons n moved ih =>
    have hn : n ∉ q := fun e => (List.nodup_cons.mp hd).1 (by simp [e])
    have hp := s.placed_perm q n
    have hperm : (moved ++ s.placed q n).Perm (n :: moved ++ q) :=
      (hp.append_left moved).trans List.perm_middle
    obtain ⟨h1, h2⟩ := ih (s.placed_ordered h hn) (hperm.nodup_iff.mpr hd)
    exact ⟨h1, h2.trans hperm⟩

/-- The whole queue put in the order of its keys (R97). -/
theorem State.resortQueue_spec (s : State) (hd : s.queue.Nodup) : s.resortQueue.orderLaw ∧ s.resortQueue.queue.Perm s.queue := by
  have h := s.foldl_placed s.queue (q := []) .nil (by simpa using hd)
  rw [List.append_nil] at h
  exact h

/-- R99: a change of the record of group g moves the entries of its members alone. If the entries of the other nodes stand in order,
the whole queue does afterwards. -/
theorem State.reorderGroup_spec (s : State) (g : GroupId) (hd : s.queue.Nodup)
    (h : (s.queue.filter fun n => s.groupOf n ≠ some g).Pairwise fun a b => s.ahead a b = true) :
    (s.reorderGroup g).orderLaw ∧ (s.reorderGroup g).queue.Perm s.queue := by
  have hperm : ((s.queue.filter fun n => s.groupOf n = some g) ++ s.queue.filter fun n => s.groupOf n ≠ some g).Perm s.queue := by
    simpa using List.filter_append_perm (fun n => decide (s.groupOf n = some g)) s.queue
  have h' := s.foldl_placed (s.queue.filter fun n => s.groupOf n = some g) h (hperm.nodup_iff.mpr hd)
  exact ⟨h'.1, h'.2.trans hperm⟩

end Sys2Proof.Machine
end

