-- ==== Sys2Proof/Laws/Roles.lean ====
section
/-! SUPPORT. The members of a group and the other member of a node, under a plan that passes its checks (R7, R50, R121, R167). -/

namespace Sys2Proof.Machine

/-- A node is a member of a group when it is present in it. -/
@[simp] theorem Plan.mem_members (p : Plan) (g : GroupId) (n : NodeId) : n ∈ p.members g ↔ p.groupOf n = some g := by
  cases n <;> simp [Plan.members, NodeId.all]

theorem Plan.nodup_members (p : Plan) (g : GroupId) : (p.members g).Nodup :=
  List.Nodup.filter _ (by decide)

/-- A group that passes its check has at most two members. -/
theorem Plan.length_members_le {p : Plan} {g : GroupId} (h : p.groupFault g = none) : (p.members g).length ≤ 2 := by
  by_contra hc
  have hl : 2 < (p.members g).length := by omega
  have h2 : (p.members g)[2]? = some (p.members g)[2] := List.getElem?_eq_getElem hl
  simp only [Plan.groupFault] at h
  split at h <;> simp_all

/-- Every group of a plan without a failing check passes its own. -/
theorem Plan.groupFault_of_firstFault {p : Plan} (h : p.firstFault = none) (g : GroupId) : p.groupFault g = none := by
  rw [Plan.firstFault, List.findSome?_eq_none_iff] at h
  exact h g (by cases g <;> decide)

/-- The other member of a node is a member of the group, and not that node. -/
theorem Plan.otherMember_spec {p : Plan} {g : GroupId} {n m : NodeId} (h : p.otherMember g n = some m) :
    m ∈ p.members g ∧ m ≠ n :=
  ⟨List.mem_of_find?_eq_some h, by simpa using List.find?_some h⟩

/-- The other member depends on the members alone. -/
theorem Plan.otherMember_congr {p q : Plan} {g : GroupId} (h : p.members g = q.members g) (n : NodeId) :
    p.otherMember g n = q.otherMember g n := by
  simp [Plan.otherMember, h]

/-- In a group that passes its check, any two members are each other's other member. -/
theorem Plan.otherMember_eq {p : Plan} {g : GroupId} (h : p.groupFault g = none) {n m : NodeId} (hn : n ∈ p.members g)
    (hm : m ∈ p.members g) (hne : m ≠ n) : p.otherMember g n = some m := by
  have hl := Plan.length_members_le h
  have hd := p.nodup_members g
  unfold Plan.otherMember
  match hs : p.members g, hl, hd, hn, hm with
  | [a], _, _, hn, hm => simp_all
  | [a, b], _, hd, hn, hm =>
    simp only [List.mem_cons, List.not_mem_nil, or_false] at hn hm
    rcases hn with rfl | rfl <;> rcases hm with rfl | rfl <;> simp_all

/-- In such a group, if m is the other member of n, then n is the other member of m. -/
theorem Plan.otherMember_symm {p : Plan} {g : GroupId} (h : p.groupFault g = none) {n m : NodeId} (hn : n ∈ p.members g)
    (hm : p.otherMember g n = some m) : p.otherMember g m = some n :=
  Plan.otherMember_eq h (Plan.otherMember_spec hm).1 hn (Plan.otherMember_spec hm).2.symm

/-- Where the law of roles holds, the standby differs from the duty node and is a member of the group. -/
theorem State.standby_of_roleLaw {s : State} (h : s.roleLaw) {g : GroupId} {m : NodeId}
    (hm : (s.group g).standby = some m) : m ∈ s.active.members g ∧ (s.group g).duty ≠ some m := by
  cases hd : (s.group g).duty with
  | none => rw [(h.2 g).2 hd] at hm; cases hm
  | some d =>
    rw [((h.2 g).1 d hd).2] at hm
    have := Plan.otherMember_spec hm
    exact ⟨this.1, fun he => this.2 (Option.some.inj he).symm⟩

end Sys2Proof.Machine
end

