-- ==== Sys2Proof/Tests/Slice0.lean ====
section
/-! SUPPORT. Tests: the well-formedness smoke, one step of each command on small states, worked values of the spec, and for every
statement with hypotheses a state and operands that meet all of them together. -/

namespace Sys2Proof.Tests

set_option Elab.async false

open Sys2Proof.Machine

/-! ### Small states -/

/-- The state after one command, if it answers one. -/
def after (c : Instr) (s : State) : State :=
  match exec c s with
  | .next t => t
  | .fault _ | .refused _ => s

/-- Nodes 1 (duty) and 2 (standby) in group 1, both with reset drive; node 3 alone in group 2, without reset drive. -/
def twoGroups : Plan :=
  { Plan.empty with
    nodes :=
      { PerNode.const NodePlan.default with
        n1 := { NodePlan.default with present := true, role := .duty }
        n2 := { NodePlan.default with present := true }
        n3 := { NodePlan.default with present := true, group := .g2, role := .duty, resetDrive := false } } }

/-- A monitor channel that trips on one reading above 100 and escalates group 1. -/
def eager : MonChannel := .cleared ⟨.g1, .comparator, 100, 50, 1, true⟩

/-- Right after a reset under `twoGroups`: nodes 1 to 3 UNKNOWN, both groups PENDING. -/
def unknown : State :=
  { State.reset with
    active := twoGroups
    staged := twoGroups
    nodes :=
      { State.reset.nodes with
        n1 := .entersUnknown twoGroups.nodes.n1, n2 := .entersUnknown twoGroups.nodes.n2
        n3 := .entersUnknown twoGroups.nodes.n3 }
    groups := { State.reset.groups with g1 := { GroupRec.atReset with state := .pending }
                                        g2 := { GroupRec.atReset with state := .pending } }
    monitor := State.reset.monitor.set 0 eager }

/-- A record of a node that runs, its lapse and stable timers due. -/
def runs : NodeRec :=
  { NodeRec.atReset with
    state := .running, lastBeat := some 1000#32, lapse := some 0, stable := some 0, attempts := 1, warmCapable := true
    beatSincePending := true }

/-- Nodes 1 to 3 RUNNING, their lapse timers due, group 1 SERVED by 1 with standby 2, group 2 by 3. -/
def served : State :=
  { unknown with
    clock := ⟨1272#32, 998, 7#32⟩
    nodes := { unknown.nodes with n1 := runs, n2 := runs, n3 := runs }
    groups :=
      { unknown.groups with
        g1 := { GroupRec.atReset with state := .served, duty := some .n1, standby := some .n2 }
        g2 := { GroupRec.atReset with state := .served, duty := some .n3 } } }

/-- `served`, with node 1 in RESET after a lapse and its group HELD until 31000 ms, the takeover point being 21000 ms. -/
def held : State :=
  (served.modNode .n1 fun r =>
      { r with state := .reset, drive := some .lapse, lapse := none, stable := none, pulse := some 0, resetLine := true }).modGroup
    .g1 fun r => { r with state := .held, deadline := some 31000#32, point := some 21000#32 }

/-- A committed record whose check word is the sum of its words. -/
def kept (n : NodeId) (gen : Word) (k : RecKind) (block : Nat) (check : Word) : Record :=
  ⟨n, gen, k, 2, 2, [block], .committed check 7#32, false⟩

/-- `served`, with an older FULL, a newest FULL and its DELTA of node 1 committed, and a record of node 2 open with 64 of its 65
words stored. -/
def stocked : State :=
  { served with
    nodes := { served.nodes with n2 := { runs with openRec := some 3 } }
    store :=
      { dir :=
          ((((Vector.replicate 40 none).set 0 (some (kept .n1 1#32 .full 0 3#32))).set 1
            (some (kept .n1 2#32 .full 1 7#32))).set 2 (some (kept .n1 3#32 (.delta 2#32) 2 11#32))).set 3
            (some ⟨.n2, 1#32, .full, 65, 64, [3], .opened, false⟩)
        freeList := List.range' 4 1020
        pool := [(0, ⟨1#32, true⟩), (1, ⟨2#32, true⟩), (64, ⟨3#32, true⟩), (65, ⟨4#32, true⟩), (128, ⟨5#32, true⟩),
          (129, ⟨6#32, true⟩), (192, ⟨9#32, true⟩)]
        gens := { PerNode.const 0#32 with n1 := 3#32, n2 := 1#32 }
        peek := some ⟨.n1, 2#32, 0⟩ } }

/-- `stocked`, with node 1 in BOOT. -/
def booting : State :=
  (stocked.modNode .n1 fun r =>
      { r with state := .boot, drive := some .lapse, lapse := none, stable := none, boot := some 0 }).modGroup .g1 fun r =>
    { r with state := .held, deadline := some 31000#32, point := some 21000#32 }

/-- `booting` after node 1 has said HELLO, warm capable: its restore is in VERIFY on channel 0. -/
def verifying : State := after (.hello (.node .n1) [1#8, 1#8]) booting

/-- The first DATA of that restore is outstanding. -/
def sending : State := after (.verifyComplete .c0) verifying

/-- Node 2 is QUIET in `served`. -/
def quiet : State := served.modNode .n2 fun r => { r with state := .quiet }

/-- `held`, with node 1 HALTED and TAKE outstanding on link 2, its answer timer due. -/
def taking : State :=
  (((held.modNode .n1 fun r => { r with state := .halted, drive := none, pulse := none }).modGroup .g1 fun r =>
      { r with outstanding := true }).setExchange .n2 ⟨some (.take .g1), some 0⟩)

/-! ### Well-formedness -/

theorem test_wellFormed_admits :
    (Instr.beat (.node .n1) (List.replicate 264 0#8)).wellFormed = true
      ∧ (Instr.badKindFrame .supervisor 0x10#8).wellFormed = true ∧ Instr.clockTick.wellFormed = true := by decide +kernel

theorem test_wellFormed_refuses_long_payload : (Instr.beat (.node .n1) (List.replicate 265 0#8)).wellFormed = false := by
  decide +kernel

theorem test_wellFormed_refuses_accepted_kind : (Instr.badKindFrame (.node .n1) 0x10#8).wellFormed = false := by decide +kernel

theorem test_decodeTableWord_spells_nothing : decodeTableWord 8 0 = none := by decide +kernel

/-! ### One step of each command -/

/-- The state after one step, if it answers one. -/
def stepped (s : State) : State :=
  match step s with
  | .next t => t
  | .fault _ | .refused _ => s

theorem test_step_takes_front :
    (stepped { State.reset with pending := [.clockTick, .resetAssert] }).pending = [.resetAssert]
      ∧ (stepped { State.reset with pending := [.clockTick, .resetAssert] }).clock.ms = 1#32 := by decide +kernel

/-- `stocked` with an array that holds `twoGroups`. -/
def commissioned : State :=
  let img : Image := ⟨twoGroups, stocked.monitor.map MonChannel.settings⟩
  { stocked with array := .image img img.checkWord }

/-- `commissioned` with a SAVE in progress. -/
def saving : State := after (.save .supervisor []) commissioned

/-- The last frame formed for a link. -/
def said (s : State) (l : Link) : Option Frame := (s.port l).sent.getLast?

theorem test_powerOnReset :
    (after .powerOnReset served).present .n1 = false ∧ (after .powerOnReset commissioned).present .n1 = true
      ∧ (after .powerOnReset commissioned).store.dir[1] = none
      ∧ (after .powerOnReset { commissioned with array := .torn }).flag .planFault = true := by decide +kernel

theorem test_resetAssert : (after .resetAssert served).resetAsserted = true := by decide +kernel

theorem test_pinReset :
    ((after .pinReset commissioned).store.dir[1]).isSome = true ∧ (after .pinReset commissioned).store.dir[3] = none
      ∧ (after .pinReset commissioned).store.freeList.getLast? = some 3
      ∧ ((after .pinReset commissioned).node .n1).state = .unknown
      ∧ (after .pinReset stocked).store.dir[1] = none := by decide +kernel

theorem test_supplyLoss : (after .supplyLoss saving).saving = none ∧ said (after .supplyLoss saving) .supervisor = none := by
  decide +kernel

theorem test_resync :
    ((after (.resync .supervisor []) stocked).store.dir[1]).isSome = true
      ∧ (after (.resync .supervisor []) stocked).store.dir[3] = none
      ∧ ((after (.resync .supervisor []) stocked).port .supervisor).sent = [.reply 0x4E#8 .ok .none] := by decide +kernel

theorem test_clockTick :
    (after .clockTick (after .clockTick served)).clock = ⟨1274#32, 0, 8#32⟩
      ∧ ((after .clockTick unknown).node .n1).acquire = some 3000 := by decide +kernel

theorem test_frameDamaged :
    ((after (.frameDamaged (.node .n8)) served).port (.node .n8)).errors = 1
      ∧ (after (.frameDamaged (.node .n8)) served).flag .linkFault = true := by decide +kernel

theorem test_badKindFrame :
    said (after (.badKindFrame .supervisor 0x10#8) served) .supervisor = some (.reply 0x10#8 .badKind .none)
      ∧ said (after (.badKindFrame .supervisor 0x11#8) served) .supervisor = none := by decide +kernel

theorem test_hello :
    (verifying.node .n1).state = .restoring ∧ (verifying.node .n1).channel = some .c0
      ∧ said verifying (.node .n1) = some (.reply 0x10#8 .ok (.hello .warm .lapse 1)) := by decide +kernel

theorem test_hello_cold :
    ((after (.hello (.node .n3) [0#8, 1#8]) unknown).node .n3).state = .settling
      ∧ said (after (.hello (.node .n3) [0#8, 1#8]) unknown) (.node .n3)
        = some (.reply 0x10#8 .ok (.hello (.cold .noSet) .supply 0)) := by decide +kernel

theorem test_beat :
    ((after (.beat (.node .n1) [1#8, 0#8]) unknown).group .g1).duty = some .n1
      ∧ ((after (.beat (.node .n1) [1#8, 0#8]) served).node .n1).lapse = some 257 := by decide +kernel

theorem test_beat_reading :
    (after (.beat (.node .n3) [0#8, 1#8, 0#8, 101#8, 0#8]) held).flag (.channel 0) = true
      ∧ said (after (.beat (.node .n3) [0#8, 1#8, 0#8, 101#8, 0#8]) held) (.node .n2) = some (.take .g1) := by decide +kernel

theorem test_quiet : ((after (.quiet (.node .n2) []) served).node .n2).state = .quiet
    ∧ said (after (.quiet (.node .n1) []) served) (.node .n1) = some (.reply 0x12#8 .notStandby .none) := by decide +kernel

theorem test_awake : ((after (.awake (.node .n2) []) quiet).node .n2).state = .running := by decide +kernel

theorem test_askRestart :
    ((after (.askRestart (.node .n1) []) served).node .n1).state = .reset
      ∧ ((after (.askRestart (.node .n3) []) served).node .n3).state = .boot
      ∧ said (after (.askRestart (.node .n2) []) held) (.node .n2) = some (.reply 0x14#8 .partnerDown .none) := by
  decide +kernel

/-- `sending` after the node has acknowledged both records. -/
def settling : State := after (.ack (.node .n1) [1#8, 0#8, 0#8]) (after (.ack (.node .n1) [0#8, 0#8, 0#8]) sending)

theorem test_verifyComplete : said sending (.node .n1) = some (.data 0 0 [3#32, 4#32]) := by decide +kernel

theorem test_ack :
    said (after (.ack (.node .n1) [0#8, 0#8, 0#8]) sending) (.node .n1) = some (.data 1 0 [5#32, 6#32])
      ∧ said settling (.node .n1) = some (.done .ok 3#32) ∧ (settling.node .n1).mark = some .warm := by decide +kernel

theorem test_resumed :
    said (after (.resumed (.node .n1) []) settling) (.node .n1) = some (.reply 0x15#8 .ok (.resumed .duty))
      ∧ ((after (.resumed (.node .n1) []) settling).group .g1).state = .served := by decide +kernel

theorem test_who :
    said (after (.who (.node .n2) []) held) (.node .n2)
      = some (.reply 0x16#8 .ok (.who .running (some .standby) .g1 .held 1)) := by decide +kernel

/-- OPEN of a FULL of 65 words; BLOCK 1 of one word, of value 8; COMMIT with the sum 9 + 8. -/
theorem test_upload :
    said (after (.openRecord (.node .n3) [0#8, 0#8, 0#8, 0#8, 0#8, 65#8, 0#8]) stocked) (.node .n3)
        = some (.reply 0x18#8 .ok (.opened 1#32 2 1020))
      ∧ said (after (.block (.node .n2) [1#8, 1#8, 8#8, 0#8, 0#8, 0#8]) stocked) (.node .n2)
        = some (.reply 0x19#8 .ok (.progress 1#32 1 65 1019)) := by decide +kernel

/-- `stocked` with the last word of node 2's record stored and its COMMIT taken. -/
def passing : State :=
  after (.commit (.node .n2) [17#8, 0#8, 0#8, 0#8]) (after (.block (.node .n2) [1#8, 1#8, 8#8, 0#8, 0#8, 0#8]) stocked)

theorem test_commit : (passing.port (.node .n2)).inProgress = some .commit
    ∧ said (after (.commit (.node .n2) [17#8, 0#8, 0#8, 0#8]) stocked) (.node .n2)
      = some (.reply 0x1A#8 .sequence (.progress 1#32 1 64 1020)) := by decide +kernel

theorem test_commitPassComplete :
    said (after (.commitPassComplete .n2) passing) (.node .n2) = some (.reply 0x1A#8 .ok (.committed 1#32 7#32 1))
      ∧ said (after (.commitPassComplete .n2) (after (.storageDisturbance 3 1 ⟨0#32, false⟩) passing)) (.node .n2)
        = some (.reply 0x1A#8 .storeError (.damagedWord 1#32 1))
      ∧ said (after (.commitPassComplete .n2) (after (.storageDisturbance 3 1 ⟨0#32, true⟩) passing)) (.node .n2)
        = some (.reply 0x1A#8 .ok (.committed 1#32 7#32 1)) := by decide +kernel

theorem test_drop :
    said (after (.drop (.node .n2) []) stocked) (.node .n2) = some (.reply 0x1B#8 .ok (.dropped 1#32 1021)) := by decide +kernel

theorem test_taken :
    ((after (.taken (.node .n2) [1#8, 1#8]) taking).group .g1).duty = some .n2
      ∧ ((after (.taken (.node .n2) [1#8, 0#8]) taking).group .g1).declined = true := by decide +kernel

theorem test_reads :
    ((said (after (.readNode .supervisor [1#8]) verifying) .supervisor).map fun f => f.payload.length) = some 40
      ∧ ((said (after (.readGroup .supervisor [1#8]) verifying) .supervisor).map fun f => f.payload.length) = some 27
      ∧ ((said (after (.readAlerts .supervisor []) verifying) .supervisor).map fun f => f.payload.length) = some 60 := by
  decide +kernel

theorem test_readStore :
    ((said (after (.readStore .supervisor []) stocked) .supervisor).map fun f => f.payload.length)
      = some (2 + 13 + 8 * 22 + 3 * 18) := by decide +kernel

theorem test_peek :
    said (after (.peekAt .supervisor [1#8, 3#8, 0#8, 0#8, 0#8, 1#8, 0#8]) stocked) .supervisor
        = some (.reply 0x44#8 .ok (.peekedAt (.delta 2#32) 2 7#32))
      ∧ said (after (.peekNext .supervisor []) stocked) .supervisor
        = some (.reply 0x45#8 .ok (.peeked 2#32 0 [3#32, 4#32] true none)) := by decide +kernel

theorem test_restart :
    said (after (.restart .supervisor [2#8, 0#8]) held) .supervisor = some (.reply 0x46#8 .partnerDown .none)
      ∧ ((after (.restart .supervisor [2#8, 1#8]) held).node .n2).state = .reset := by decide +kernel

theorem test_halt :
    ((after (.halt .supervisor [1#8]) sending).node .n1).state = .halted
      ∧ said (after (.halt .supervisor [1#8]) sending) (.node .n1) = some (.done .aborted 2#32) := by decide +kernel

theorem test_release : ((after (.release .supervisor [1#8]) taking).node .n1).state = .reset := by decide +kernel

theorem test_limit :
    ((after (.limit .supervisor [1#8, 2#8, 1#8, 255#8, 15#8, 0#8, 0#8, 6#8, 1#8]) served).monitor[1]).settings
      = ⟨.g2, .comparator, 4095, 0, 6, true⟩ := by decide +kernel

theorem test_mask :
    (after (.mask .supervisor [255#8, 255#8, 255#8, 255#8, 1#8]) served).alerts = ⟨0#27, 0x7FFFFFF#27, true⟩ := by decide +kernel

theorem test_readAlerts : (after (.readAlerts .supervisor []) verifying).alerts.flags = 0#27 := by decide +kernel

theorem test_set :
    (after (.set .supervisor [16#8, 2#8, 88#8, 2#8, 0#8, 0#8]) served).staged.groups.g2.holdTime = 600
      ∧ said (after (.set .supervisor [16#8, 2#8, 89#8, 2#8, 0#8, 0#8]) served) .supervisor
        = some (.reply 0x4B#8 .badValue .none) := by decide +kernel

theorem test_apply :
    said (after (.apply .supervisor []) held) .supervisor = some (.reply 0x4C#8 .planLocked .none)
      ∧ ((after (.apply .supervisor []) { served with staged := Plan.empty }).node .n1).state = .offline := by decide +kernel

theorem test_save :
    (after (.saveComplete 0x4B5A4160#32) saving).array.load = (⟨twoGroups, stocked.monitor.map MonChannel.settings⟩, false)
      ∧ said (after (.saveComplete 1#32) saving) .supervisor = some (.reply 0x4D#8 .storeError .none) := by decide +kernel

theorem test_acquireExpiry :
    ((after (.acquireExpiry .n1) (unknown.modNode .n1 fun r => { r with acquire := some 0 })).node .n1).state = .reset := by
  decide +kernel

theorem test_lapseExpiry :
    ((after (.lapseExpiry .n1) served).group .g1).deadline = some 31000#32
      ∧ said (after (.lapseExpiry .n2) quiet) (.node .n2) = some .nudge
      ∧ (after (.lapseExpiry .n2) quiet).flag .lapse = false := by decide +kernel

theorem test_stableExpiry : ((after (.stableExpiry .n1) served).node .n1).attempts = 0 := by decide +kernel

theorem test_pulseExpiry :
    ((after (.pulseExpiry .n1) held).node .n1).state = .boot ∧ ((after (.pulseExpiry .n1) held).node .n1).attempts = 2 := by
  decide +kernel

theorem test_bootExpiry : ((after (.bootExpiry .n1) booting).node .n1).state = .reset := by decide +kernel

theorem test_settleExpiry :
    ((after (.settleExpiry .n1) (settling.modNode .n1 fun r => { r with settle := some 0 })).node .n1).drive
      = some .lapse := by decide +kernel

theorem test_answerTimerExpiry : ((after (.answerTimerExpiry .n2) taking).group .g1).declined = true := by decide +kernel

theorem test_holdoffExpiry :
    let waiting := after (.ack (.node .n1) [0#8, 0#8, 2#8]) sending
    (waiting.chan .c0).map Binding.holdoff = some (some 21)
      ∧ said (after (.holdoffExpiry .c0) ((waiting.setChan .c0 ((waiting.chan .c0).map fun b => { b with holdoff := some 0 }))))
          (.node .n1) = some (.data 0 0 [3#32, 4#32]) := by decide +kernel

theorem test_points :
    let later := { held with clock := ⟨31000#32, 0, 0#32⟩ }
    said (after (.takeoverPointReached .g1) later) (.node .n2) = some (.take .g1)
      ∧ ((after (.deadlineReached .g1) later).group .g1).state = .unserved
      ∧ ((after (.deadlineReached .g1) held).group .g1).state = .held := by decide +kernel

theorem test_storageDisturbance :
    (after (.storageDisturbance 0 0 ⟨9#32, false⟩) stocked).store.pool.read 0 = ⟨9#32, false⟩ := by decide +kernel

/-- `verifying`, with a word of the first block disturbed after VERIFY has read it. -/
def firstBlockLate : State := after (.storageDisturbance 1 0 ⟨9#32, true⟩) verifying

/-- R111: VERIFY finds the set sound, and its first block is found damaged as it is read for sending. -/
theorem test_firstBlockLate :
    ((after (.verifyComplete .c0) firstBlockLate).port (.node .n1)).sent
      = (verifying.port (.node .n1)).sent ++ [.done .damaged 2#32]
      ∧ ((after (.verifyComplete .c0) (after (.storageDisturbance 1 0 ⟨9#32, false⟩) verifying)).port (.node .n1)).sent
        = (verifying.port (.node .n1)).sent := by decide +kernel

/-! ### Frames -/

/-- The register of the generator x^16 + x^12 + x^5 + 1 that starts at 0xFFFF, over the octets "123456789" (R157). -/
theorem test_crc :
    crc [0x31#8, 0x32#8, 0x33#8, 0x34#8, 0x35#8, 0x36#8, 0x37#8, 0x38#8, 0x39#8] = 0x29B1#16 := by decide +kernel

/-- A HELLO as octets, received. -/
theorem test_receiver :
    Receiver.run .hunting (.octet 0x55#8 true :: (frameOctets 0x10#8 [1#8, 1#8]).map fun b => .octet b true)
      = (.hunting, [.intact 0x10#8 [1#8, 1#8]]) := by decide +kernel

theorem test_receiver_damaged :
    Receiver.run .hunting ((frameOctets 0x10#8 [1#8, 1#8]).map fun b => .octet (if b = 0x10#8 then 0x11#8 else b) true)
      = (.hunting, [.damaged]) := by decide +kernel

/-- A SYNC octet without its stop bit, and a KIND octet without its own: one damaged frame each (R157). -/
theorem test_receiver_stop_bit :
    Receiver.run .hunting [.octet 0xC3#8 false, .octet 0x10#8 true] = (.hunting, [.damaged])
      ∧ Receiver.run .hunting [.octet 0xC3#8 true, .octet 0x10#8 false] = (.hunting, [.damaged]) := by decide +kernel

/-! ### Points in time (R13): the worked reading of 01 section 1.9 -/

theorem test_reached :
    reached 7355000#32 7340112#32 = false ∧ reached 7355000#32 7355000#32 = true ∧ reached 25888#32 1000#32 = false
      ∧ (1000#32 - 25888#32).toNat = 4294942408 ∧ reached 0xFFFFFFF0#32 1000#32 = true := by decide +kernel

/-! ### Witnesses

Each names concrete states and operands that meet all hypotheses of a statement together, clause by clause, at the boundary values of
their ranges. -/

theorem forall_node {P : NodeId → Prop} (h : ∀ n ∈ NodeId.all, P n) (n : NodeId) : P n := h n (by cases n <;> decide)

theorem forall_group {P : GroupId → Prop} (h : ∀ g ∈ GroupId.all, P g) (g : GroupId) : P g := h g (by cases g <;> decide)

theorem forall_chan {P : ChanId → Prop} (h0 : P .c0) (h1 : P .c1) (c : ChanId) : P c := by cases c <;> assumption

/-- The upload law, by tests of every node and every slot. -/
theorem uploadLaw_of (s : State)
    (open_ok : ∀ n ∈ NodeId.all, ∀ i : Slot, (s.node n).openRec = some i → (s.node n).state.inService = true
      ∧ (s.store.dir[i]).any (fun r => decide (r.node = n) && !r.isCommitted) = true)
    (back_ok : ∀ i : Slot, (s.store.dir[i]).all (fun r => r.isCommitted || decide ((s.node r.node).openRec = some i)) = true)
    (busy_ok : ∀ n ∈ NodeId.all, (s.port (.node n)).inProgress
      = if ((s.node n).openRec.bind fun i => s.store.dir[i]).any Record.isVerifying then some .commit else none) :
    s.uploadLaw := by
  refine ⟨fun n i h => ?_, fun i r h hc => ?_, forall_node busy_ok⟩
  · obtain ⟨h1, h2⟩ := forall_node open_ok n i h
    cases hd : s.store.dir[i] with
    | none => rw [hd] at h2; cases h2
    | some r => exact ⟨h1, r, rfl, by simpa [hd] using h2⟩
  · have := back_ok i
    rw [h] at this
    simpa [hc] using this

/-- The laws of the queue, the channels and the arbiter, by tests of every node and channel. -/
theorem schedulerLaw_of (s : State)
    (queue_ok : s.queue.Nodup ∧ ∀ n ∈ NodeId.all, (n ∈ s.queue ↔ (s.node n).state = .queued))
    (bound_ok : ∀ n ∈ NodeId.all, ((s.node n).channel.isSome = true ↔ (s.node n).state = .restoring)
      ∧ ∀ c ∈ [ChanId.c0, ChanId.c1], ((s.node n).channel = some c ↔ (s.chan c).any (fun b => decide (b.node = n)) = true))
    (idle_ok : s.queue = [] ∨ (s.chan .c0 ≠ none ∧ s.chan .c1 ≠ none))
    (order_ok : s.queue.Pairwise fun a b => s.ahead a b = true) : s.schedulerLaw := by
  refine ⟨⟨queue_ok.1, forall_node queue_ok.2⟩, order_ok, ⟨fun n => (forall_node bound_ok n).1, fun n c => ?_⟩, fun h => ?_⟩
  · have := (forall_node bound_ok n).2 c (by cases c <;> decide)
    rw [this]
    cases s.chan c <;> simp
  · rcases idle_ok with h' | h'
    · exact absurd h' h
    · exact forall_chan h'.1 h'.2

/-- The generation law, by tests of every slot and every two slots. -/
theorem generationLaw_of (st : Store)
    (range_ok : ∀ i : Slot, (st.dir[i]).all (fun r => decide (1 ≤ r.gen.toNat ∧ r.gen.toNat ≤ (st.gens.get r.node).toNat)) = true)
    (apart_ok : ∀ i j : Slot, i = j ∨ (st.dir[i]).all (fun r => (st.dir[j]).all fun q =>
      decide (r.node = q.node → r.gen ≠ q.gen)) = true) : st.generationLaw := by
  refine ⟨fun i r h => ?_, fun i j r q h h' hn hg => ?_⟩
  · have := range_ok i
    rw [h] at this
    simpa using this
  · rcases apart_ok i j with he | he
    · exact he
    · rw [h, h'] at he
      simp [hn, hg] at he

/-- The law of the committed list, by a test of every node. -/
theorem listLaw_of (st : Store)
    (ok : ∀ n ∈ NodeId.all, (st.committed n).length ≤ Config.maxCommitted ∧ ∀ e ∈ st.committed n,
      (match e.2.kind with
        | .full => true
        | .delta b => (st.fulls n).any fun f => decide (f.2.gen = b ∧ b.toNat < e.2.gen.toNat)) = true) : st.listLaw := by
  refine fun n => ⟨(forall_node ok n).1, fun e he b hb => ?_⟩
  have := (forall_node ok n).2 e he
  rw [hb] at this
  obtain ⟨f, hf, h⟩ := List.any_eq_true.mp this
  exact ⟨f, hf, by simpa using h⟩

/-- The law of bases, for a store that holds no DELTA which is not committed. -/
theorem baseLaw_of (st : Store) (ok : ∀ i : Slot, (st.dir[i]).all (fun r => r.isCommitted || r.isFull) = true) : st.baseLaw := by
  intro i r b h hc hk
  have := ok i
  rw [h] at this
  simp [hc, Record.isFull, hk] at this

theorem witness_uploadLaw : served.uploadLaw ∧ stocked.uploadLaw ∧ passing.uploadLaw ∧ sending.uploadLaw := by
  refine ⟨?_, ?_, ?_, ?_⟩ <;> exact uploadLaw_of _ (by decide +kernel) (by decide +kernel) (by decide +kernel)

theorem witness_schedulerLaw : served.schedulerLaw ∧ booting.schedulerLaw ∧ verifying.schedulerLaw ∧ sending.schedulerLaw := by
  refine ⟨?_, ?_, ?_, ?_⟩ <;> exact schedulerLaw_of _ (by decide +kernel) (by decide +kernel) (by decide +kernel) (by decide +kernel)

theorem witness_StepTakesFrontCommand : State.reset.pending = [] := rfl

/-- The image of `commissioned`, and four arrays that no load accepts. -/
theorem witness_ResetLoadsTheArray :
    let settings := stocked.monitor.map MonChannel.settings
    let good : Image := ⟨twoGroups, settings⟩
    let bad (p : Plan) (m : Vector MonSettings 16) : State :=
      { stocked with array := .image ⟨p, m⟩ (Image.checkWord ⟨p, m⟩) }
    (stocked.powered = true ∧ (∃ t, exec .powerOnReset commissioned = .next t) ∧ (∃ t, exec .pinReset commissioned = .next t)
        ∧ commissioned.array = .image good good.checkWord ∧ wordSum good.words + good.checkWord = 0x4B5A4160#32
        ∧ good.plan.inRange = true ∧ (∀ k : Fin 16, (good.settings[k]).valid = true) ∧ good.plan.firstFault = none)
      ∧ wordSum good.words + (good.checkWord + 1#32) ≠ 0x4B5A4160#32
      ∧ (bad { twoGroups with answerTime := 4 } settings).powered = true
      ∧ Plan.inRange { twoGroups with answerTime := 4 } = false
      ∧ MonSettings.valid ((settings.set 15 ⟨.g1, .off, 0, 0, 1, false⟩)[15]) = false
      ∧ Plan.firstFault { twoGroups with nodes := twoGroups.nodes.set .n2 { twoGroups.nodes.n1 with group := .g1 } } ≠ none
      ∧ stocked.passes .resync .supervisor [] ∧ ∃ t, exec (.resync .supervisor []) stocked = .next t := by
  refine ⟨⟨by decide +kernel, ⟨_, rfl⟩, ⟨_, rfl⟩, by decide +kernel, by decide +kernel, by decide +kernel, by decide +kernel,
    by decide +kernel⟩, by decide +kernel, by decide +kernel, by decide +kernel, by decide +kernel, by decide +kernel,
    by decide +kernel, ⟨_, rfl⟩⟩

theorem witness_PinResetKeepsCommittedRecords :
    commissioned.powered = true ∧ (after .supplyLoss commissioned).powered = false := by decide +kernel

theorem witness_ResyncKeepsPlansAndRecords : stocked.passes .resync .supervisor [] := by decide +kernel

theorem witness_OutsideEventsHaveTheirEffect :
    arrivesOnLink (.frameDamaged .supervisor) = true ∧ arrivesOnLink (.save .supervisor []) = true
      ∧ (after .resetAssert served).resetAsserted = true ∧ (after .supplyLoss served).powered = false
      ∧ saving.saving.isSome = true ∧ served.saving.isSome = false
      ∧ stocked.powered = true ∧ Memory.wf stocked.store.pool := by decide +kernel

/-- A word of the set that VERIFY reads is disturbed unread, after VERIFY has read it, and, unsaid, after VERIFY is known to have read
a later word. -/
theorem witness_OutsideEventsHaveTheirEffect_duringVerify :
    let order := verifying.store.reading [1, 2]
    let late := after (.storageDisturbance 2 0 ⟨0#32, true⟩) verifying
    let again := after (.storageDisturbance 1 1 ⟨0#32, false⟩) late
    (verifying.powered = true ∧ Memory.wf verifying.store.pool ∧ order = [64, 65, 128, 129])
      ∧ (after (.storageDisturbance 2 0 ⟨0#32, false⟩) verifying).store.pool.readAs [] 128 = ⟨0#32, false⟩
      ∧ (late.chan .c0).map Binding.seen = some [(128, ⟨5#32, true⟩)]
      ∧ (again.chan .c0).map Binding.seen = some [(128, ⟨5#32, true⟩), (65, ⟨4#32, true⟩)]
      ∧ (order.idxOf 65 ≤ order.idxOf 128 ∧ ¬ order.idxOf 129 ≤ order.idxOf 128) := by
  refine ⟨?_, ?_, ?_, ?_, ?_⟩ <;> decide +kernel

theorem witness_ClockAdvances :
    (served.powered = true ∧ served.clock.sub < 999)
      ∧ ((after .clockTick served).powered = true ∧ (after .clockTick served).clock.sub = 999)
      ∧ ∃ t, exec .powerOnReset served = .next t := ⟨by decide +kernel, by decide +kernel, ⟨_, rfl⟩⟩

theorem witness_TimersAndPointsCountAdvances :
    (2 ^ 31 - 1 < 2 ^ 31) ∧ (2 ^ 32 - 1 < 2 ^ 32)
      ∧ { served with clock := ⟨0#32, 0, 6#32⟩ }.clock.sec = 7#32 + BitVec.ofNat 32 (2 ^ 32 - 1)
      ∧ served.powered = true := by decide +kernel

theorem witness_LinkInterfaceJudgesFrames :
    let full : List Byte := List.replicate 264 0#8
    served.listens ∧ frameOf (.hello .supervisor full) = some (.hello, .supervisor, full) ∧ full.length ≤ 264
      ∧ Kind.hello.allowedOn .supervisor = false
      ∧ (Kind.hello.allowedOn (.node .n8) = true ∧ served.linkPresent (.node .n8) = false)
      ∧ (served.linkPresent (.node .n3) = true ∧ Kind.hello.lengthOk full = false)
      ∧ (saving.listens ∧ Kind.readNode.allowedOn .supervisor = true ∧ saving.linkPresent .supervisor = true
        ∧ Kind.readNode.lengthOk [1#8] = true ∧ (saving.port .supervisor).inProgress ≠ none
        ∧ Kind.readNode.alwaysTaken = false ∧ frameOf (.readNode .supervisor [1#8]) = some (.readNode, .supervisor, [1#8]))
      ∧ served.resetAsserted = false
      ∧ (kindAccepted .supervisor 0xFF#8 = false ∧ kindAccepted (.node .n1) 0x10#8 = true)
      ∧ 264 < (List.replicate 265 0#8).length := by decide +kernel

theorem witness_DamagedFrameIsCounted :
    served.listens ∧ (served.passes .readNode .supervisor [8#8] ∧ octetAt [8#8] 0 = NodeId.num .n8)
      ∧ served.passes .readAlerts .supervisor [] ∧ served.powered = true ∧ served.passes .resync .supervisor []
      ∧ (after (.frameDamaged .supervisor) (served.setPort .supervisor { Port.atReset with errors := 255 })).listens := by
  decide +kernel

theorem witness_ReceiverReadsWhatTheLayoutWrites :
    (List.replicate 264 0xC3#8).length ≤ 264
      ∧ frameOf (.set .supervisor []) = some (.set, .supervisor, []) := by decide +kernel

theorem witness_BeatIsTakenByNodeState :
    (taking.passes .beat (.node .n1) [0#8, 0#8] ∧ (taking.node .n1).state = .halted)
      ∧ ((served.modNode .n1 fun _ => NodeRec.atReset).passes .beat (.node .n1) [0#8, 0#8]
        ∧ ((served.modNode .n1 fun _ => NodeRec.atReset).node .n1).state = .offline)
      ∧ (quiet.passes .beat (.node .n2) [9#8, 1#8, 0#8, 0#8, 0#8] ∧ (quiet.node .n2).state = .quiet)
      ∧ (served.passes .beat (.node .n1) [0#8, 0#8] ∧ (served.node .n1).state = .running ∧ octetAt [0#8, 0#8] 1 = 0) := by
  decide +kernel

theorem witness_FirstBeatAcquiresTheNode :
    let one := unknown.modNode .n2 fun _ => runs
    (unknown.passes .beat (.node .n1) [1#8, 0#8] ∧ (unknown.node .n1).state = .unknown ∧ unknown.groupOf .n1 = some .g1
      ∧ (unknown.group .g1).state = .pending ∧ roleClaim [1#8, 0#8] = some .duty ∧ octetAt [1#8, 0#8] 1 = 0
      ∧ ∀ m ∈ NodeId.all, unknown.active.otherMember .g1 .n1 = some m → (unknown.node m).state ≠ .running)
      ∧ one.passes .beat (.node .n1) [1#8, 0#8] ∧ (one.node .n1).state = .unknown
      ∧ one.active.otherMember .g1 .n1 = some .n2 ∧ (one.node .n2).state = .running := by decide +kernel

/-- `s` with node 2 in UNKNOWN at a millisecond time. -/
def lateStandby (s : State) (ms : Word) : State :=
  { s.modNode .n2 fun _ => .entersUnknown twoGroups.nodes.n2 with clock := ⟨ms, 0, 0#32⟩ }

/-- A BEAT without readings of a standby in UNKNOWN is taken, its group having left PENDING. -/
abbrev takesLateBeat (s : State) (p : List Byte) : Prop := s.passes .beat (.node .n2) p ∧ (s.node .n2).state = .unknown
  ∧ s.groupOf .n2 = some .g1 ∧ (s.group .g1).state ≠ .pending ∧ octetAt p 1 = 0 ∧ (s.group .g1).standby = some .n2

theorem witness_FirstBeatAcquiresTheNode_late :
    (takesLateBeat (lateStandby held 21001#32) [0#8, 0#8] ∧ (lateStandby held 21001#32).pointPassed .g1 = true
        ∧ ((lateStandby held 21001#32).group .g1).state.inHold = true)
      ∧ (takesLateBeat (lateStandby held 20999#32) [2#8, 0#8] ∧ (lateStandby held 20999#32).pointPassed .g1 = false
        ∧ roleClaim [2#8, 0#8] = some .standby)
      ∧ (takesLateBeat (lateStandby served 0#32) [1#8, 0#8] ∧ ((lateStandby served 0#32).group .g1).state.inHold = false)
      ∧ ((served.modNode .n1 fun _ => .entersUnknown twoGroups.nodes.n1).passes .beat (.node .n1) [0#8, 0#8]
        ∧ (served.group .g1).standby ≠ some .n1 ∧ (served.group .g1).state ≠ .pending) := by
  refine ⟨?_, ?_, ?_, ?_⟩ <;> decide +kernel

theorem test_late_standby :
    ((after (.beat (.node .n2) [0#8, 0#8]) (lateStandby held 21001#32)).port (.node .n2)).sent
        = [.role .g1 .standby, .take .g1]
      ∧ ((after (.beat (.node .n2) [2#8, 0#8]) (lateStandby held 21001#32)).port (.node .n2)).sent = [.take .g1]
      ∧ ((after (.beat (.node .n2) [0#8, 0#8]) (lateStandby served 0#32)).port (.node .n2)).sent = [.role .g1 .standby] := by
  decide +kernel

/-- `unknown` with node 2 RUNNING, and with node 2 in RESET. -/
def oneLeft (r : NodeRec) : State := unknown.modNode .n2 fun _ => r

theorem witness_LastMemberKnownResolvesTheGroup :
    let inReset : NodeRec := { NodeRec.atReset with state := .reset }
    let silent := (oneLeft inReset).modNode .n1 fun r => { r with acquire := some 0 }
    (unknown.planLaw ∧ unknown.passes .beat (.node .n1) [0#8, 0#8] ∧ (unknown.node .n1).state = .unknown
      ∧ unknown.groupOf .n1 = some .g1 ∧ (unknown.group .g1).state = .pending ∧ roleClaim [0#8, 0#8] ≠ some .duty
      ∧ unknown.active.initialDuty .g1 = some .n1
      ∧ ∃ m ∈ unknown.active.members .g1, m ≠ .n1 ∧ (unknown.node m).state = .unknown)
      ∧ ((oneLeft runs).planLaw ∧ (oneLeft runs).passes .beat (.node .n1) [2#8, 0#8]
        ∧ ∀ m ∈ (oneLeft runs).active.members .g1, m ≠ .n1 → ((oneLeft runs).node m).state ≠ .unknown)
      ∧ (silent.powered = true ∧ (silent.node .n1).state = .unknown ∧ (silent.node .n1).acquire = some 0
        ∧ silent.groupOf .n1 = some .g1 ∧ (silent.group .g1).state = .pending ∧ silent.active.initialDuty .g1 = some .n1
        ∧ (∀ m ∈ silent.active.members .g1, m ≠ .n1 →
          (silent.node m).state ≠ .unknown ∧ (silent.node m).state ≠ .running)
        ∧ ¬ (silent.clock.ms - (silent.clock.ms + BitVec.ofNat 32 ((silent.groupPlan .g1).holdTime * 1000))).toNat < 2 ^ 31) := by
  refine ⟨⟨⟨by decide +kernel, by decide +kernel, by decide +kernel⟩, by decide +kernel⟩,
    ⟨⟨by decide +kernel, by decide +kernel, by decide +kernel⟩, by decide +kernel⟩, by decide +kernel⟩

/-- The three commands that take node n out of UNKNOWN otherwise than to RUNNING. -/
theorem leavesUnknown_each (s : State) (n : NodeId) (b : Byte)
    (ok : s.powered = true ∧ (s.node n).state = .unknown ∧ (s.node n).acquire = some 0 ∧ s.present n = true
      ∧ s.passes .hello (.node n) [0#8, 1#8] ∧ s.passes .halt .supervisor [b] ∧ octetAt [b] 0 = n.num) :
    s.leavesUnknown n (.acquireExpiry n) ∧ s.leavesUnknown n (.hello (.node n) [0#8, 1#8])
      ∧ s.leavesUnknown n (.halt .supervisor [b]) :=
  ⟨⟨ok.2.1, rfl, ok.1, ok.2.2.1⟩, ⟨ok.2.1, rfl, ok.2.2.2.2.1⟩, ⟨ok.2.1, ok.2.2.2.2.2.1, ok.2.2.2.2.2.2, ok.2.2.2.1⟩⟩

/-- Node n, of group 1, leaves UNKNOWN while the group is PENDING, as the last member. -/
abbrev lastToLeave (s : State) (n : NodeId) : Prop := s.groupOf n = some .g1 ∧ (s.group .g1).state = .pending
  ∧ s.active.initialDuty .g1 = some .n1 ∧ ∀ m ∈ s.active.members .g1, m ≠ n → (s.node m).state ≠ .unknown

/-- With the initial duty node RUNNING, with the other member RUNNING, with none, and with another member still in UNKNOWN. -/
theorem witness_LastMemberKnownResolvesTheGroup_leaving :
    let due (s : State) (n : NodeId) : State := s.modNode n fun r => { r with acquire := some 0 }
    let s1 := due (unknown.modNode .n1 fun _ => runs) .n2
    let s2 := due (oneLeft runs) .n1
    let s3 := due (oneLeft { NodeRec.atReset with state := .halted }) .n1
    (lastToLeave s1 .n2 ∧ (s1.node .n1).state = .running ∧ s1.leavesUnknown .n2 (.acquireExpiry .n2)
        ∧ s1.leavesUnknown .n2 (.hello (.node .n2) [0#8, 1#8]) ∧ s1.leavesUnknown .n2 (.halt .supervisor [2#8]))
      ∧ (lastToLeave s2 .n1 ∧ s2.active.otherMember .g1 .n1 = some .n2 ∧ (s2.node .n2).state = .running
        ∧ s2.leavesUnknown .n1 (.acquireExpiry .n1) ∧ s2.leavesUnknown .n1 (.hello (.node .n1) [0#8, 1#8])
        ∧ s2.leavesUnknown .n1 (.halt .supervisor [1#8]))
      ∧ (lastToLeave s3 .n1 ∧ (s3.node .n2).state ≠ .running ∧ s3.leavesUnknown .n1 (.acquireExpiry .n1)
        ∧ s3.leavesUnknown .n1 (.hello (.node .n1) [0#8, 1#8]) ∧ s3.leavesUnknown .n1 (.halt .supervisor [1#8]))
      ∧ ((due unknown .n1).leavesUnknown .n1 (.acquireExpiry .n1) ∧ (unknown.node .n2).state = .unknown) := by
  refine ⟨⟨?_, ?_, leavesUnknown_each _ _ _ ?_⟩, ⟨?_, ?_, ?_, leavesUnknown_each _ _ _ ?_⟩,
    ⟨?_, ?_, leavesUnknown_each _ _ _ ?_⟩, ⟨(leavesUnknown_each _ _ 1#8 ?_).1, ?_⟩⟩ <;> decide +kernel

theorem test_halt_resolves :
    let s1 := after (.halt .supervisor [1#8]) (oneLeft runs)
    let s2 := after (.halt .supervisor [1#8]) (oneLeft { NodeRec.atReset with state := .halted })
    ((s1.group .g1).duty = some .n2 ∧ said s1 (.node .n2) = some (.role .g1 .duty))
      ∧ ((s2.group .g1).state = .held ∧ (s2.group .g1).deadline = some 30000#32 ∧ s2.flag .held = true) := by
  refine ⟨?_, ?_⟩ <;> decide +kernel

/-- A BEAT with one reading of channel k. -/
def reads (k v : Nat) : List Byte := [0#8, 1#8, octet k] ++ le2 v

/-- `served` with monitor channel 15 as given. -/
def monitored (mode : MonMode) (faultCount : Nat) (state : MonState) (run : Nat) : State :=
  { served with monitor := served.monitor.set 15 ⟨⟨.g1, mode, 4094, 4093, faultCount, true⟩, state, run⟩ }

/-- The reading v of channel 15 is taken, and is above the high limit or not. -/
abbrev takesReading (s : State) (v : Nat) (high : Bool) : Prop := s.passes .beat (.node .n1) (reads 15 v)
  ∧ (s.node .n1).state = .running ∧ octetAt (reads 15 v) 1 = 1 ∧ octetAt (reads 15 v) 2 = 15
  ∧ (s.monitor[15]).settings.valid = true ∧ field2 (reads 15 v) 3 = v ∧ decide (4094 < v) = high

theorem witness_ReadingStepsTheChannel :
    takesReading (monitored .off 1 .clear 0) 4095 true ∧ takesReading (monitored .twoTimes 2 .clear 0) 4096 true
      ∧ takesReading (monitored .twoTimes 2 .counting 1) 4095 true ∧ takesReading (monitored .twoTimes 2 .clear 0) 4095 true
      ∧ takesReading (monitored .twoTimes 2 .counting 1) 4094 false
      ∧ takesReading (monitored .comparator 2 .tripped 2) 4095 true ∧ takesReading (monitored .comparator 2 .tripped 2) 4093 false
      ∧ takesReading (monitored .twoTimes 2 .tripped 2) 4092 false := by
  refine ⟨?_, ?_, ?_, ?_, ?_, ?_, ?_, ?_⟩ <;> decide +kernel

theorem witness_TripEscalatesAHeldGroup :
    let declinedNone := held.modNode .n2 fun r => { r with state := .settling }
    (held.passes .beat (.node .n3) (reads 0 4095) ∧ (held.node .n3).state = .running ∧ octetAt (reads 0 4095) 1 = 1
      ∧ octetAt (reads 0 4095) 2 = 0 ∧ field2 (reads 0 4095) 3 ≤ 4095
      ∧ (held.monitor[0]).settings.high < field2 (reads 0 4095) 3 ∧ (held.monitor[0]).settings.mode ≠ .off
      ∧ (held.monitor[0]).state ≠ .tripped ∧ (held.monitor[0]).run + 1 = (held.monitor[0]).settings.faultCount
      ∧ (held.monitor[0]).settings.escalate = true ∧ (held.monitor[0]).settings.group = .g1
      ∧ (held.group .g1).state.inHold = true ∧ (held.group .g1).escalated = false
      ∧ (held.group .g1).standby = some .n2 ∧ (held.node .n2).state = .running ∧ (held.group .g1).outstanding = false)
      ∧ (taking.passes .beat (.node .n3) (reads 0 101) ∧ (taking.group .g1).escalated = false
        ∧ (taking.group .g1).outstanding = true)
      ∧ (declinedNone.passes .beat (.node .n3) (reads 0 101) ∧ (declinedNone.group .g1).standby = some .n2
        ∧ (declinedNone.node .n2).state ≠ .running) := by decide +kernel

theorem witness_QuietIsOpenToARunningStandby :
    (served.groupOf .n2 = some .g1 ∧ served.passes .quiet (.node .n2) [] ∧ (served.node .n2).state = .running
      ∧ (served.group .g1).standby = some .n2 ∧ (served.group .g1).duty ≠ some .n2 ∧ (served.group .g1).outstanding = false)
      ∧ (taking.passes .quiet (.node .n2) [] ∧ (taking.node .n2).state = .running ∧ (taking.group .g1).outstanding = true
        ∧ (taking.group .g1).standby = some .n2 ∧ (taking.group .g1).duty ≠ some .n2)
      ∧ (served.passes .quiet (.node .n1) [] ∧ (served.group .g1).duty = some .n1) := by decide +kernel

theorem witness_QuietIsOpenToARunningStandby_refused :
    let none1 := unknown.modNode .n1 fun _ => runs
    (none1.passes .quiet (.node .n1) [] ∧ (none1.node .n1).state = .running ∧ (none1.group .g1).duty ≠ some .n1
        ∧ (none1.group .g1).standby ≠ some .n1)
      ∧ (held.passes .quiet (.node .n1) [] ∧ (held.node .n1).state ≠ .running)
      ∧ (passing.listens ∧ passing.present .n2 = true ∧ (passing.port (.node .n2)).inProgress = some .commit) := by
  decide +kernel

/-- Node 2 QUIET in `held`, the takeover point passed. -/
def pastPoint : State := { held.modNode .n2 fun r => { r with state := .quiet } with clock := ⟨21001#32, 0, 0#32⟩ }

theorem witness_AwakeReturnsToRunning :
    (quiet.passes .awake (.node .n2) [] ∧ (quiet.node .n2).state = .quiet ∧ quiet.groupOf .n2 = some .g1
      ∧ (quiet.group .g1).state.inHold = false)
      ∧ (pastPoint.passes .awake (.node .n2) [] ∧ (pastPoint.node .n2).state = .quiet ∧ pastPoint.groupOf .n2 = some .g1
        ∧ (pastPoint.group .g1).standby = some .n2 ∧ (pastPoint.group .g1).state.inHold = true
        ∧ (pastPoint.group .g1).outstanding = false ∧ (pastPoint.group .g1).declined = false
        ∧ pastPoint.pointPassed .g1 = true) := by decide +kernel

theorem witness_AskRestartChecksThePartner :
    (served.uploadLaw ∧ served.passes .askRestart (.node .n1) [] ∧ (served.node .n1).state.inService = true
      ∧ ∀ m, served.partner .n1 = some m → (served.node m).state.inService = true)
      ∧ (held.uploadLaw ∧ held.passes .askRestart (.node .n2) [] ∧ (held.node .n2).state.inService = true
        ∧ ∃ m, held.partner .n2 = some m ∧ (held.node m).state.inService = false) := by
  refine ⟨⟨witness_uploadLaw.1, by decide +kernel, by decide +kernel, forall_node (by decide +kernel)⟩,
    ⟨uploadLaw_of _ (by decide +kernel) (by decide +kernel) (by decide +kernel), by decide +kernel, by decide +kernel,
      .n1, by decide +kernel⟩⟩

/-- Node n settles, and group 1 is as given. -/
def settles (n : NodeId) (f : GroupRec → GroupRec) : State :=
  ((held.modNode .n1 fun _ => runs).modNode n fun r =>
    { NodeRec.atReset with state := .settling, mark := some .warm, attempts := r.attempts, settle := some 0 }).modGroup .g1 f

/-- A RESUMED of node n, of group 1, is taken. -/
abbrev takesResumed (n : NodeId) (s : State) : Prop := s.passes .resumed (.node n) [] ∧ (s.node n).state = .settling
  ∧ s.groupOf n = some .g1 ∧ ((s.group .g1).duty ≠ (s.group .g1).standby ∨ (s.group .g1).duty = none)

theorem witness_ResumedReturnsToService :
    let s1 := settles .n1 id
    let s2 := settles .n1 fun g => { g with outstanding := true }
    let s3 := settles .n2 fun g => { g with state := .takenOver, deadline := none, point := none }
    let s4 := settles .n2 fun g => { g with escalated := true }
    let s5 := settles .n2 fun g => { g with declined := true }
    let s6 := settles .n1 fun _ => { GroupRec.atReset with state := .pending }
    (takesResumed .n1 s1 ∧ (s1.group .g1).duty = some .n1 ∧ (s1.group .g1).outstanding = false)
      ∧ (takesResumed .n1 s2 ∧ (s2.group .g1).duty = some .n1 ∧ (s2.group .g1).outstanding = true)
      ∧ (takesResumed .n2 s3 ∧ (s3.group .g1).standby = some .n2 ∧ (s3.group .g1).state.inHold = false)
      ∧ (takesResumed .n2 s4 ∧ (s4.group .g1).standby = some .n2 ∧ (s4.group .g1).state.inHold = true
        ∧ (s4.group .g1).outstanding = false ∧ (s4.group .g1).declined = false ∧ (s4.group .g1).escalated = true)
      ∧ (takesResumed .n2 s5 ∧ (s5.group .g1).state.inHold = true ∧ (s5.group .g1).declined = true)
      ∧ (takesResumed .n1 s6 ∧ (s6.group .g1).duty ≠ some .n1 ∧ (s6.group .g1).standby ≠ some .n1) := by
  refine ⟨?_, ?_, ?_, ?_, ?_, ?_⟩ <;> decide +kernel

theorem witness_RequestsOutOfStateAreRefused :
    served.passes .resumed (.node .n1) [] ∧ (served.node .n1).state ≠ .settling ∧ served.passes .awake (.node .n1) []
      ∧ held.passes .askRestart (.node .n1) [] ∧ (held.node .n1).state.inService = false
      ∧ held.passes .hello (.node .n1) [0#8, 0#8] ∧ (held.node .n1).state = .reset
      ∧ taking.passes .hello (.node .n1) [0#8, 0#8] ∧ (taking.node .n1).state = .halted
:= by decide +kernel

theorem witness_RequestsOutOfStateAreRefused_uploads :
    held.passes .openRecord (.node .n1) [0#8, 0#8, 0#8, 0#8, 0#8, 1#8, 0#8]
      ∧ (held.node .n1).state.inService = false ∧ held.passes .block (.node .n1) [0#8, 1#8, 0#8, 0#8, 0#8, 0#8] ∧ held.passes .commit (.node .n1) [0#8, 0#8, 0#8, 0#8]
      ∧ held.passes .drop (.node .n1) [] ∧ served.passes .drop (.node .n1) [] ∧ (served.node .n1).openRec = none := by
  decide +kernel

theorem witness_WhoReportsTheNodesStanding :
    (served.passes .who (.node .n1) [] ∧ (served.group (served.nodePlan .n1).group).duty = some .n1)
      ∧ (served.passes .who (.node .n2) [] ∧ (served.group (served.nodePlan .n2).group).duty ≠ some .n2
        ∧ (served.group (served.nodePlan .n2).group).standby = some .n2)
      ∧ (unknown.passes .who (.node .n2) [] ∧ (unknown.group .g1).duty ≠ some .n2 ∧ (unknown.group .g1).standby ≠ some .n2)
      ∧ (passing.listens ∧ passing.present .n2 = true ∧ (passing.port (.node .n2)).inProgress = some .commit)
      ∧ (served.listens ∧ served.present .n8 = false) := by decide +kernel

theorem witness_HelloClassifiesTheRestart :
    let driven (d : Option DriveReason) (n : NodeId) : State := booting.modNode n fun r => { r with state := .boot, drive := d }
    (∀ d ∈ [none, some .lapse, some .commanded, some .requested, some .released], ∀ n ∈ [NodeId.n1, .n3], ∀ b ∈ [0#8, 1#8, 2#8, 3#8, 255#8],
      (driven d n).passes .hello (.node n) [b, 1#8] ∧ ((driven d n).node n).state = .boot ∧ ((driven d n).node n).drive = d)
      ∧ (booting.nodePlan .n1).resetDrive = true ∧ (booting.nodePlan .n3).resetDrive = false
      ∧ [0#8, 1#8, 2#8, 3#8, 255#8].map (fun b => bootReason [b, 1#8]) = [.power, .resetLine, .ownWatchdog, .software, .software] := by
  decide +kernel

/-- `booting` with both channels bound: nodes 2 and 3 restore. -/
def crowded : State :=
  let r (c : ChanId) : NodeRec := { NodeRec.atReset with state := .restoring, channel := some c }
  let b (n : NodeId) : Binding := ⟨n, .verify, [], 0, 0, false, 0, none, []⟩
  { booting with
    nodes := { booting.nodes with n2 := r .c0, n3 := r .c1 }
    channels := ⟨some (b .n2), some (b .n3)⟩ }

theorem witness_HelloIsGivenItsVerdict :
    (booting.schedulerLaw ∧ booting.passes .hello (.node .n1) [1#8, 1#8] ∧ (booting.node .n1).state = .boot
      ∧ booting.expectedVerdict .n1 .lapse true = .warm ∧ booting.chan .c0 = none)
      ∧ (crowded.schedulerLaw ∧ crowded.passes .hello (.node .n1) [1#8, 1#8] ∧ (crowded.node .n1).state = .boot
        ∧ crowded.expectedVerdict .n1 .lapse true = .warm ∧ crowded.chan .c0 ≠ none ∧ crowded.chan .c1 ≠ none)
      ∧ (unknown.schedulerLaw ∧ unknown.passes .hello (.node .n1) [0#8, 0#8] ∧ (unknown.node .n1).state = .unknown
        ∧ unknown.expectedVerdict .n1 .supply false ≠ .warm) := by
  refine ⟨⟨witness_schedulerLaw.2.1, by decide +kernel⟩,
    ⟨schedulerLaw_of _ (by decide +kernel) (by decide +kernel) (by decide +kernel) (by decide +kernel), by decide +kernel⟩,
    ⟨schedulerLaw_of _ (by decide +kernel) (by decide +kernel) (by decide +kernel) (by decide +kernel), by decide +kernel⟩⟩

theorem witness_UnannouncedHelloCountsAnAttempt :
    let spent := stocked.modNode .n1 fun r => { r with attempts := 3 }
    (stocked.uploadLaw ∧ stocked.schedulerLaw ∧ stocked.passes .hello (.node .n1) [0#8, 1#8]
      ∧ (stocked.node .n1).state.inService = true ∧ (stocked.node .n1).attempts < (stocked.nodePlan .n1).attemptLimit
      ∧ stocked.expectedVerdict .n1 .supply true = .warm)
      ∧ (sending.uploadLaw ∧ sending.schedulerLaw ∧ sending.passes .hello (.node .n1) [0#8, 0#8]
        ∧ (sending.node .n1).state = .restoring ∧ sending.expectedVerdict .n1 .supply false ≠ .warm)
      ∧ (spent.uploadLaw ∧ spent.schedulerLaw ∧ spent.passes .hello (.node .n1) [0#8, 1#8]
        ∧ (spent.nodePlan .n1).attemptLimit ≤ (spent.node .n1).attempts) := by
  refine ⟨⟨witness_uploadLaw.2.1, schedulerLaw_of _ (by decide +kernel) (by decide +kernel) (by decide +kernel) (by decide +kernel), by decide +kernel⟩,
    ⟨witness_uploadLaw.2.2.2, witness_schedulerLaw.2.2.2, by decide +kernel⟩,
    ⟨uploadLaw_of _ (by decide +kernel) (by decide +kernel) (by decide +kernel),
      schedulerLaw_of _ (by decide +kernel) (by decide +kernel) (by decide +kernel) (by decide +kernel), by decide +kernel⟩⟩

/-- The COMMIT of node 2 is in its pass when the node leaves service. -/
theorem witness_passEnds :
    (passing.uploadLaw ∧ (passing.port (.node .n2)).inProgress = some .commit)
      ∧ (passing.powered = true ∧ (passing.node .n2).state = .running ∧ (passing.node .n2).lapse = some 0)
      ∧ (passing.schedulerLaw ∧ passing.passes .hello (.node .n2) [0#8, 1#8]
        ∧ passing.passes .restart .supervisor [2#8, 1#8] ∧ passing.passes .halt .supervisor [2#8]
        ∧ passing.present .n2 = true ∧ (passing.node .n2).state ≠ .restoring) := by
  refine ⟨⟨witness_uploadLaw.2.2.1, ?_⟩, ?_, ⟨?_, ?_⟩⟩ <;>
    first | decide +kernel | exact schedulerLaw_of _ (by decide +kernel) (by decide +kernel) (by decide +kernel) (by decide +kernel)

theorem test_pass_ended :
    said (after (.lapseExpiry .n2) passing) (.node .n2) = some (.reply 0x1A#8 .badState (.newest 0#32))
      ∧ (after (.lapseExpiry .n2) passing).port (.node .n2)
        = ⟨.hunting, none, 0, (passing.port (.node .n2)).sent ++ [.reply 0x1A#8 .badState (.newest 0#32)]⟩ := by
  decide +kernel

/-- A node that has kept silent in UNKNOWN, and a quiet node already nudged. -/
def silent : State := (unknown.modNode .n1 fun r => { r with acquire := some 0 }).modNode .n3 fun r => { r with acquire := some 0 }

theorem witness_SilenceBeginsARestart :
    let nudged := quiet.modNode .n2 fun r => { r with nudgeSent := true }
    let cold := settles .n2 id
    (silent.uploadLaw ∧ silent.powered = true ∧ (silent.node .n1).state = .unknown ∧ (silent.node .n1).acquire = some 0
      ∧ (silent.node .n3).acquire = some 0)
      ∧ (served.uploadLaw ∧ served.powered = true ∧ (served.node .n1).state = .running ∧ (served.node .n1).lapse = some 0)
      ∧ (nudged.uploadLaw ∧ (nudged.node .n2).state = .quiet ∧ (nudged.node .n2).nudgeSent = true
        ∧ (nudged.node .n2).lapse = some 0)
      ∧ (booting.uploadLaw ∧ (booting.node .n1).state = .boot ∧ (booting.node .n1).boot = some 0
        ∧ (booting.node .n1).drive = some .lapse)
      ∧ (cold.uploadLaw ∧ (cold.node .n2).state = .settling ∧ (cold.node .n2).settle = some 0) := by
  refine ⟨⟨?_, by decide +kernel⟩, ⟨?_, by decide +kernel⟩, ⟨?_, by decide +kernel⟩, ⟨?_, by decide +kernel⟩,
    ⟨?_, by decide +kernel⟩⟩ <;> exact uploadLaw_of _ (by decide +kernel) (by decide +kernel) (by decide +kernel)

theorem witness_PulseStableAndNudgeExpiries :
    let spent := held.modNode .n1 fun r => { r with attempts := 3 }
    (held.powered = true ∧ (held.node .n1).state = .reset ∧ (held.node .n1).pulse = some 0
      ∧ (held.node .n1).attempts < (held.nodePlan .n1).attemptLimit)
      ∧ ((spent.node .n1).pulse = some 0 ∧ (spent.nodePlan .n1).attemptLimit ≤ (spent.node .n1).attempts)
      ∧ (served.node .n1).stable = some 0
      ∧ ((quiet.node .n2).state = .quiet ∧ (quiet.node .n2).nudgeSent = false ∧ (quiet.node .n2).lapse = some 0)
      ∧ ((unknown.node .n1).acquire ≠ some 0 ∧ (unknown.node .n1).lapse ≠ some 0 ∧ (unknown.node .n1).stable ≠ some 0
        ∧ (unknown.node .n1).pulse ≠ some 0 ∧ (unknown.node .n1).boot ≠ some 0 ∧ (unknown.node .n1).settle ≠ some 0
        ∧ (unknown.exchange .n1).answer ≠ some 0 ∧ unknown.chan .c0 = none) := by
  refine ⟨?_, ?_, ?_, ?_, ?_⟩ <;> decide +kernel

/-- `served` at a millisecond time, with channel 0 TRIPPED or not. -/
def servedAt (ms : Word) (m : MonState) : State :=
  { served with clock := ⟨ms, 0, 0#32⟩, monitor := served.monitor.set 0 { eager with state := m, run := 1 } }

/-- Each command that takes node n out of service acts in s. -/
theorem endsService_each (s : State) (n : NodeId) (b : Byte)
    (ok : (s.node n).state = .running ∧ s.powered = true ∧ (s.node n).lapse = some 0 ∧ s.present n = true
      ∧ s.passes .hello (.node n) [0#8, 1#8] ∧ s.passes .restart .supervisor [b, 1#8] ∧ s.passes .halt .supervisor [b]
      ∧ octetAt [b, 1#8] 0 = n.num ∧ octetAt [b] 0 = n.num ∧ octetAt [b, 1#8] 1 = 1) :
    s.endsService n (.lapseExpiry n) ∧ s.endsService n (.hello (.node n) [0#8, 1#8])
      ∧ s.endsService n (.restart .supervisor [b, 1#8]) ∧ s.endsService n (.halt .supervisor [b]) := by
  obtain ⟨run, power, due, here, hello, restart, halt, num2, num1, force⟩ := ok
  have inService : (s.node n).state.inService = true := by rw [run]; rfl
  exact ⟨⟨inService, rfl, power, due, fun h => by rw [run] at h; cases h⟩, ⟨inService, rfl, hello⟩,
    ⟨inService, restart, num2, here, .inl force⟩, ⟨inService, halt, num1, here⟩⟩

/-- An ASK_RESTART of node n, whose partner is in service, acts in s. -/
theorem endsService_ask (s : State) (n : NodeId)
    (ok : (s.node n).state.inService = true ∧ s.passes .askRestart (.node n) []
      ∧ ∀ m ∈ NodeId.all, s.partner n = some m → (s.node m).state.inService = true) :
    s.endsService n (.askRestart (.node n) []) := ⟨ok.1, rfl, ok.2.1, forall_node ok.2.2⟩

/-- The duty node of group 1 is in service, its last BEAT at 1000 ms, its standby RUNNING. -/
abbrev servesBoth (s : State) : Prop := s.groupOf .n1 = some .g1 ∧ (s.group .g1).duty = some .n1 ∧ (s.group .g1).state = .served
  ∧ (s.node .n1).lastBeat = some 1000#32 ∧ (s.group .g1).standby = some .n2 ∧ (s.node .n2).state = .running

/-- Each of the five events takes node 1 out of service. -/
abbrev eachLeaves (s : State) : Prop := s.endsService .n1 (.lapseExpiry .n1) ∧ s.endsService .n1 (.hello (.node .n1) [0#8, 1#8])
  ∧ s.endsService .n1 (.restart .supervisor [1#8, 1#8]) ∧ s.endsService .n1 (.halt .supervisor [1#8])
  ∧ s.endsService .n1 (.askRestart (.node .n1) [])

theorem eachLeaves_servedAt (ms : Word) (m : MonState) : eachLeaves (servedAt ms m) := by
  have h := endsService_each (servedAt ms m) .n1 1#8 (by
    refine ⟨rfl, rfl, rfl, rfl, ?_, ?_, ?_, rfl, rfl, rfl⟩ <;> exact ⟨⟨rfl, rfl⟩, by decide, rfl, rfl, rfl, .inl rfl⟩)
  exact ⟨h.1, h.2.1, h.2.2.1, h.2.2.2, endsService_ask _ _ ⟨rfl, ⟨⟨rfl, rfl⟩, by decide, rfl, rfl, rfl, .inl rfl⟩,
    fun m hm hp => by cases hp; rfl⟩⟩

/-- Before the takeover point, at it, just before the deadline, at it, and with an escalating channel TRIPPED. -/
theorem witness_DutyLapseEntersTheHold :
    (servesBoth (servedAt 20999#32 .clear) ∧ servesBoth (servedAt 21000#32 .clear) ∧ servesBoth (servedAt 30999#32 .clear)
        ∧ servesBoth (servedAt 31000#32 .clear) ∧ servesBoth (servedAt 1256#32 .tripped))
      ∧ (∀ ms m, eachLeaves (servedAt ms m))
      ∧ (served.groupPlan .g1).deadlineFrom 1000#32 = 31000#32 ∧ (served.groupPlan .g1).pointFrom 1000#32 = 21000#32
      ∧ (quiet.group .g1).standby = some .n2 ∧ (quiet.node .n2).state ≠ .running ∧ quiet.endsService .n1 (.lapseExpiry .n1) := by
  refine ⟨⟨?_, ?_, ?_, ?_, ?_⟩, eachLeaves_servedAt, ?_, ?_, ?_, ?_, (endsService_each _ _ 1#8 ?_).1⟩ <;> decide +kernel

/-- `taking`, with the duty node back in service and waiting on LATER. -/
def later : State := (taking.modNode .n1 fun _ => runs).modGroup .g1 fun g => { g with roleLater := some .n1 }

theorem witness_LostTakeIsADecline :
    ((taking.group .g1).standby = some .n2 ∧ (taking.group .g1).duty ≠ some .n2 ∧ (taking.group .g1).outstanding = true
        ∧ (taking.group .g1).roleLater = none ∧ taking.groupOf .n2 = some .g1 ∧ taking.endsService .n2 (.lapseExpiry .n2)
        ∧ taking.endsService .n2 (.hello (.node .n2) [0#8, 1#8]) ∧ taking.endsService .n2 (.restart .supervisor [2#8, 1#8])
        ∧ taking.endsService .n2 (.halt .supervisor [2#8]))
      ∧ ((later.group .g1).roleLater = some .n1 ∧ (later.group .g1).duty = some .n1 ∧ later.groupOf .n2 = some .g1
        ∧ later.endsService .n2 (.askRestart (.node .n2) []) ∧ later.endsService .n2 (.lapseExpiry .n2))
      ∧ (later.groupOf .n1 = some .g1 ∧ (later.group .g1).state.inHold = true ∧ later.endsService .n1 (.lapseExpiry .n1))
      ∧ (served.groupOf .n2 = some .g1 ∧ (served.group .g1).duty ≠ some .n2 ∧ (served.group .g1).outstanding = false
        ∧ served.endsService .n2 (.lapseExpiry .n2))
      ∧ ((taking.exchange .n2).outstanding = some (.take .g1) ∧ (taking.exchange .n2).answer = some 0
        ∧ (later.exchange .n2).outstanding = some (.take .g1) ∧ (later.exchange .n2).answer = some 0) := by
  refine ⟨⟨?_, ?_, ?_, ?_, ?_, endsService_each _ _ _ ?_⟩, ⟨?_, ?_, ?_, endsService_ask _ _ ?_, (endsService_each _ _ 2#8 ?_).1⟩,
    ⟨?_, ?_, (endsService_each _ _ 1#8 ?_).1⟩, ⟨?_, ?_, ?_, (endsService_each _ _ 2#8 ?_).1⟩, ?_⟩ <;> decide +kernel

/-- R135: the standby's leaving and the answer timer resolve LATER; the leaving of the waiting node clears it. -/
theorem test_later_resolved :
    (∀ c ∈ [Instr.askRestart (.node .n2) [], .answerTimerExpiry .n2],
        said (after c later) (.node .n1) = some (.role .g1 .duty) ∧ ((after c later).group .g1).state = .served)
      ∧ ((after (.lapseExpiry .n1) later).group .g1).roleLater = none
      ∧ ((after (.lapseExpiry .n1) later).group .g1).outstanding = true := by
  refine ⟨?_, ?_⟩ <;> decide +kernel

theorem witness_TakenSwapsOrDeclines :
    (taking.passes .taken (.node .n2) [1#8, 1#8] ∧ (taking.exchange .n2).outstanding = some (.take .g1)
      ∧ octetAt [1#8, 1#8] 0 = GroupId.num .g1 ∧ octetAt [1#8, 1#8] 1 = 1 ∧ (taking.group .g1).roleLater = none)
      ∧ (taking.passes .taken (.node .n2) [1#8, 0#8] ∧ octetAt [1#8, 0#8] 1 ≠ 1)
      ∧ (later.passes .taken (.node .n2) [1#8, 1#8] ∧ (later.exchange .n2).outstanding = some (.take .g1)
        ∧ (later.group .g1).roleLater = (later.group .g1).duty)
      ∧ (later.passes .taken (.node .n2) [1#8, 0#8] ∧ (later.group .g1).roleLater = some .n1
        ∧ (later.group .g1).duty = some .n1)
      ∧ (taking.passes .taken (.node .n2) [2#8, 1#8] ∧ octetAt [2#8, 1#8] 0 ≠ GroupId.num .g1)
      ∧ (served.passes .taken (.node .n2) [1#8, 1#8] ∧ (served.exchange .n2).outstanding = none) := by
  refine ⟨?_, ?_, ?_, ?_, ?_, ?_⟩ <;> decide +kernel

theorem witness_PointsOfTheHoldAreReached :
    let at21 : State := { held with clock := ⟨21000#32, 0, 0#32⟩ }
    let at31 : State := { held with clock := ⟨31000#32, 0, 0#32⟩ }
    let lateTaking : State := { taking with clock := ⟨21000#32, 0, 0#32⟩ }
    (at21.powered = true ∧ (at21.group .g1).point = some 21000#32 ∧ (at21.group .g1).state.inHold = true
      ∧ (at21.clock.ms - 21000#32).toNat < 2 ^ 31 ∧ (at21.group .g1).pointTaken = false
      ∧ (at21.group .g1).standby = some .n2 ∧ (at21.node .n2).state = .running ∧ (at21.group .g1).outstanding = false
      ∧ (at21.group .g1).declined = false)
      ∧ ((lateTaking.group .g1).point = some 21000#32 ∧ (lateTaking.group .g1).outstanding = true
        ∧ (lateTaking.group .g1).pointTaken = false)
      ∧ ((served.group .g1).state.inHold = false
        ∧ ¬ ((BitVec.ofNat 32 20999 : Word) - 21000#32).toNat < 2 ^ 31)
      ∧ (at31.powered = true ∧ (at31.group .g1).deadline = some 31000#32 ∧ (at31.group .g1).state = .held
        ∧ (at31.clock.ms - 31000#32).toNat < 2 ^ 31)
      ∧ ((held.group .g1).deadline = some 31000#32 ∧ ¬ (held.clock.ms - 31000#32).toNat < 2 ^ 31) := by
  refine ⟨?_, ?_, ?_, ?_, ?_⟩ <;> decide +kernel

/-- OPEN with a kind code, a base and a word count. -/
def opens (code : Nat) (base : Word) (words : Nat) : List Byte := octet code :: le4 base ++ le2 words

/-- `stocked` with node 1 having four committed records: one FULL and three DELTAs, or two FULLs before the last two. -/
def listed (oldest : RecKind) : State :=
  { stocked with
    store :=
      { stocked.store with
        dir :=
          ((((Vector.replicate 40 none).set 0 (some (kept .n1 1#32 .full 0 3#32))).set 1
            (some (kept .n1 2#32 oldest 1 7#32))).set 2 (some (kept .n1 3#32 (.delta 1#32) 2 11#32))).set 39
            (some (kept .n1 4#32 (.delta 1#32) 3 9#32)) } }

theorem witness_OpenIsCheckedInOrder :
    let last : State := { stocked with store := { stocked.store with gens := .const 0xFFFFFFFF#32 } }
    let four := listed (.delta 1#32)
    (held.passes .openRecord (.node .n1) (opens 0 0#32 1) ∧ (held.node .n1).state.inService = false)
      ∧ (stocked.passes .openRecord (.node .n2) (opens 0 0#32 1) ∧ (stocked.node .n2).openRec ≠ none)
      ∧ (last.passes .openRecord (.node .n1) (opens 0 0#32 1) ∧ (last.node .n1).openRec = none
        ∧ (last.node .n1).state.inService = true ∧ last.store.gens.get .n1 = 0xFFFFFFFF#32)
      ∧ (stocked.passes .openRecord (.node .n1) (opens 2 0#32 1) ∧ (stocked.node .n1).openRec = none
        ∧ (stocked.node .n1).state.inService = true ∧ stocked.store.gens.get .n1 ≠ 0xFFFFFFFF#32
        ∧ octetAt (opens 2 0#32 1) 0 = 2)
      ∧ (field2 (opens 0 0#32 0) 5 = 0 ∧ field2 (opens 0 0#32 4096) 5 = 4096 ∧ 4096 < field2 (opens 0 0#32 4097) 5
        ∧ ∃ i : Slot, stocked.store.dir[i] = none)
      ∧ ((stocked.store.newestFull .n1).map (fun f => f.2.gen) ≠ some (field4 (opens 1 1#32 1) 1)
        ∧ (stocked.store.newestFull .n1).map (fun f => f.2.gen) = some (field4 (opens 1 2#32 1) 1)
        ∧ (stocked.store.committed .n1).length < 4)
      ∧ ((four.store.newestFull .n1).map (fun f => f.2.gen) = some (field4 (opens 1 1#32 1) 1)
        ∧ 4 ≤ (four.store.committed .n1).length ∧ four.store.olderFulls .n1 = [] ∧ (four.node .n1).openRec = none
        ∧ four.passes .openRecord (.node .n1) (opens 1 1#32 1)) := by
  refine ⟨?_, ?_, ?_, ?_, ?_, ?_, ?_⟩ <;> decide +kernel

theorem witness_OpenPlacesTheRecord :
    (∀ w ∈ [1, 4096], stocked.passes .openRecord (.node .n1) (opens 0 9#32 w) ∧ field2 (opens 0 9#32 w) 5 = w
      ∧ stocked.passes .openRecord (.node .n1) (opens 1 2#32 w) ∧ field2 (opens 1 2#32 w) 5 = w)
      ∧ ((stocked.node .n1).state.inService = true ∧ (stocked.node .n1).openRec = none
        ∧ stocked.store.gens.get .n1 ≠ 0xFFFFFFFF#32 ∧ octetAt (opens 0 9#32 1) 0 = 0 ∧ octetAt (opens 1 2#32 1) 0 = 1
        ∧ (stocked.store.newestFull .n1).map (fun f => f.2.gen) = some (field4 (opens 1 2#32 1) 1)
        ∧ (stocked.store.committed .n1).length < 4)
      ∧ (stocked.store.dir[4] = none ∧ ∀ j : Slot, j < 4 → stocked.store.dir[j] ≠ none) := by
  refine ⟨?_, ?_, ?_⟩ <;> decide +kernel

/-- The record that node 2 has open in `stocked`. -/
def halfWay : Record := ⟨.n2, 1#32, .full, 65, 64, [3], .opened, false⟩

/-- BLOCK 1 with one word, BLOCK 1 with two, and BLOCK 0 with one. -/
def blockOf (index count : Nat) : List Byte := octet index :: octet count :: List.replicate (4 * count) 0#8

theorem witness_BlockIsCheckedAndStored :
    (stocked.passes .block (.node .n2) (blockOf 1 1) ∧ (stocked.node .n2).state.inService = true
      ∧ (stocked.node .n2).openRec = some 3 ∧ stocked.store.dir[3] = some halfWay ∧ halfWay.status = .opened
      ∧ halfWay.received < halfWay.declared ∧ octetAt (blockOf 1 1) 0 = halfWay.blocks.length
      ∧ octetAt (blockOf 1 1) 1 = halfWay.declared - 64 * ((halfWay.declared + 63) / 64 - 1))
      ∧ (Memory.wf stocked.store.pool ∧ stocked.store.freeList = 4 :: List.range' 5 1019)
      ∧ (stocked.passes .block (.node .n2) (blockOf 1 64)
        ∧ octetAt (blockOf 1 64) 1 ≠ halfWay.declared - 64 * ((halfWay.declared + 63) / 64 - 1))
      ∧ (stocked.passes .block (.node .n2) (blockOf 0 64) ∧ octetAt (blockOf 0 64) 0 ≠ halfWay.blocks.length) := by
  refine ⟨?_, ⟨?_, rfl⟩, ?_, ?_⟩ <;> decide +kernel

/-- `stocked` with its free list empty, with and without a set to reclaim. -/
def full (dropOlder : Bool) : State :=
  { stocked with
    store := { stocked.store with freeList := [], dir := if dropOlder then stocked.store.dir.set 0 none else stocked.store.dir } }

theorem witness_EmptyFreeListReclaimsOrFails :
    ((full false).passes .block (.node .n2) (blockOf 1 1) ∧ ((full false).node .n2).openRec = some 3
      ∧ (full false).store.dir[3] = some halfWay ∧ octetAt (blockOf 1 1) 1 = halfWay.wordsAt (octetAt (blockOf 1 1) 0)
      ∧ (full false).store.freeList = [] ∧ (full false).reclaimChoice = some (0, kept .n1 1#32 .full 0 3#32)
      ∧ ((full false).store.setOf .n1 1#32).flatMap (fun e => e.2.blocks) = [0])
      ∧ ((full true).passes .block (.node .n2) (blockOf 1 1) ∧ ((full true).node .n2).openRec = some 3
        ∧ (full true).store.dir[3] = some halfWay ∧ (full true).reclaimChoice = none)
      ∧ (Memory.wf (full false).store.pool ∧ (full false).uploadLaw) := by
  refine ⟨?_, ?_, ?_, ?_⟩ <;>
    first | decide +kernel | exact uploadLaw_of _ (by decide +kernel) (by decide +kernel) (by decide +kernel)

/-- Two older sets of node 1 and one of node 3, all committed in the same second. -/
def tied : State :=
  { stocked with
    store := { stocked.store with
      dir := ((stocked.store.dir.set 2 (some (kept .n1 3#32 .full 2 11#32))).set 5 (some (kept .n3 1#32 .full 5 0#32))).set 4
        (some (kept .n3 2#32 .full 4 0#32)) } }

theorem witness_EmptyFreeListReclaimsOrFails_tie :
    tied.store.candidates.map (fun e => (e.2.node, e.2.gen, e.2.time))
        = [(.n1, 1#32, 7#32), (.n1, 2#32, 7#32), (.n3, 1#32, 7#32)]
      ∧ tied.reclaimChoice = some (0, kept .n1 1#32 .full 0 3#32) := by
  refine ⟨?_, ?_⟩ <;> decide +kernel

/-- `stocked` with the last word of node 2's record stored. -/
def whole : State := after (.block (.node .n2) (blockOf 1 1)) stocked

theorem witness_CommitBeginsThePassAndDropRemoves :
    ((stocked.node .n2).state.inService = true ∧ (stocked.node .n2).openRec = some 3 ∧ stocked.store.dir[3] = some halfWay
      ∧ halfWay.status = .opened ∧ halfWay.node = .n2 ∧ stocked.passes .commit (.node .n2) (le4 9#32)
      ∧ halfWay.received < halfWay.declared ∧ stocked.passes .drop (.node .n2) [])
      ∧ (whole.passes .commit (.node .n2) (le4 9#32) ∧ (whole.node .n2).openRec = some 3
        ∧ whole.store.dir[3] = some { halfWay with received := 65, blocks := [3, 4] }) := by
  refine ⟨?_, ?_⟩ <;> decide +kernel

/-- The COMMIT of `whole` taken with an expected sum. -/
def committing (sum : Word) : State := after (.commit (.node .n2) (le4 sum)) whole

/-- Node 1 commits a fifth record. -/
def fifth : State :=
  let s := listed .full
  { s.modNode .n1 fun r => { r with openRec := some 3 } with
    store := { s.store with dir := s.store.dir.set 3 (some ⟨.n1, 5#32, .full, 2, 2, [4], .verifying 0#32 [], false⟩) } }

/-- The records in their passes. -/
def inPass (sum : Word) : Record := { halfWay with received := 65, blocks := [3, 4], status := .verifying sum [] }

def inFifth : Record := ⟨.n1, 5#32, .full, 2, 2, [4], .verifying 0#32 [], false⟩

/-- The store of `fifth` with the fifth record committed. -/
def fifthStore : Store :=
  { fifth.store with dir := fifth.store.dir.set 3 (some { inFifth with status := .committed 0#32 7#32 }) }

theorem witness_PassCommitsOrDiscards :
    ((committing 9#32).powered = true ∧ ((committing 9#32).node .n2).openRec = some 3
      ∧ (committing 9#32).store.dir[3] = some (inPass 9#32) ∧ (inPass 9#32).node = .n2
      ∧ firstDamaged ((inPass 9#32).words (committing 9#32).store.pool []) = none
      ∧ sumRead ((inPass 9#32).words (committing 9#32).store.pool []) = 9#32)
      ∧ ((committing 8#32).store.dir[3] = some (inPass 8#32)
        ∧ sumRead ((inPass 8#32).words (committing 8#32).store.pool []) ≠ 8#32)
      ∧ ((after (.storageDisturbance 4 0 ⟨0#32, false⟩) (committing 9#32)).store.dir[3] = some (inPass 9#32)
        ∧ firstDamaged ((inPass 9#32).words (after (.storageDisturbance 4 0 ⟨0#32, false⟩) (committing 9#32)).store.pool []) = some 64)
      ∧ (fifth.powered = true ∧ (fifth.node .n1).openRec = some 3 ∧ fifth.store.dir[3] = some inFifth
        ∧ sumRead (inFifth.words fifth.store.pool []) = 0#32 ∧ firstDamaged (inFifth.words fifth.store.pool []) = none
        ∧ 4 < (fifthStore.committed .n1).length ∧ (fifthStore.fulls .n1).head?.isSome = true) := by
  refine ⟨?_, ?_, ?_, ?_⟩ <;> decide +kernel

/-! #### Restores -/

theorem witness_SoundSetIsSent :
    verifying.powered = true
      ∧ verifying.chan .c0 = some ⟨.n1, .verify, [1, 2], 0, 0, false, 0, none, []⟩
      ∧ (verifying.store.dir[1]).isSome = true
      ∧ (∀ j ∈ ([1, 2] : List Slot), (verifying.store.dir[j]).all (fun q => q.soundIn verifying.store.pool []) = true)
      ∧ ((verifying.store.dir[1]).map fun r => (r.wordsFrom verifying.store.pool 0 2).all PoolWord.sound) = some true := by
  refine ⟨?_, ?_, ?_, ?_, ?_⟩ <;> decide +kernel

/-- The set stays sound as VERIFY has read it, and its first block is damaged. -/
theorem witness_SoundSetIsSent_damagedSince :
    firstBlockLate.powered = true ∧ firstBlockLate.schedulerLaw
      ∧ firstBlockLate.chan .c0 = some ⟨.n1, .verify, [1, 2], 0, 0, false, 0, none, [(64, ⟨3#32, true⟩)]⟩
      ∧ (∀ j ∈ ([1, 2] : List Slot),
          (firstBlockLate.store.dir[j]).all (fun q => q.soundIn firstBlockLate.store.pool [(64, ⟨3#32, true⟩)]) = true)
      ∧ ((firstBlockLate.store.dir[1]).map fun r => (r.wordsFrom firstBlockLate.store.pool 0 2).all PoolWord.sound)
        = some false := by
  refine ⟨?_, ?_, ?_, ?_, ?_⟩ <;>
    first | decide +kernel | exact schedulerLaw_of _ (by decide +kernel) (by decide +kernel) (by decide +kernel) (by decide +kernel)

/-- `verifying` with the FULL of the set damaged, with the DELTA damaged, without an older set, and with the older set too old. -/
def damagedFull : State := after (.storageDisturbance 1 0 ⟨0#32, false⟩) verifying

def damagedDelta : State := after (.storageDisturbance 2 1 ⟨0#32, false⟩) verifying

def damagedOnly : State := { damagedFull with store := { damagedFull.store with dir := damagedFull.store.dir.set 0 none } }

def damagedOld : State := { damagedFull with clock := ⟨0#32, 0, 608#32⟩ }

/-- The record in slot i is damaged in VERIFY, and those of the set before it are not. -/
abbrev findsDamage (s : State) (k : Nat) (i : Slot) : Prop :=
  s.powered = true ∧ s.chan .c0 = some ⟨.n1, .verify, [1, 2], 0, 0, false, 0, none, []⟩ ∧ ([1, 2] : List Slot)[k]? = some i
    ∧ (s.store.dir[i]).any (fun r => !r.soundIn s.store.pool []) = true
    ∧ ∀ j ∈ List.range k, (([1, 2] : List Slot)[j]?.bind fun x => s.store.dir[x]).all (fun q => q.soundIn s.store.pool []) = true

/-- What the discard of the newest FULL of node 1 leaves to restore. -/
def older (s : State) : List Entry :=
  match s.store.dir[(1 : Slot)] with
  | some r => (s.discardDamaged r).store.restoreSet .n1
  | none => []

theorem witness_DamagedSetFallsBack :
    (findsDamage damagedFull 0 1 ∧ damagedFull.schedulerLaw
      ∧ (older damagedFull).getLast?.any (fun e => (damagedFull.clock.sec - e.2.time).toNat ≤ 600) = true)
      ∧ (findsDamage damagedDelta 1 2 ∧ damagedDelta.schedulerLaw)
      ∧ (findsDamage damagedOnly 0 1 ∧ damagedOnly.schedulerLaw ∧ older damagedOnly = [])
      ∧ (findsDamage damagedOld 0 1 ∧ damagedOld.schedulerLaw
        ∧ (older damagedOld).getLast?.any (fun e => (damagedOld.clock.sec - e.2.time).toNat = 601) = true) := by
  refine ⟨⟨?_, ?_, ?_⟩, ⟨?_, ?_⟩, ⟨?_, ?_, ?_⟩, ⟨?_, ?_, ?_⟩⟩ <;>
    first | decide +kernel | exact schedulerLaw_of _ (by decide +kernel) (by decide +kernel) (by decide +kernel) (by decide +kernel)

/-- `stocked`, with a FULL of 65 words as the newest of node 1: its restore sends block 0. -/
def sendingTwo : State :=
  let r : Record := ⟨.n1, 2#32, .full, 65, 65, [1, 5], .committed 7#32 7#32, false⟩
  let s := { booting with store := { booting.store with dir := (booting.store.dir.set 1 (some r)).set 2 none } }
  after (.verifyComplete .c0) (after (.hello (.node .n1) [1#8, 1#8]) s)

/-- An ACK of position p and index 0 is taken while that DATA is outstanding on channel 0. -/
abbrev takesAck (s : State) (p : Byte) (status : Byte) : Prop :=
  s.passes .ack (.node .n1) [p, 0#8, status]
    ∧ (s.exchange .n1).outstanding = some (.data (octetAt [p, 0#8, status] 0) (octetAt [p, 0#8, status] 1))
    ∧ (s.node .n1).channel = some .c0

theorem witness_AckAdvancesTheRestore :
    (sendingTwo.schedulerLaw ∧ takesAck sendingTwo 0#8 0#8
      ∧ sendingTwo.chan .c0 = some ⟨.n1, .send, [1], 0, 0, false, 0, none, []⟩
      ∧ (sendingTwo.store.dir[1]).any (fun r => decide (0 < r.lastIndex)
        && (r.wordsFrom sendingTwo.store.pool 64 (r.wordsAt 1)).all PoolWord.sound) = true)
      ∧ (sending.schedulerLaw ∧ takesAck sending 0#8 0#8
        ∧ sending.chan .c0 = some ⟨.n1, .send, [1, 2], 0, 0, false, 0, none, []⟩
        ∧ (sending.store.dir[1]).map Record.lastIndex = some 0
        ∧ (sending.store.dir[2]).any (fun q => (q.wordsFrom sending.store.pool 0 (q.wordsAt 0)).all PoolWord.sound) = true)
      ∧ ((after (.ack (.node .n1) [0#8, 0#8, 0#8]) sending).schedulerLaw
        ∧ takesAck (after (.ack (.node .n1) [0#8, 0#8, 0#8]) sending) 1#8 0#8
        ∧ (after (.ack (.node .n1) [0#8, 0#8, 0#8]) sending).chan .c0 = some ⟨.n1, .send, [1, 2], 1, 0, false, 0, none, []⟩) := by
  refine ⟨⟨?_, ?_, ?_, ?_⟩, ⟨?_, ?_, ?_, ?_, ?_⟩, ⟨?_, ?_, ?_⟩⟩ <;>
    first | decide +kernel | exact schedulerLaw_of _ (by decide +kernel) (by decide +kernel) (by decide +kernel) (by decide +kernel)

/-- `sending` before its last ACK, channel 1 bound to node 3 and node 2 in QUEUED. -/
def queuedBehind : State :=
  let s := after (.ack (.node .n1) [0#8, 0#8, 0#8]) sending
  { (s.modNode .n3 fun _ => { NodeRec.atReset with state := .restoring, channel := some .c1 }).modNode .n2 fun _ =>
      { NodeRec.atReset with state := .queued } with
    channels := ⟨s.channels.c0, some ⟨.n3, .verify, [], 0, 0, false, 0, none, []⟩⟩
    queue := [.n2] }

/-- The next block, and the first block of the next record, hold a damaged word; and a queue waits at the end of a restore. -/
theorem witness_AckAdvancesTheRestore_damaged :
    let s1 := after (.storageDisturbance 5 0 ⟨0#32, false⟩) sendingTwo
    let s2 := after (.storageDisturbance 2 1 ⟨0#32, false⟩) sending
    (s1.schedulerLaw ∧ takesAck s1 0#8 0#8 ∧ s1.chan .c0 = some ⟨.n1, .send, [1], 0, 0, false, 0, none, []⟩
        ∧ (s1.store.dir[1]).any (fun r => decide (0 < r.lastIndex)
          && !(r.wordsFrom s1.store.pool 64 (r.wordsAt 1)).all PoolWord.sound) = true)
      ∧ (s2.schedulerLaw ∧ takesAck s2 0#8 0#8 ∧ s2.chan .c0 = some ⟨.n1, .send, [1, 2], 0, 0, false, 0, none, []⟩
        ∧ (s2.store.dir[2]).any (fun q => !(q.wordsFrom s2.store.pool 0 (q.wordsAt 0)).all PoolWord.sound) = true)
      ∧ (queuedBehind.schedulerLaw ∧ takesAck queuedBehind 1#8 0#8
        ∧ queuedBehind.chan .c0 = some ⟨.n1, .send, [1, 2], 1, 0, false, 0, none, []⟩ ∧ queuedBehind.queue = [.n2]) := by
  refine ⟨⟨?_, ?_, ?_, ?_⟩, ⟨?_, ?_, ?_, ?_⟩, ⟨?_, ?_, ?_⟩⟩ <;>
    first | decide +kernel | exact schedulerLaw_of _ (by decide +kernel) (by decide +kernel) (by decide +kernel) (by decide +kernel)

/-- R111: a damaged DELTA, and a damaged FULL with no set left. R102: the head of the queue takes the channel that comes free. -/
theorem test_ack_damage :
    let s1 := after (.ack (.node .n1) [0#8, 0#8, 0#8]) (after (.storageDisturbance 2 1 ⟨0#32, false⟩) sending)
    let only := { sendingTwo with store := { sendingTwo.store with dir := sendingTwo.store.dir.set 0 none } }
    let s2 := after (.ack (.node .n1) [0#8, 0#8, 0#8]) (after (.storageDisturbance 5 0 ⟨0#32, false⟩) only)
    let s3 := after (.ack (.node .n1) [1#8, 0#8, 0#8]) queuedBehind
    (said s1 (.node .n1) = some (.done .damaged 3#32)
        ∧ s1.chan .c0 = some ⟨.n1, .verify, [1], 0, 0, false, 0, none, []⟩ ∧ s1.flag .damaged = true)
      ∧ ((s2.port (.node .n1)).sent.drop 2 = [.done .damaged 2#32, .verdict .damaged] ∧ (s2.node .n1).state = .settling)
      ∧ (s3.chan .c0).map Binding.node = some .n2 := by
  refine ⟨?_, ?_, ?_⟩ <;> decide +kernel

/-- `sending` with the channel record changed. -/
def sendingWith (f : Binding → Binding) : State := sending.setChan .c0 ((sending.chan .c0).map f)

theorem witness_AckRetriesHoldsOffOrAborts :
    let s15 := sendingWith fun b => { b with notReady := 15 }
    let s14 := sendingWith fun b => { b with notReady := 14 }
    let again := sendingWith fun b => { b with resent := true }
    let waits := (sendingWith fun b => { b with phase := .holdoff, holdoff := some 0 }).setExchange .n1 .empty
    let late := sending.setExchange .n1 ⟨some (.data 0 0), some 0⟩
    (sending.schedulerLaw ∧ takesAck sending 0#8 1#8 ∧ (sending.chan .c0).map Binding.resent = some false)
      ∧ (again.schedulerLaw ∧ takesAck again 0#8 255#8)
      ∧ (s14.schedulerLaw ∧ takesAck s14 0#8 2#8)
      ∧ (s15.schedulerLaw ∧ takesAck s15 0#8 2#8)
      ∧ (sending.passes .ack (.node .n1) [1#8, 0#8, 0#8]
        ∧ (sending.exchange .n1).outstanding ≠ some (.data (octetAt [1#8, 0#8, 0#8] 0) (octetAt [1#8, 0#8, 0#8] 1)))
      ∧ (waits.schedulerLaw ∧ waits.powered = true ∧ (waits.node .n1).channel = some .c0
        ∧ (waits.chan .c0).any (fun b => decide (b.phase = .holdoff ∧ b.holdoff = some 0)) = true)
      ∧ (late.schedulerLaw ∧ late.powered = true ∧ (late.exchange .n1).outstanding = some (.data 0 0)
        ∧ (late.exchange .n1).answer = some 0)
      ∧ (sending.store.dir[1]).any (fun r => (r.wordsFrom sending.store.pool 0 (r.wordsAt 0)).all PoolWord.sound) = true := by
  refine ⟨⟨?_, ?_, ?_⟩, ⟨?_, ?_⟩, ⟨?_, ?_⟩, ⟨?_, ?_⟩, ?_, ⟨?_, ?_, ?_, ?_⟩, ⟨?_, ?_, ?_, ?_⟩, ?_⟩ <;>
    first | decide +kernel | exact schedulerLaw_of _ (by decide +kernel) (by decide +kernel) (by decide +kernel) (by decide +kernel)

/-- The block to be sent again holds a damaged word: after CRC_BAD, and at the end of a holdoff. -/
theorem witness_AckRetriesHoldsOffOrAborts_damaged :
    let s := after (.storageDisturbance 1 1 ⟨0#32, false⟩) sending
    let waits := (after (.storageDisturbance 1 1 ⟨0#32, false⟩) (sendingWith fun b =>
      { b with phase := .holdoff, holdoff := some 0 })).setExchange .n1 .empty
    (s.schedulerLaw ∧ takesAck s 0#8 1#8 ∧ s.chan .c0 = some ⟨.n1, .send, [1, 2], 0, 0, false, 0, none, []⟩
        ∧ (s.store.dir[1]).any (fun r => !(r.wordsFrom s.store.pool 0 (r.wordsAt 0)).all PoolWord.sound) = true)
      ∧ (waits.schedulerLaw ∧ waits.powered = true ∧ (waits.node .n1).channel = some .c0
        ∧ waits.chan .c0 = some ⟨.n1, .holdoff, [1, 2], 0, 0, false, 0, some 0, []⟩)
      ∧ said (after (.holdoffExpiry .c0) waits) (.node .n1) = some (.done .damaged 2#32) := by
  refine ⟨⟨?_, ?_, ?_, ?_⟩, ⟨?_, ?_⟩, ?_⟩ <;>
    first | decide +kernel | exact schedulerLaw_of _ (by decide +kernel) (by decide +kernel) (by decide +kernel) (by decide +kernel)

/-! #### Supervisory requests and the plan unit -/

theorem witness_ReadsReportAndChangeNothing :
    (served.passes .readNode .supervisor [1#8] ∧ octetAt [8#8] 0 = NodeId.num .n8 ∧ octetAt [0#8] 0 = 0 ∧ 8 < octetAt [9#8] 0)
      ∧ (served.passes .readGroup .supervisor [4#8] ∧ octetAt [4#8] 0 = GroupId.num .g4 ∧ 4 < octetAt [5#8] 0)
      ∧ served.passes .readStore .supervisor []
      ∧ ((verifying.node .n1).state = .restoring ∧ (verifying.node .n1).channel = some .c0
        ∧ (verifying.chan .c0).map Binding.phase = some .verify ∧ (sending.chan .c0).map Binding.phase = some .send)
      ∧ (((after (.hello (.node .n1) [1#8, 1#8]) crowded).node .n1).state = .queued
        ∧ (after (.hello (.node .n1) [1#8, 1#8]) crowded).keyDeadline .n1 = some 31000#32)
      ∧ (served.groupOf .n8 = none ∧ unknown.groupOf .n1 = some .g1 ∧ (unknown.group .g1).duty ≠ some .n1
        ∧ (unknown.group .g1).standby ≠ some .n1) := by
  refine ⟨?_, ?_, ?_, ?_, ?_, ?_⟩ <;> decide +kernel

theorem witness_ReadAlertsClearsWhatItShows :
    served.passes .readAlerts .supervisor []
      ∧ (saving.listens ∧ (saving.port .supervisor).inProgress = some .save) ∧ served.listens := by decide +kernel

theorem witness_MaskReplacesMasksAndEnable :
    (∀ b ∈ [0#8, 1#8, 2#8], served.passes .mask .supervisor [255#8, 255#8, 255#8, 255#8, b])
      ∧ octetAt [255#8, 255#8, 255#8, 255#8, 2#8] 4 = 2
      ∧ (saving.listens ∧ (saving.port .supervisor).inProgress = some .save) ∧ served.listens := by
  refine ⟨?_, ?_, ?_, ?_⟩ <;> decide +kernel

/-- PEEK_AT of node k, a generation and an offset. -/
def peeks (k : Nat) (g : Word) (o : Nat) : List Byte := octet k :: le4 g ++ le2 o

theorem witness_PeekCursorReadsARecord :
    (∀ k ∈ [0, 1, 8, 9], stocked.passes .peekAt .supervisor (peeks k 2#32 0))
      ∧ (octetAt (peeks 0 2#32 0) 0 = 0 ∧ 8 < octetAt (peeks 9 2#32 0) 0 ∧ stocked.present .n8 = false)
      ∧ (octetAt (peeks 1 9#32 0) 0 = NodeId.num .n1 ∧ stocked.present .n1 = true
        ∧ ∀ e ∈ stocked.store.committed .n1, e.2.gen ≠ field4 (peeks 1 9#32 0) 1)
      ∧ (∃ r, stocked.store.committedRecord .n1 (field4 (peeks 1 2#32 1) 1) = some r ∧ field2 (peeks 1 2#32 1) 5 < r.declared
        ∧ r.declared ≤ field2 (peeks 1 2#32 2) 5)
      ∧ (served.passes .peekNext .supervisor [] ∧ served.store.peek = none)
      ∧ (stocked.passes .peekNext .supervisor [] ∧ stocked.store.peek = some ⟨.n1, 2#32, 0⟩
        ∧ ∃ r, stocked.store.committedRecord .n1 2#32 = some r ∧ 0 ≤ r.declared
          ∧ (∀ w ∈ r.wordsFrom stocked.store.pool 0 2, w.sound = true)
          ∧ ((r.wordsFrom (after (.storageDisturbance 1 1 ⟨0#32, false⟩) stocked).store.pool 0 2)[1]?.map PoolWord.sound) = some false) := by
  refine ⟨?_, ?_, ?_, ⟨kept .n1 2#32 .full 1 7#32, ?_⟩, ?_, ⟨?_, ?_, ⟨kept .n1 2#32 .full 1 7#32, ?_⟩⟩⟩ <;> decide +kernel

/-- A node number just outside 1..8. -/
theorem witness_SupervisorRestartsHaltsAndReleases_number :
    ∀ k ∈ [0#8, 9#8], (octetAt [k] 0 = 0 ∨ 8 < octetAt [k] 0) ∧ (octetAt [k, 1#8] 0 = 0 ∨ 8 < octetAt [k, 1#8] 0)
      ∧ served.passes .restart .supervisor [k, 1#8] ∧ served.passes .halt .supervisor [k]
      ∧ served.passes .release .supervisor [k] := by
  decide +kernel

theorem witness_SupervisorRestartsHaltsAndReleases :
    (served.uploadLaw ∧ served.schedulerLaw ∧ octetAt [1#8, 0#8] 0 = NodeId.num .n1)
      ∧ (served.passes .restart .supervisor [1#8, 2#8] ∧ octetAt [1#8, 2#8] 1 = 2)
      ∧ (served.passes .restart .supervisor [8#8, 1#8] ∧ served.present .n8 = false)
      ∧ (held.uploadLaw ∧ held.schedulerLaw ∧ held.passes .restart .supervisor [1#8, 0#8] ∧ held.present .n1 = true
        ∧ (held.node .n1).state.inService = false ∧ (held.node .n1).state ≠ .settling)
      ∧ (held.passes .restart .supervisor [2#8, 0#8] ∧ held.partner .n2 = some .n1 ∧ (held.node .n2).state.inService = true)
      ∧ (held.passes .restart .supervisor [2#8, 1#8] ∧ octetAt [2#8, 1#8] 1 = 1)
      ∧ (served.passes .restart .supervisor [1#8, 0#8] ∧ (served.node .n1).state.inService = true
        ∧ ∀ m, served.partner .n1 = some m → (served.node m).state.inService = true)
      ∧ (taking.uploadLaw ∧ taking.schedulerLaw ∧ taking.passes .halt .supervisor [1#8] ∧ (taking.node .n1).state = .halted)
      ∧ (sending.uploadLaw ∧ sending.schedulerLaw ∧ sending.passes .halt .supervisor [1#8]
        ∧ sending.present .n1 = true ∧ (sending.node .n1).state ≠ .halted ∧ (sending.node .n1).channel = some .c0)
      ∧ (served.passes .release .supervisor [1#8] ∧ (served.node .n1).state ≠ .halted)
      ∧ (taking.passes .release .supervisor [1#8] ∧ taking.present .n1 = true ∧ 1 ≤ (taking.nodePlan .n1).attemptLimit) := by
  refine ⟨⟨witness_uploadLaw.1, witness_schedulerLaw.1, ?_⟩, ?_, ?_, ⟨?_, ?_, ?_⟩, ?_, ?_, ⟨?_, ?_, forall_node ?_⟩, ⟨?_, ?_, ?_⟩,
    ⟨witness_uploadLaw.2.2.2, witness_schedulerLaw.2.2.2, ?_⟩, ?_, ?_⟩ <;>
    first
      | decide +kernel
      | exact schedulerLaw_of _ (by decide +kernel) (by decide +kernel) (by decide +kernel) (by decide +kernel)
      | exact uploadLaw_of _ (by decide +kernel) (by decide +kernel) (by decide +kernel)

/-- LIMIT of a channel, with the limits, the fault count and the escalate octet. -/
def limits (k g mode high hyst count esc : Nat) : List Byte :=
  [octet k, octet g, octet mode] ++ le2 high ++ le2 hyst ++ [octet count, octet esc]

theorem witness_LimitReplacesTheSettings :
    (∀ p ∈ [limits 15 4 2 4095 4094 6 1, limits 16 4 2 4095 4094 6 1, limits 0 0 0 1 0 1 0, limits 0 1 0 0 0 1 0,
        limits 0 1 0 4096 0 1 0, limits 0 1 0 5 5 1 0, limits 0 1 0 5 4 3 0, limits 0 1 0 5 4 1 2],
      served.passes .limit .supervisor p)
      ∧ ((limitSettings (limits 15 4 2 4095 4094 6 1)).isSome = true ∧ octetAt (limits 15 4 2 4095 4094 6 1) 0 = 15)
      ∧ ∀ p ∈ [limits 0 0 0 1 0 1 0, limits 0 1 0 0 0 1 0, limits 0 1 0 4096 0 1 0, limits 0 1 0 5 5 1 0, limits 0 1 0 5 4 3 0,
        limits 0 1 0 5 4 1 2], limitSettings p = none := by
  refine ⟨?_, ?_, ?_⟩ <;> decide +kernel

/-- SET of an item. -/
def sets (item index : Nat) (v : Word) : List Byte := [octet item, octet index] ++ le4 v

/-- Each item at the ends of its range, and just outside it. -/
theorem witness_SetWritesTheStagedPlan :
    let inside : List (Nat × Nat × Word) :=
      [(0, 1, 1#32), (1, 8, 4#32), (2, 8, 2#32), (3, 1, 7#32), (4, 1, 0#32), (5, 1, 1#32), (9, 1, 255#32), (10, 1, 7#32), (11, 1, 255#32),
       (16, 4, 600#32), (17, 1, 0#32), (18, 4, 3600#32), (24, 0, 5#32), (24, 0, 255#32)]
    let outside : List (Nat × Nat × Word) :=
      [(0, 1, 2#32), (1, 8, 0#32), (2, 8, 0#32), (3, 1, 8#32), (4, 9, 0#32), (5, 0, 1#32), (9, 1, 256#32), (10, 1, 0#32), (12, 1, 1#32),
       (16, 4, 0#32), (17, 5, 0#32), (18, 4, 3601#32), (24, 0, 4#32), (24, 1, 5#32)]
    (∀ x ∈ inside, served.passes .set .supervisor (sets x.1 x.2.1 x.2.2)
      ∧ said (after (.set .supervisor (sets x.1 x.2.1 x.2.2)) served) .supervisor = some (.reply 0x4B#8 .ok .none))
      ∧ (∀ x ∈ outside, served.passes .set .supervisor (sets x.1 x.2.1 x.2.2)
        ∧ said (after (.set .supervisor (sets x.1 x.2.1 x.2.2)) served) .supervisor = some (.reply 0x4B#8 .badValue .none)) := by
  refine ⟨?_, ?_⟩ <;> decide +kernel

/-- `served` with another staged plan: node 3 joins group 1; nodes 1 and 2 both DUTY; node 1 alone, as STANDBY. -/
def stagedWith (f : PerNode NodePlan → PerNode NodePlan) : State :=
  { served with staged := { twoGroups with nodes := f twoGroups.nodes } }

theorem witness_ApplyIsLockedOrChecked :
    let third := stagedWith fun t => { t with n3 := { t.n3 with group := .g1 } }
    let twoDuties := stagedWith fun t => { t with n2 := { t.n2 with role := .duty } }
    let noDuty := stagedWith fun t => { t with n1 := { t.n1 with role := .standby } }
    (held.passes .apply .supervisor [] ∧ (held.group .g1).state.inHold = true
      ∧ ∀ n, (held.group .g1).duty = some n → (held.node n).state ≠ .halted)
      ∧ (verifying.passes .apply .supervisor [] ∧ verifying.chan .c0 ≠ none)
      ∧ (third.passes .apply .supervisor [] ∧ third.planLocked = false ∧ (third.staged.members .g1)[2]? = some .n3)
      ∧ (twoDuties.passes .apply .supervisor [] ∧ twoDuties.planLocked = false ∧ (twoDuties.staged.members .g1).length ≤ 2
        ∧ ((twoDuties.staged.members .g1).filter fun n => (twoDuties.staged.nodes.get n).role = .duty) = [.n1, .n2])
      ∧ (noDuty.passes .apply .supervisor [] ∧ noDuty.planLocked = false ∧ noDuty.staged.members .g1 = [.n1, .n2]
        ∧ ((noDuty.staged.members .g1).filter fun n => (noDuty.staged.nodes.get n).role = .duty) = []) := by
  refine ⟨⟨?_, ?_, forall_node ?_⟩, ?_, ?_, ?_, ?_⟩ <;> decide +kernel

/-- Node 1 keeps its group with a lower attempt limit, node 2 leaves, node 3 moves to group 4, and node 8 joins group 3. -/
def moves : State :=
  { stocked with
    staged :=
      { twoGroups with
        nodes :=
          { twoGroups.nodes with
            n1 := { twoGroups.nodes.n1 with attemptLimit := 1 }
            n2 := NodePlan.default
            n3 := { twoGroups.nodes.n3 with group := .g4 }
            n8 := { twoGroups.nodes.n3 with group := .g3 } } } }

theorem witness_ApplyActivatesTheStagedPlan :
    (moves.uploadLaw ∧ moves.passes .apply .supervisor [] ∧ moves.planLocked = false ∧ moves.staged.firstFault = none)
      ∧ (moves.active.groupOf .n1 = moves.staged.groupOf .n1 ∧ moves.staged.groupOf .n1 ≠ none)
      ∧ (moves.active.groupOf .n2 ≠ none ∧ moves.staged.groupOf .n2 = none)
      ∧ (moves.active.groupOf .n3 ≠ moves.staged.groupOf .n3 ∧ moves.staged.groupOf .n3 = some .g4)
      ∧ (moves.active.groupOf .n8 = none ∧ moves.staged.groupOf .n8 = some .g3)
      ∧ (moves.active.members .g1 ≠ moves.staged.members .g1 ∧ moves.staged.members .g2 = []
        ∧ moves.staged.members .g4 = [.n3]) := by
  refine ⟨⟨?_, ?_, ?_, ?_⟩, ?_, ?_, ?_, ?_, ?_⟩ <;>
    first | decide +kernel | exact uploadLaw_of _ (by decide +kernel) (by decide +kernel) (by decide +kernel)

/-- `s` with node n of group 1 made absent in the staged plan and the other member, m, its DUTY node. -/
def dropping (s : State) (n m : NodeId) : State :=
  { s with
    staged :=
      { twoGroups with
        nodes := (twoGroups.nodes.set n NodePlan.default).set m { twoGroups.nodes.get m with role := .duty } } }

/-- An APPLY is taken that leaves group 1 with the one member m, kept. -/
abbrev appliesKeeping (s : State) (m : NodeId) : Prop :=
  s.passes .apply .supervisor [] ∧ s.planLocked = false ∧ s.staged.firstFault = none
    ∧ s.active.members .g1 ≠ s.staged.members .g1 ∧ s.staged.members .g1 = [m] ∧ m ∈ s.active.members .g1
    ∧ (s.node m).state ≠ .unknown

/-- The kept member RUNNING, QUIET, and HALTED; a TAKE outstanding; and a COMMIT of the member that goes. -/
theorem witness_ApplyActivatesTheStagedPlan_kept :
    (appliesKeeping (dropping served .n1 .n2) .n2 ∧ (served.node .n2).state = .running)
      ∧ (appliesKeeping (dropping quiet .n1 .n2) .n2 ∧ (quiet.node .n2).state = .quiet)
      ∧ (appliesKeeping (dropping taking .n2 .n1) .n1 ∧ (taking.node .n1).state = .halted
        ∧ (taking.group .g1).outstanding = true ∧ (taking.group .g1).standby = some .n2)
      ∧ (appliesKeeping (dropping passing .n2 .n1) .n1 ∧ (passing.port (.node .n2)).inProgress = some .commit)
      ∧ ((dropping served .n1 .n2).uploadLaw ∧ (dropping taking .n2 .n1).uploadLaw ∧ (dropping passing .n2 .n1).uploadLaw)
      ∧ (dropping served .n1 .n2).active.members .g2 = (dropping served .n1 .n2).staged.members .g2 := by
  refine ⟨?_, ?_, ?_, ?_, ⟨?_, ?_, ?_⟩, ?_⟩ <;>
    first | decide +kernel | exact uploadLaw_of _ (by decide +kernel) (by decide +kernel) (by decide +kernel)

theorem test_apply_kept :
    let s1 := after (.apply .supervisor []) (dropping quiet .n1 .n2)
    let s2 := after (.apply .supervisor []) (dropping taking .n2 .n1)
    let s3 := after (.apply .supervisor []) (dropping passing .n2 .n1)
    ((s1.group .g1).duty = some .n2 ∧ (s1.node .n2).state = .running ∧ said s1 (.node .n2) = some (.role .g1 .duty))
      ∧ ((s2.group .g1).state = .held ∧ s2.flag .held = true ∧ s2.exchange .n2 = ExchangeSlot.empty
        ∧ (s2.group .g1).outstanding = false)
      ∧ said s3 (.node .n2) = some (.reply 0x1A#8 .badState (.newest 0#32)) := by
  refine ⟨?_, ?_, ?_⟩ <;> decide +kernel

theorem witness_SaveWritesTheArray :
    served.passes .save .supervisor [] ∧ (saving.powered = true ∧ saving.saving.isSome = true) ∧ served.saving = none := by
  decide +kernel

/-! #### Laws -/

theorem witness_PoolKeepsItsLaws :
    (Memory.wf stocked.store.pool ∧ ∃ t, step stocked = .next t)
      ∧ stocked.store.blockAccounting ∧ ∃ t, step { stocked with pending := [.drop (.node .n2) []] } = .next t := by
  refine ⟨⟨by decide +kernel, _, rfl⟩, ?_, _, rfl⟩
  show (List.range' 4 1020 ++ stocked.store.heldBlocks).Perm (List.range 1024)
  rw [show stocked.store.heldBlocks = List.range' 0 4 by decide +kernel, List.range_eq_range']
  exact List.perm_append_comm.trans (by rw [List.range'_append])

theorem witness_UploadsKeepTheirLaws :
    (passing.uploadLaw ∧ ∃ t, step passing = .next t)
      ∧ stocked.store.generationLaw ∧ ∃ t, step stocked = .next t := by
  refine ⟨⟨witness_uploadLaw.2.2.1, _, rfl⟩, generationLaw_of _ (by decide +kernel) (by decide +kernel), _, rfl⟩

/-- A step that places a record: its generation is above the counter that stood before, and the counter has risen. -/
theorem witness_UploadsKeepTheirLaws_placed :
    let s := { stocked with pending := [.openRecord (.node .n1) (opens 0 9#32 1)] }
    s.pending.head? ≠ some .powerOnReset ∧ (s.store.gens.get .n1, (stepped s).store.gens.get .n1) = (3#32, 4#32)
      ∧ s.store.dir[4] = none ∧ ((stepped s).store.dir[4]).map Record.gen = some 4#32 := by
  refine ⟨?_, ?_, ?_, ?_⟩ <;> decide +kernel

/-- `crowded` with two nodes in QUEUED: node 5, the duty node of an escalated group, and behind it node 4, which has no deadline. -/
def lined : State :=
  let q : NodeRec := { NodeRec.atReset with state := .queued }
  { crowded with
    nodes := { crowded.nodes with n1 := NodeRec.atReset, n4 := q, n5 := q }
    groups := { crowded.groups with g2 := { crowded.groups.g1 with duty := some .n5, deadline := some 5#32, escalated := true } }
    active := { crowded.active with nodes := { crowded.active.nodes with n5 := crowded.active.nodes.n3 } }
    queue := [.n5, .n4] }

theorem witness_QueueAndChannelsStayConsistent :
    (sending.schedulerLaw ∧ ∃ t, step sending = .next t)
      ∧ (lined.schedulerLaw ∧ lined.keyEscalated .n5 = true ∧ lined.keyDeadline .n4 = none ∧ ∃ t, step lined = .next t) := by
  refine ⟨⟨witness_schedulerLaw.2.2.2, _, rfl⟩, ⟨?_, ?_, ?_, _, rfl⟩⟩ <;>
    first | decide +kernel | exact schedulerLaw_of _ (by decide +kernel) (by decide +kernel) (by decide +kernel) (by decide +kernel)

/-- A TAKE is outstanding for the one group of two members, and the roles are those of the law. -/
theorem witness_GroupsStayConsistent :
    (taking.planLaw ∧ taking.groupLaw) ∧ (taking.holdLaw ∧ taking.dutyLaw ∧ taking.takeLaw) ∧ ∃ t, step taking = .next t := by
  have hold : taking.holdLaw := forall_group (by decide +kernel)
  have duty : taking.dutyLaw := forall_group (by decide +kernel)
  have take : taking.takeLaw := ⟨fun n => by cases n <;> exact forall_group (by decide +kernel), forall_group (by decide +kernel)⟩
  have roles : ∀ g ∈ GroupId.all,
      (∀ d ∈ NodeId.all, (taking.group g).duty = some d →
          d ∈ taking.active.members g ∧ (taking.group g).standby = taking.active.otherMember g d)
        ∧ ((taking.group g).duty = none → (taking.group g).standby = none) := by decide +kernel
  exact ⟨⟨⟨by decide +kernel, by decide +kernel, by decide +kernel⟩,
    hold, ⟨duty, fun g => ⟨forall_node (forall_group roles g).1, (forall_group roles g).2⟩⟩, take⟩, ⟨hold, duty, take⟩, _, rfl⟩

/-- The law of pins, by a test of every slot. -/
theorem pinLaw_of (s : State)
    (ok : ∀ i : Slot, (s.store.dir[i]).all (fun r => r.pinned == [ChanId.c0, .c1].any fun c =>
      (s.chan c).any fun b => decide (b.node = r.node) && decide (i ∈ b.set)) = true) : s.pinLaw := by
  intro i r h
  have := ok i
  rw [h, Option.all_some, beq_iff_eq] at this
  rw [this]
  constructor
  · intro hc
    obtain ⟨c, -, hc⟩ := List.any_eq_true.mp hc
    cases hb : s.chan c with
    | none => rw [hb] at hc; cases hc
    | some b => exact ⟨c, b, hb, by simpa [hb] using hc⟩
  · rintro ⟨c, b, hb, h'⟩
    exact List.any_eq_true.mpr ⟨c, by cases c <;> decide, by simpa [hb] using h'⟩

theorem witness_CommittedListsStayWithinTheirLaws : sending.storeLaw ∧ ∃ t, step sending = .next t := by
  refine ⟨⟨generationLaw_of _ (by decide +kernel) (by decide +kernel), witness_uploadLaw.2.2.2, witness_schedulerLaw.2.2.2,
    listLaw_of _ (by decide +kernel), baseLaw_of _ (by decide +kernel), ?_, pinLaw_of _ (by decide +kernel)⟩, _, rfl⟩
  refine fun c b h => ?_
  cases c
  · obtain rfl : b = ⟨.n1, .send, [1, 2], 0, 0, false, 0, none, []⟩ :=
      (Option.some.inj (((by decide +kernel : sending.chan .c0 = _)).symm.trans h)).symm
    decide +kernel
  · rw [show sending.chan .c1 = none by decide +kernel] at h
    cases h

theorem witness_SettingsAndCountsStayInRange :
    served.planLaw ∧ served.monitorLaw ∧ served.countLaw ∧ saving.saveLaw ∧ served.attemptLaw := by
  have clear : ∀ k : Fin 16, (served.monitor[k]).settings.valid = true ∧ (served.monitor[k]).state = .clear
      ∧ (served.monitor[k]).run = 0 := by decide +kernel
  refine ⟨⟨?_, ?_, ?_⟩, fun k => ⟨(clear k).1, ?_⟩, ⟨?_, fun l => ?_⟩, ⟨?_, ?_, ?_⟩, forall_node ?_⟩
  · decide +kernel
  · decide +kernel
  · decide +kernel
  · unfold MonChannel.counts
    rw [(clear k).2.1]
    exact (clear k).2.2
  · decide +kernel
  · cases l with
    | supervisor => decide +kernel
    | node n => cases n <;> decide +kernel
  all_goals decide +kernel

theorem witness_SettingsAndCountsStayInRange_steps : (∃ t, step served = .next t) ∧ ∃ t, step saving = .next t :=
  ⟨⟨_, rfl⟩, _, rfl⟩

end Sys2Proof.Tests
end

