-- ==== Sys2Proof/Proofs/ClockAdvances.lean ====
section
/-! PROOF. The part clock at each advance and at each part reset (R11). -/

namespace Sys2Proof.Machine

/-! ### One advance of the clock -/

/-- R11: the millisecond time base advances at every advance, whatever the sub-second count. -/
@[simp] theorem Clock.tick_ms (c : Clock) : c.tick.ms = c.ms + 1#32 := by
  unfold Clock.tick
  split <;> rfl

/-- R11: within a second the sub-second count advances alone. -/
theorem Clock.tick_within_second {c : Clock} (h : c.sub < 999) : c.tick.sub = c.sub + 1 ∧ c.tick.sec = c.sec := by
  simp [Clock.tick, h]

/-- R11: at the end of a second the sub-second count starts again and the seconds counter advances. -/
theorem Clock.tick_end_of_second {c : Clock} (h : c.sub = 999) : c.tick.sub = 0 ∧ c.tick.sec = c.sec + 1#32 := by
  simp [Clock.tick, h]

/-! ### The clock after each command -/

/-- Neither the timers nor the order of the queue bear on the clock. -/
@[simp] theorem State.tick_clock (s : State) : s.tick.clock = s.clock.tick := by
  simp [State.tick]

theorem exec_clockTick_of_powered {s : State} (h : s.powered = true) : exec .clockTick s = .next s.tick := by
  rw [← State.whenPowered_of_powered s State.tick h]
  rfl

/-- R11: power-on reset starts the three counters at 0, whatever image the array gives. -/
theorem exec_powerOnReset_clock {s t : State} (h : exec .powerOnReset s = .next t) : t.clock = ⟨0#32, 0, 0#32⟩ := by
  cases h
  simp

/-- R11: a pin reset keeps the clock, with the supply and without it. -/
theorem exec_pinReset_clock {s t : State} (h : exec .pinReset s = .next t) : t.clock = s.clock := by
  cases h
  exact State.whenPowered_keeps (P := fun u => u.clock = s.clock) _ State.pinReset rfl (by simp)

/-- R11: a RESYNC keeps the clock, whether it is taken, answered with an error or discarded. -/
theorem exec_resync_clock {l : Link} {p : List Byte} {s t : State} (h : exec (.resync l p) s = .next t) :
    t.clock = s.clock := by
  cases h
  exact State.receive_keeps (P := fun u => u.clock = s.clock) s .resync l p State.resyncTaken rfl
    (by simp) (fun r => by simp) (by simp)

/-- Settles O8: each advance by the two branches of `Clock.tick`, each reset by what its command leaves of the clock. -/
theorem clockAdvances : Obligations.ClockAdvances := by
  refine ⟨fun s powered _ => ⟨s.tick, exec_clockTick_of_powered powered, ?_, ?_, ?_⟩, ?_, ?_, ?_⟩
  · simp
  · rw [State.tick_clock]
    exact Clock.tick_within_second
  · rw [State.tick_clock]
    exact Clock.tick_end_of_second
  · intro s t h
    simp [exec_powerOnReset_clock h]
  · exact fun s t => exec_pinReset_clock
  · exact fun p s t => exec_resync_clock

end Sys2Proof.Machine
end

