-- ==== Sys2Proof/Proofs/QuietStandby.lean ====
section
/-! PROOF. QUIET by the node's state and role (R22). -/

namespace Sys2Proof.Machine

/-! ### The link interface and the formed reply -/

/-- R160: an intact frame that is in order but finds a request in progress on its link is answered BUSY, unless its kind is always
taken. -/
theorem State.receive_of_busy {s : State} {k j : Kind} {l : Link} {p : List Byte} (listens : s.listens)
    (fits : p.length ≤ Config.maxPayload) (allowed : k.allowedOn l = true) (present : s.linkPresent l = true)
    (length : k.lengthOk p = true) (taken : k.alwaysTaken = false) (busy : (s.port l).inProgress = some j)
    (owner : State → State) : s.receive k l p owner = s.reply l k .busy := by
  have judged : s.judge k l p = .refused .busy := by
    simp [State.judge, State.receiving, listens, Nat.not_lt.mpr fits, allowed, present, length, taken, busy]
  simp [State.receive, judged]

@[simp] theorem State.group_reply (s : State) (l : Link) (k : Kind) (r : Result) (b : Body) (g : GroupId) :
    (s.reply l k r b).group g = s.group g := by
  simp [State.reply]

/-- A reply changes nothing but the ports. -/
theorem State.reply_restoring_ports (s : State) (l : Link) (k : Kind) (r : Result) (b : Body) :
    { s.reply l k r b with supervisorPort := s.supervisorPort, nodePorts := s.nodePorts } = s := by
  unfold State.reply State.send
  split
  · rfl
  · cases l <;> rfl

/-- A reply after a change of a node record changes nothing but the node records and the ports. -/
theorem State.modNode_reply_restoring (s : State) (n : NodeId) (f : NodeRec → NodeRec) (l : Link) (k : Kind) (r : Result)
    (b : Body) :
    { (s.modNode n f).reply l k r b with
      nodes := s.nodes, supervisorPort := s.supervisorPort, nodePorts := s.nodePorts } = s :=
  congrArg (fun u : State => { u with nodes := s.nodes }) ((s.modNode n f).reply_restoring_ports l k r b)

/-- A change of a node record does not bear on the reply that follows it. -/
theorem State.sends_modNode_reply (s : State) (n : NodeId) (f : NodeRec → NodeRec) (l : Link) (k : Kind) (r : Result)
    (b : Body) : s.sends ((s.modNode n f).reply l k r b) l [.reply k.code r b] := by
  simpa [State.sends] using (s.modNode n f).sends_reply l k r b

/-! ### The standby of a group -/

/-- R2: the standby is the member that the group record names as such and does not name as duty node. -/
theorem State.roleOf_eq_standby_iff {s : State} {n : NodeId} {g : GroupId} (member : s.groupOf n = some g) :
    s.roleOf n = some .standby ↔ (s.group g).duty ≠ some n ∧ (s.group g).standby = some n := by
  by_cases duty : (s.group g).duty = some n <;> simp [State.roleOf, member, duty]

/-- R128: a group whose standby is not RUNNING has no eligible standby. -/
theorem State.eligible_of_standby_not_running {s : State} {n : NodeId} {g : GroupId} (standby : (s.group g).standby = some n)
    (idle : (s.node n).state ≠ .running) : s.eligible g = none := by
  simp [State.eligible, standby, idle]

/-! ### QUIET by state and role -/

theorem State.quietTaken_of_not_running {s : State} {n : NodeId} (h : (s.node n).state ≠ .running) :
    s.quietTaken n = s.reply (.node n) .quiet .badState := by
  simp [State.quietTaken, h]

theorem State.quietTaken_of_not_standby {s : State} {n : NodeId} (running : (s.node n).state = .running)
    (role : s.roleOf n ≠ some .standby) : s.quietTaken n = s.reply (.node n) .quiet .notStandby := by
  simp [State.quietTaken, running, role]

theorem State.quietTaken_of_standby {s : State} {n : NodeId} {g : GroupId} (member : s.groupOf n = some g)
    (running : (s.node n).state = .running) (role : s.roleOf n = some .standby) :
    s.quietTaken n =
      if (s.group g).outstanding then s.reply (.node n) .quiet .badState
      else (s.modNode n fun r => { r with state := .quiet, nudgeSent := false }).reply (.node n) .quiet .ok := by
  simp [State.quietTaken, State.takeOutstanding, running, role, member]

/-! ### QUIET as a command -/

/-- A QUIET that passes the checks of R159 goes to the node sequencer. -/
theorem exec_quiet_of_passes {s : State} {n : NodeId} {p : List Byte} (h : s.passes .quiet (.node n) p) :
    exec (.quiet (.node n) p) s = .next (s.quietTaken n) :=
  congrArg Host.Outcome.next (State.receive_of_passes h _)

/-- R160: while a request of the node is in progress, QUIET is answered BUSY. -/
theorem exec_quiet_of_busy {s : State} {n : NodeId} {j : Kind} (listens : s.listens) (present : s.present n = true)
    (busy : (s.port (.node n)).inProgress = some j) :
    exec (.quiet (.node n) []) s = .next (s.reply (.node n) .quiet .busy) :=
  congrArg Host.Outcome.next (State.receive_of_busy (l := .node n) listens (Nat.zero_le _) rfl present rfl rfl busy _)

/-- Settles O19: `State.quietTaken` by the node's state, then by its role, then by the TAKE of its group. -/
theorem quietIsOpenToARunningStandby : Obligations.QuietIsOpenToARunningStandby := by
  intro n p s g member
  have isStandby := State.roleOf_eq_standby_iff member
  refine ⟨fun passes => ?_, ?_⟩
  · rw [exec_quiet_of_passes passes]
    refine ⟨fun running standby notDuty free => ?accepted, fun running standby notDuty taking => ?taking,
      fun running duty => ?duty, fun running _ notStandby => ?noRole, fun idle => ?idle⟩
    case accepted =>
      rw [State.quietTaken_of_standby member running (isStandby.2 ⟨notDuty, standby⟩), if_neg (by simp [free])]
      refine ⟨_, rfl, ?_, ?_, ?_, ?_, ?_⟩
      · simp
      · intro m other
        simp [other]
      · exact s.sends_modNode_reply n _ _ _ _ _
      · exact State.eligible_of_standby_not_running (n := n) (by simpa using standby) (by simp)
      · exact s.modNode_reply_restoring n _ _ _ _ _
    case taking =>
      rw [State.quietTaken_of_standby member running (isStandby.2 ⟨notDuty, standby⟩), if_pos taking]
    case duty =>
      rw [State.quietTaken_of_not_standby running fun role => (isStandby.1 role).1 duty]
    case noRole =>
      rw [State.quietTaken_of_not_standby running fun role => notStandby (isStandby.1 role).2]
    case idle =>
      rw [State.quietTaken_of_not_running idle]
  · rintro listens rfl present busy
    exact exec_quiet_of_busy listens present busy

end Sys2Proof.Machine
end

