-- ==== Sys2Proof/Proofs/PowerOnStore.lean ====
section
/-! PROOF. The checkpoint store after power-on reset (R77). -/

namespace Sys2Proof.Machine

/-! ### The empty store -/

theorem Store.dir_empty (i : Slot) : Store.empty.dir[i] = none := by
  simp [Store.empty]

@[simp] theorem Store.entries_empty : Store.empty.entries = [] :=
  List.filterMap_eq_nil_iff.2 fun i _ => congrArg _ (Store.dir_empty i)

@[simp] theorem Store.committed_empty (n : NodeId) : Store.empty.committed n = [] := by
  simp [Store.committed, Store.recordsOf, byGeneration]

@[simp] theorem Store.freeList_empty : Store.empty.freeList = List.range 1024 := by
  simp only [Store.empty]

@[simp] theorem Store.freeCount_empty : Store.empty.freeCount = 1024 := by
  simp [Store.freeCount]

@[simp] theorem Store.peek_empty : Store.empty.peek = none := rfl

@[simp] theorem Store.gens_empty (n : NodeId) : Store.empty.gens.get n = 0#32 :=
  PerNode.get_const _ _

/-- The empty pool lists no word, so each of its words is 0 and sound. -/
@[simp] theorem Store.read_empty (k : Nat) : Store.empty.pool.read k = ⟨0#32, true⟩ := rfl

/-- Block 0 is the first that an allocation takes. -/
theorem Store.head_freeList_empty : Store.empty.freeList.head? = some 0 := by
  simp [List.head?_range]

/-! ### The first record placed -/

/-- R81: the slot given to a record holds it, and its generation is the one after the node's counter. -/
theorem State.placeRecord_dir_self (s : State) (n : NodeId) (i : Slot) (k : RecKind) (declared : Nat) :
    (s.placeRecord n i k declared).store.dir[i] = some (newRecord n (s.store.gens.get n + 1#32) k declared) := by
  simp [State.placeRecord]

/-! ### The node records and the store after power-on reset -/

/-- A part reset leaves no node an open record, be it present or not under the active plan. -/
@[simp] theorem NodeRec.afterReset_openRec (p : NodePlan) : (NodeRec.afterReset p).openRec = none := by
  unfold NodeRec.afterReset
  split <;> rfl

@[simp] theorem State.node_resetBlocks (s : State) (planFault : Bool) (n : NodeId) :
    (s.resetBlocks planFault).node n = .afterReset (s.active.nodes.get n) :=
  PerNode.get_ofFn _ _

/-- R77: whatever image the array gives, power-on reset leaves the empty store and no open record. -/
theorem exec_powerOnReset_store (s : State) :
    ∃ t, exec .powerOnReset s = .next t ∧ t.store = .empty ∧ ∀ n, (t.node n).openRec = none := by
  refine ⟨_, rfl, ?_, fun n => ?_⟩
  · simp
  · rw [State.node_resetBlocks, NodeRec.afterReset_openRec]

/-- Settles O3: every clause but the one on open records speaks of the empty store that power-on reset leaves. -/
theorem powerOnResetEmptiesTheStore : Obligations.PowerOnResetEmptiesTheStore := by
  intro s
  obtain ⟨t, answers, store, noOpen⟩ := exec_powerOnReset_store s
  refine ⟨t, answers, ?slots, ?lists, noOpen, ?free, ?freeCount, ?gens, ?peek, ?words, ?firstGen, ?firstBlock⟩
  case firstGen =>
    intro n i k declared
    rw [State.placeRecord_dir_self, store, Store.gens_empty]
    rfl
  case slots => exact fun i => store ▸ Store.dir_empty i
  case lists => exact fun n => store ▸ Store.committed_empty n
  case free => rw [store, Store.freeList_empty]
  case freeCount => rw [store, Store.freeCount_empty]
  case gens => exact fun n => store ▸ Store.gens_empty n
  case peek => rw [store, Store.peek_empty]
  case words => exact fun k => store ▸ Store.read_empty k
  case firstBlock => rw [store, Store.head_freeList_empty]

end Sys2Proof.Machine
end

