-- ==== Sys2Proof/Proofs/OpenChecks.lean ====
section
/-! PROOF. The seven checks of OPEN in their order (R80). -/

namespace Sys2Proof.Machine

/-! ### The kind and the checks of a DELTA -/

theorem openKind_full {p : List Byte} (h : octetAt p 0 = 0) : openKind p = some .full := by
  simp [openKind, h]

theorem openKind_delta {p : List Byte} (h : octetAt p 0 = 1) : openKind p = some (.delta (field4 p 1)) := by
  simp [openKind, h]

theorem openKind_eq_none {p : List Byte} (notFull : octetAt p 0 ≠ 0) (notDelta : octetAt p 0 ≠ 1) : openKind p = none := by
  unfold openKind
  split
  · contradiction
  · contradiction
  · rfl

/-- Every kind octet but 0 and 1 fails check 4, so past it only these two kinds remain. -/
theorem openKind_isSome {p : List Byte} (h : octetAt p 0 = 0 ∨ octetAt p 0 = 1) : ∃ k, openKind p = some k :=
  h.elim (fun full => ⟨_, openKind_full full⟩) fun delta => ⟨_, openKind_delta delta⟩

/-- R80 check 6. -/
theorem State.baseOk_delta_iff {s : State} {n : NodeId} {b : Word} :
    s.baseOk n (.delta b) = true ↔ (s.store.newestFull n).map (fun f => f.2.gen) = some b := by
  cases h : s.store.newestFull n <;> simp [State.baseOk, h]

/-- R80 check 7. -/
theorem State.listOk_delta_iff {s : State} {n : NodeId} {b : Word} :
    s.listOk n (.delta b) = true ↔ (s.store.committed n).length < 4 ∨ s.store.olderFulls n ≠ [] := by
  rw [State.listOk, Bool.or_eq_true, decide_eq_true_eq, Bool.not_eq_true', List.isEmpty_eq_false_iff]
  rfl

theorem Store.exists_freeSlot {st : Store} (h : ∃ i : Slot, st.dir[i] = none) : ∃ i, st.freeSlot = some i := by
  obtain ⟨i, free⟩ := h
  exact Option.isSome_iff_exists.1 (List.find?_isSome.2 ⟨i, List.mem_finRange i, by simpa using free⟩)

/-! ### The checks in their order -/

/-- R80 checks 1 to 3, which do not read the payload: the node is in service, has no open record, and has a generation left. -/
structure State.MayOpen (s : State) (n : NodeId) : Prop where
  inService : (s.node n).state.inService = true
  noRecord : (s.node n).openRec = none
  genLeft : s.store.gens.get n ≠ Config.lastGeneration

section
variable {s : State} {n : NodeId} {p : List Byte}

theorem State.openTaken_of_not_inService (h : (s.node n).state.inService = false) :
    s.openTaken n p = s.reply (.node n) .openRecord .badState := by
  simp [State.openTaken, h]

theorem State.openTaken_of_openRec (inService : (s.node n).state.inService = true) (h : (s.node n).openRec ≠ none) :
    s.openTaken n p = s.reply (.node n) .openRecord .badState := by
  simp [State.openTaken, inService, Option.isSome_iff_ne_none.2 h]

theorem State.openTaken_of_last_generation (inService : (s.node n).state.inService = true)
    (noRecord : (s.node n).openRec = none) (h : s.store.gens.get n = Config.lastGeneration) :
    s.openTaken n p = s.reply (.node n) .openRecord .badState := by
  simp [State.openTaken, inService, noRecord, h]

theorem State.openTaken_of_bad_kind (h : s.MayOpen n) (kind : openKind p = none) :
    s.openTaken n p = s.reply (.node n) .openRecord .badValue := by
  simp [State.openTaken, h.inService, h.noRecord, h.genLeft, kind]

variable {k : RecKind} (h : s.MayOpen n) (kind : openKind p = some k)
include h kind

theorem State.openTaken_of_bad_count (count : field2 p 5 = 0 ∨ Config.maxRecordWords < field2 p 5) :
    s.openTaken n p = s.reply (.node n) .openRecord .badValue := by
  simp [State.openTaken, h.inService, h.noRecord, h.genLeft, kind, count]

variable (count : ¬(field2 p 5 = 0 ∨ Config.maxRecordWords < field2 p 5))
include count

theorem State.openTaken_of_bad_base (base : s.baseOk n k = false) :
    s.openTaken n p = s.reply (.node n) .openRecord .badBase := by
  simp [State.openTaken, h.inService, h.noRecord, h.genLeft, kind, count, base]

theorem State.openTaken_of_list_full (base : s.baseOk n k = true) (list : s.listOk n k = false) :
    s.openTaken n p = s.reply (.node n) .openRecord .listFull := by
  simp [State.openTaken, h.inService, h.noRecord, h.genLeft, kind, count, base, list]

/-- R80, R81: an OPEN that passes the seven checks is answered OK once its record is placed. -/
theorem State.openTaken_of_passed {i : Slot} (base : s.baseOk n k = true) (list : s.listOk n k = true)
    (slot : s.store.freeSlot = some i) :
    s.openTaken n p = (s.placeRecord n i k (field2 p 5)).reply (.node n) .openRecord .ok
      (.opened ((s.placeRecord n i k (field2 p 5)).store.gens.get n) (blocksFor (field2 p 5))
        (s.placeRecord n i k (field2 p 5)).store.freeCount) := by
  simp [State.openTaken, h.inService, h.noRecord, h.genLeft, kind, count, base, list, slot]

end

/-! ### The record placed -/

/-- R59, R81: a record just opened holds no block. -/
@[simp] theorem State.placeRecord_freeList (s : State) (n : NodeId) (i : Slot) (k : RecKind) (declared : Nat) :
    (s.placeRecord n i k declared).store.freeList = s.store.freeList := by
  simp [State.placeRecord]

/-- The placing of a record does not bear on the reply that follows it. -/
theorem State.sends_placeRecord_reply (s : State) (n : NodeId) (i : Slot) (k : RecKind) (declared : Nat) (l : Link)
    (j : Kind) (r : Result) (b : Body) :
    s.sends ((s.placeRecord n i k declared).reply l j r b) l [.reply j.code r b] := by
  simpa [State.sends] using (s.placeRecord n i k declared).sends_reply l j r b

/-! ### OPEN as a command -/

/-- An OPEN that passes the checks of R159 goes to the checkpoint store. -/
theorem exec_openRecord_of_passes {s : State} {n : NodeId} {p : List Byte} (h : s.passes .openRecord (.node n) p) :
    exec (.openRecord (.node n) p) s = .next (s.openTaken n p) :=
  congrArg Host.Outcome.next (State.receive_of_passes h _)

/-- R80: with a free slot, an OPEN that passes the seven checks is answered OK and takes no pool block. -/
theorem exec_openRecord_of_passed {s : State} {n : NodeId} {p : List Byte} {k : RecKind}
    (passes : s.passes .openRecord (.node n) p) (mayOpen : s.MayOpen n) (kind : openKind p = some k)
    (count : ¬(field2 p 5 = 0 ∨ Config.maxRecordWords < field2 p 5)) (base : s.baseOk n k = true)
    (list : s.listOk n k = true) (free : ∃ i : Slot, s.store.dir[i] = none) :
    ∃ t b, exec (.openRecord (.node n) p) s = .next t ∧ s.sends t (.node n) [.reply 0x18#8 .ok b]
      ∧ t.store.freeList = s.store.freeList ∧ t.store.pool = s.store.pool := by
  obtain ⟨i, slot⟩ := Store.exists_freeSlot free
  rw [exec_openRecord_of_passes passes, State.openTaken_of_passed mayOpen kind count base list slot]
  refine ⟨_, _, rfl, s.sends_placeRecord_reply n i k _ _ .openRecord _ _, ?_, ?_⟩
  · simp
  · simp

/-- Settles O34: `State.openTaken` by the first check that fails, in the order of the table, and by the kind where none does. -/
theorem openIsCheckedInOrder : Obligations.OpenIsCheckedInOrder := by
  intro n p s passes declared refused
  have refuses {r : Result} (taken : s.openTaken n p = s.reply (.node n) .openRecord r) : refused r :=
    (exec_openRecord_of_passes passes).trans (congrArg _ taken)
  refine ⟨fun out => refuses (State.openTaken_of_not_inService out), fun inService =>
    ⟨fun record => refuses (State.openTaken_of_openRec inService record), fun noRecord =>
      ⟨fun last => refuses (State.openTaken_of_last_generation inService noRecord last), fun genLeft => ?_⟩⟩⟩
  have mayOpen : s.MayOpen n := ⟨inService, noRecord, genLeft⟩
  refine ⟨fun notFull notDelta => refuses (State.openTaken_of_bad_kind mayOpen (openKind_eq_none notFull notDelta)),
    fun known => ⟨fun count => ?badCount, fun low high => ?_⟩⟩
  case badCount =>
    obtain ⟨k, kind⟩ := openKind_isSome known
    exact refuses (State.openTaken_of_bad_count mayOpen kind count)
  have count : ¬(field2 p 5 = 0 ∨ Config.maxRecordWords < field2 p 5) :=
    not_or.2 ⟨Nat.pos_iff_ne_zero.1 low, Nat.not_lt.2 high⟩
  refine ⟨fun delta base => ?badBase, fun delta base four noOlder => ?listFull, fun passed free => ?accepted⟩
  case badBase =>
    have notBase := Bool.eq_false_iff.2 (mt State.baseOk_delta_iff.1 base)
    exact refuses (State.openTaken_of_bad_base mayOpen (openKind_delta delta) count notBase)
  case listFull =>
    have full : ¬((s.store.committed n).length < 4 ∨ s.store.olderFulls n ≠ []) := by
      simpa [noOlder] using four
    have notList := Bool.eq_false_iff.2 (mt (State.listOk_delta_iff (b := field4 p 1)).1 full)
    exact refuses (State.openTaken_of_list_full mayOpen (openKind_delta delta) count (State.baseOk_delta_iff.2 base) notList)
  case accepted =>
    obtain full | ⟨delta, base, list⟩ := passed
    · exact exec_openRecord_of_passed passes mayOpen (openKind_full full) count rfl rfl free
    · exact exec_openRecord_of_passed passes mayOpen (openKind_delta delta) count (State.baseOk_delta_iff.2 base)
        (State.listOk_delta_iff.2 list) free

end Sys2Proof.Machine
end

/-! PROOF. The ALERT line (R150), READ_ALERTS (R152) and WHO (R155). -/

namespace Sys2Proof.Machine

/-! ### Frames that the link interface refuses -/

/-- R159 check 2: a frame of an answered kind on a link that it may not be sent on is answered BAD_KIND. -/
theorem State.receive_of_not_allowed {s : State} {k : Kind} {l : Link} {p : List Byte} (listens : s.listens)
    (fits : p.length ≤ Config.maxPayload) (answered : k.silent = false) (other : k.allowedOn l = false)
    (owner : State → State) : s.receive k l p owner = s.reply l k .badKind := by
  have judged : s.judge k l p = .refused .badKind := by
    simp [State.judge, failedCheck, State.receiving, listens, Nat.not_lt.mpr fits, other, answered]
  simp [State.receive, judged]

/-- R159 check 3: a frame of an answered kind on the link of an absent node is answered NOT_PRESENT, whatever its length and
whatever is in progress. -/
theorem State.receive_of_absent {s : State} {k : Kind} {n : NodeId} {p : List Byte} (listens : s.listens)
    (fits : p.length ≤ Config.maxPayload) (answered : k.silent = false) (allowed : k.allowedOn (.node n) = true)
    (absent : s.present n = false) (owner : State → State) :
    s.receive k (.node n) p owner = s.reply (.node n) k .notPresent := by
  have judged : s.judge k (.node n) p = .refused .notPresent := by
    simp [State.judge, failedCheck, State.receiving, State.linkPresent, listens, Nat.not_lt.mpr fits, allowed, absent,
      answered]
  simp [State.receive, judged]

/-! ### The flag field and the ALERT line -/

/-- The bits of the flag field are the places of the flags, so that what holds at the place of each flag holds of the field. -/
theorem Alert.exists_bit_eq {i : Nat} (h : i < 27) : ∃ a : Alert, a.bit = i := by
  match i, h with
  | 0, _ => exact ⟨.lapse, rfl⟩
  | 1, _ => exact ⟨.halted, rfl⟩
  | 2, _ => exact ⟨.held, rfl⟩
  | 3, _ => exact ⟨.unserved, rfl⟩
  | 4, _ => exact ⟨.takeover, rfl⟩
  | 5, _ => exact ⟨.damaged, rfl⟩
  | 6, _ => exact ⟨.reclaim, rfl⟩
  | 7, _ => exact ⟨.poolFull, rfl⟩
  | 8, _ => exact ⟨.linkFault, rfl⟩
  | 9, _ => exact ⟨.planFault, rfl⟩
  | 10, _ => exact ⟨.coldStart, rfl⟩
  | c + 11, h => exact ⟨.channel ⟨c, by omega⟩, Nat.add_comm 11 c⟩

/-- A field over the flags is not empty exactly when it holds the bit of some flag. -/
theorem Alert.field_ne_zero_iff (x : BitVec 27) : x ≠ 0#27 ↔ ∃ a : Alert, x.getLsbD a.bit = true := by
  constructor
  · intro nonzero
    by_contra none
    refine nonzero (BitVec.eq_of_getLsbD_eq fun i inside => ?_)
    obtain ⟨a, rfl⟩ := Alert.exists_bit_eq inside
    simpa using fun set => none ⟨a, set⟩
  · rintro ⟨a, set⟩ rfl
    simp at set

/-- R150: some flag that is set has a clear mask. -/
theorem Alerts.unmasked_ne_zero_iff (r : Alerts) :
    r.flags &&& ~~~r.masks ≠ 0#27 ↔ ∃ a : Alert, r.flags.getLsbD a.bit = true ∧ r.masks.getLsbD a.bit = false := by
  rw [Alert.field_ne_zero_iff]
  simp [Alert.bit_lt]

/-- R150: with no flag set the line is released. -/
theorem State.alertLine_of_flags_zero {s : State} (h : s.alerts.flags = 0#27) : s.alertLine = false := by
  simp [State.alertLine, h]

/-- Settles O13: the line's three conditions, the last of them read flag by flag. -/
theorem alertLineFollowsFlagsMasksAndEnable : Obligations.AlertLineFollowsFlagsMasksAndEnable := by
  intro s
  have unmasked := s.alerts.unmasked_ne_zero_iff
  calc s.alertLine = true
    _ ↔ s.resetAsserted = false ∧ s.alerts.enable = true ∧ s.alerts.flags &&& ~~~s.alerts.masks ≠ 0#27 := by
      simp [State.alertLine, and_assoc]
    _ ↔ s.resetAsserted = false ∧ s.alerts.enable = true
          ∧ ∃ a : Alert, s.flag a = true ∧ s.alerts.masks.getLsbD a.bit = false :=
      and_congr_right' (and_congr_right' unmasked)

/-! ### READ_ALERTS -/

/-- R152: the snapshot shows every flag, so that none is left set; the masks and the enable are kept. -/
@[simp] theorem State.readAlertsTaken_alerts (s : State) : s.readAlertsTaken.alerts = { s.alerts with flags := 0#27 } := by
  simp [State.readAlertsTaken, State.alertsReport]

/-- The clearing of the flags does not bear on the reply that carries the snapshot. -/
theorem State.sends_readAlertsTaken (s : State) :
    s.sends s.readAlertsTaken .supervisor [.reply 0x43#8 .ok (.alerts s.alertsReport)] :=
  s.sends_reply .supervisor .readAlerts .ok (.alerts s.alertsReport)

/-- READ_ALERTS changes nothing but the alert unit and the ports. -/
theorem State.readAlertsTaken_restoring (s : State) :
    { s.readAlertsTaken with
      alerts := s.alerts, supervisorPort := s.supervisorPort, nodePorts := s.nodePorts } = s :=
  congrArg (fun u : State => { u with alerts := s.alerts })
    (s.reply_restoring_ports .supervisor .readAlerts .ok (.alerts s.alertsReport))

/-- A READ_ALERTS that passes the checks of R159 goes to the alert unit. -/
theorem exec_readAlerts_of_passes {s : State} {p : List Byte} (h : s.passes .readAlerts .supervisor p) :
    exec (.readAlerts .supervisor p) s = .next s.readAlertsTaken :=
  congrArg Host.Outcome.next (State.receive_of_passes h _)

/-- Settles O45: what `State.readAlertsTaken` clears, sends and keeps, then the two answers of the link interface. -/
theorem readAlertsClearsWhatItShows : Obligations.ReadAlertsClearsWhatItShows := by
  intro p s
  refine ⟨fun passes => ?taken, ?busy, ?nodeLink⟩
  case taken =>
    have cleared := s.readAlertsTaken_alerts
    refine ⟨s.readAlertsTaken, exec_readAlerts_of_passes passes, ?flags, ?masks, ?enable, ?line, s.sends_readAlertsTaken,
      s.readAlertsTaken_restoring⟩
    case flags => rw [cleared]
    case masks => rw [cleared]
    case enable => rw [cleared]
    case line => exact State.alertLine_of_flags_zero (by rw [cleared])
  case busy =>
    rintro listens rfl saving
    exact congrArg Host.Outcome.next
      (State.receive_of_busy (l := .supervisor) listens (Nat.zero_le _) rfl rfl rfl rfl saving _)
  case nodeLink =>
    rintro n listens rfl
    exact congrArg Host.Outcome.next (State.receive_of_not_allowed listens (Nat.zero_le _) rfl rfl _)

/-! ### The role of a present node -/

/-- R2: the group of a present node is the one its plan items name. -/
theorem State.groupOf_of_present {s : State} {n : NodeId} (h : s.present n = true) :
    s.groupOf n = some (s.nodePlan n).group := if_pos h

section
variable {s : State} {n : NodeId} {g : GroupId} (member : s.groupOf n = some g)
include member

theorem State.roleOf_of_duty (duty : (s.group g).duty = some n) : s.roleOf n = some .duty := by
  simp [State.roleOf, member, duty]

theorem State.roleOf_of_neither (notDuty : (s.group g).duty ≠ some n) (notStandby : (s.group g).standby ≠ some n) :
    s.roleOf n = none := by
  simp [State.roleOf, member, notDuty, notStandby]

end

/-! ### WHO as a command -/

/-- A WHO that passes the checks of R159 goes to the node sequencer. -/
theorem exec_who_of_passes {s : State} {n : NodeId} {p : List Byte} (h : s.passes .who (.node n) p) :
    exec (.who (.node n) p) s = .next (s.whoTaken n) :=
  congrArg Host.Outcome.next (State.receive_of_passes h _)

/-- Settles O24: the report by the role of the present node, the rest by the check of R159 or R160 that the WHO fails. -/
theorem whoReportsTheNodesStanding : Obligations.WhoReportsTheNodesStanding := by
  intro n p s
  refine ⟨fun passes => ?report, ?busy, ?absent, ?supervisor⟩
  case report =>
    have ⟨_, _, _, present, _⟩ := passes
    have member := State.groupOf_of_present present
    exact ⟨s.roleOf n, exec_who_of_passes passes, State.roleOf_of_duty member,
      fun notDuty standby => (State.roleOf_eq_standby_iff member).2 ⟨notDuty, standby⟩, State.roleOf_of_neither member⟩
  case busy =>
    rintro listens rfl present busy
    exact congrArg Host.Outcome.next (State.receive_of_busy (l := .node n) listens (Nat.zero_le _) rfl present rfl rfl busy _)
  case absent =>
    rintro listens rfl absent
    exact congrArg Host.Outcome.next (State.receive_of_absent listens (Nat.zero_le _) rfl rfl absent _)
  case supervisor =>
    rintro listens rfl
    exact congrArg Host.Outcome.next (State.receive_of_not_allowed listens (Nat.zero_le _) rfl rfl _)

end Sys2Proof.Machine

/-! PROOF. The damaged frame on each link, and the error counts in the reports and at the part resets (R158). -/

namespace Sys2Proof.Machine

/-! ### The damaged frame discarded -/

/-- R158: the link counts the frame and keeps its receiver, its request in progress and the frames it has formed. -/
theorem State.port_discardFrame_self (s : State) (l : Link) :
    (s.discardFrame l).port l = { s.port l with errors := min 255 ((s.port l).errors + 1) } :=
  (State.port_raise _ _ _).trans (s.port_modPort_self l _)

/-- R158: the alert unit changes in its flag field alone. -/
theorem State.discardFrame_alerts (s : State) (l : Link) :
    (s.discardFrame l).alerts = { s.alerts with flags := s.alerts.flags ||| Alert.linkFault.mark } := by
  simp [State.discardFrame]

@[simp] theorem State.flag_modPort (s : State) (l : Link) (f : Port → Port) (a : Alert) :
    (s.modPort l f).flag a = s.flag a := by
  simp [State.flag]

/-- R158: LINK_FAULT is the flag set, on every link. -/
theorem State.flag_discardFrame (s : State) (l : Link) (a : Alert) :
    (s.discardFrame l).flag a = (s.flag a || decide (Alert.linkFault = a)) := by
  rw [State.discardFrame, State.flag_raise, State.flag_modPort]

/-- A change of a port changes nothing but the ports. -/
theorem State.modPort_restoring_ports (s : State) (l : Link) (f : Port → Port) :
    { s.modPort l f with supervisorPort := s.supervisorPort, nodePorts := s.nodePorts } = s := by
  cases l <;> rfl

/-- R158: nothing of a damaged frame reaches a block other than the link interface and the alert unit. -/
theorem State.discardFrame_restoring (s : State) (l : Link) :
    { s.discardFrame l with
      supervisorPort := s.supervisorPort, nodePorts := s.nodePorts, alerts := s.alerts } = s :=
  congrArg (fun u : State => { u with alerts := s.alerts }) (s.modPort_restoring_ports l _)

/-- R164: with the supply present and the RESET input released, the receivers take what arrives. -/
theorem State.receiving_of_listens {s : State} (h : s.listens) : s.receiving = true := by
  obtain ⟨powered, released⟩ := h
  simp [State.receiving, powered, released]

/-- A link that listens discards a damaged frame. -/
theorem exec_frameDamaged_of_listens {s : State} (l : Link) (h : s.listens) :
    exec (.frameDamaged l) s = .next (s.discardFrame l) :=
  congrArg Host.Outcome.next (if_pos (State.receiving_of_listens h))

/-! ### READ_NODE -/

/-- R153: a node number is answered with the picture of that node. -/
theorem State.readNodeTaken_of_num {s : State} {n : NodeId} {p : List Byte} (h : octetAt p 0 = n.num) :
    s.readNodeTaken p = s.reply .supervisor .readNode .ok (.node (s.nodeReport n)) := by
  simp [State.readNodeTaken, State.answer, h]

/-- A READ_NODE that passes the checks of R159 goes to its owner. -/
theorem exec_readNode_of_passes {s : State} {p : List Byte} (h : s.passes .readNode .supervisor p) :
    exec (.readNode .supervisor p) s = .next (s.readNodeTaken p) :=
  congrArg Host.Outcome.next (State.receive_of_passes h _)

/-! ### The links at a part reset -/

/-- R164: the condition that a part reset brings every link to. -/
@[simp] theorem State.port_resetBlocks (s : State) (planFault : Bool) (l : Link) :
    (s.resetBlocks planFault).port l = .atReset := by
  cases l with
  | supervisor => rfl
  | node n => exact PerNode.get_const _ n

@[simp] theorem Port.atReset_errors : Port.atReset.errors = 0 := rfl

/-- R158: power-on reset clears every count, whatever image the array gives. -/
theorem exec_powerOnReset_errors {s t : State} (l : Link) (h : exec .powerOnReset s = .next t) : (t.port l).errors = 0 := by
  cases h
  simp

/-- R164: a pin reset ends in the common reset of the blocks, whatever image the array gives. -/
theorem State.port_pinReset (s : State) (l : Link) : s.pinReset.port l = .atReset :=
  State.port_resetBlocks _ _ l

/-- With the supply present, the release of the RESET input is a pin reset. -/
theorem exec_pinReset_of_powered {s : State} (h : s.powered = true) :
    exec .pinReset s = .next { s with resetAsserted := false }.pinReset :=
  congrArg Host.Outcome.next (State.whenPowered_of_powered _ _ h)

/-- R158: a pin reset clears every count. -/
theorem exec_pinReset_errors {s t : State} (l : Link) (powered : s.powered = true) (h : exec .pinReset s = .next t) :
    (t.port l).errors = 0 := by
  obtain rfl := Host.Outcome.next.inj ((exec_pinReset_of_powered powered).symm.trans h)
  rw [State.port_pinReset, Port.atReset_errors]

/-- R171: the REPLY that follows a resync leaves the counts as the reset has set them. -/
theorem State.resyncTaken_errors (s : State) (l : Link) : (s.resyncTaken.port l).errors = 0 := by
  simp [State.resyncTaken]

/-- A RESYNC that passes the checks of R159 is taken. -/
theorem exec_resync_of_passes {s : State} {p : List Byte} (h : s.passes .resync .supervisor p) :
    exec (.resync .supervisor p) s = .next s.resyncTaken :=
  congrArg Host.Outcome.next (State.receive_of_passes h _)

/-- R158: a resync clears every count. -/
theorem exec_resync_errors {s t : State} {p : List Byte} (l : Link) (passes : s.passes .resync .supervisor p)
    (h : exec (.resync .supervisor p) s = .next t) : (t.port l).errors = 0 := by
  obtain rfl := Host.Outcome.next.inj ((exec_resync_of_passes passes).symm.trans h)
  exact s.resyncTaken_errors l

/-! ### The obligation -/

/-- Settles O11: what `State.discardFrame` does to its link, to the flags and to the rest, then the two reports that show the
counts, then the condition of the links after each of the three part resets. -/
theorem damagedFrameIsCounted : Obligations.DamagedFrameIsCounted := by
  refine ⟨fun l s listens => ?discarded, fun n p s passes named => ?readNode, fun p s passes => ?readAlerts,
    fun _ _ l => exec_powerOnReset_errors l, fun _ _ l => exec_pinReset_errors l, fun _ _ _ l => exec_resync_errors l⟩
  case discarded =>
    have otherPorts : ∀ m, m ≠ l → (s.discardFrame l).port m = s.port m := fun m other => by simp [other]
    have alerts := s.discardFrame_alerts l
    refine ⟨s.discardFrame l, exec_frameDamaged_of_listens l listens, s.port_discardFrame_self l, otherPorts, ?linkFault,
      ?otherFlags, ?masks, ?enable, s.discardFrame_restoring l⟩
    case linkFault => simp [State.flag_discardFrame]
    case otherFlags =>
      intro a other
      simp [State.flag_discardFrame, other.symm]
    case masks => rw [alerts]
    case enable => rw [alerts]
  case readNode =>
    refine ⟨s.readNodeTaken p, s.nodeReport n, exec_readNode_of_passes passes, ?_, rfl⟩
    rw [State.readNodeTaken_of_num named]
    exact s.sends_reply .supervisor .readNode .ok (.node (s.nodeReport n))
  case readAlerts =>
    exact ⟨s.readAlertsTaken, s.alertsReport, exec_readAlerts_of_passes passes, s.sends_readAlertsTaken, rfl⟩

end Sys2Proof.Machine

/-! PROOF. The effect of each command as a function of the state, and what it takes for a property to be kept by every step. -/

namespace Sys2Proof.Machine

/-! ### Frames -/

/-- What the owner of a frame that passes the checks of R159 does with it. -/
def frameOwner (k : Kind) (l : Link) (p : List Byte) : State → State :=
  match k with
  | .hello => onNode l fun n s => s.helloTaken n p
  | .beat => onNode l fun n s => s.beatTaken n p
  | .quiet => onNode l fun n s => s.quietTaken n
  | .awake => onNode l fun n s => s.awakeTaken n
  | .askRestart => onNode l fun n s => s.askRestartTaken n
  | .resumed => onNode l fun n s => s.resumedTaken n
  | .who => onNode l fun n s => s.whoTaken n
  | .openRecord => onNode l fun n s => s.openTaken n p
  | .block => onNode l fun n s => s.blockTaken n p
  | .commit => onNode l fun n s => s.commitTaken n p
  | .drop => onNode l fun n s => s.dropTaken n
  | .ack => onNode l fun n s => s.ackTaken n p
  | .taken => onNode l fun n s => s.takenTaken n p
  | .readNode => fun s => s.readNodeTaken p
  | .readGroup => fun s => s.readGroupTaken p
  | .readStore => fun s => s.answer .readStore .ok (.store s.storeReport)
  | .readAlerts => fun s => s.readAlertsTaken
  | .peekAt => fun s => s.peekAtTaken p
  | .peekNext => fun s => s.peekNextTaken
  | .restart => fun s => s.restartTaken p
  | .halt => fun s => s.haltTaken p
  | .release => fun s => s.releaseTaken p
  | .limit => fun s => s.limitTaken p
  | .mask => fun s => s.maskTaken p
  | .set => fun s => s.setTaken p
  | .apply => fun s => s.applyTaken
  | .save => fun s => s.saveTaken
  | .resync => fun s => s.resyncTaken

/-- Every frame command goes through the link interface to its owner. -/
theorem exec_frame {c : Instr} {k : Kind} {l : Link} {p : List Byte} (h : frameOf c = some (k, l, p)) (s : State) :
    exec c s = .next (s.receive k l p (frameOwner k l p)) := by
  cases c <;> cases h <;> rfl

/-- A frame that passes the checks of R159 has the effect that its owner gives it. -/
theorem exec_of_passes {c : Instr} {k : Kind} {l : Link} {p : List Byte} {s : State} (h : frameOf c = some (k, l, p))
    (passes : s.passes k l p) : exec c s = .next (frameOwner k l p s) :=
  (exec_frame h s).trans (congrArg Host.Outcome.next (State.receive_of_passes passes _))

/-! ### Events of the part and of its surroundings -/

/-- The completion of a commit verification pass of node n, if one runs (R87). -/
def State.passEnds (s : State) (n : NodeId) : State :=
  match (s.node n).openRec with
  | none => s
  | some i =>
    match s.store.dir[i] with
    | none => s
    | some r =>
      match r.status with
      | .verifying expected seen => s.passDone n i r expected seen
      | .opened | .committed _ _ => s

/-- The completion of a SAVE, if one is in progress (R170). -/
def State.saveEnds (s : State) (sum : Word) : State :=
  match s.saving with
  | none => s
  | some img => s.saveDone img sum

/-- The end of a holdoff, if one is due (R110). -/
def State.holdoffEnds (s : State) (c : ChanId) : State :=
  match s.chan c with
  | some b => if b.phase = .holdoff && Timer.due b.holdoff then s.sendBlock c { b with phase := .send, holdoff := none } else s
  | none => s

/-- The completion of a VERIFY, if one is under way (R105). -/
def State.verifyEnds (s : State) (c : ChanId) : State :=
  match s.chan c with
  | some b => if b.phase = .verify then s.verifyDone c b else s
  | none => s

/-- What an event of the part itself does with the supply present (log entry 7). -/
def internalEvent : Instr → Option (State → State)
  | .clockTick => some State.tick
  | .commitPassComplete n => some fun s => s.passEnds n
  | .saveComplete sum => some fun s => s.saveEnds sum
  | .acquireExpiry n => some fun s =>
      if (s.node n).state = .unknown && Timer.due (s.node n).acquire then s.acquireExpired n else s
  | .lapseExpiry n => some fun s => if Timer.due (s.node n).lapse then s.lapseExpired n else s
  | .stableExpiry n => some fun s =>
      if Timer.due (s.node n).stable then s.modNode n fun r => { r with attempts := 0, stable := none } else s
  | .pulseExpiry n => some fun s =>
      if (s.node n).state = .reset && Timer.due (s.node n).pulse then s.enterBoot n else s
  | .bootExpiry n => some fun s => if (s.node n).state = .boot && Timer.due (s.node n).boot then s.bootExpired n else s
  | .settleExpiry n => some fun s =>
      if (s.node n).state = .settling && Timer.due (s.node n).settle then s.failedAfterHello n else s
  | .answerTimerExpiry n => some fun s => if Timer.due (s.exchange n).answer then s.unanswered n else s
  | .holdoffExpiry c => some fun s => s.holdoffEnds c
  | .verifyComplete c => some fun s => s.verifyEnds c
  | .takeoverPointReached g => some fun s =>
      if (s.group g).state.inHold && pointReached (s.group g).point s.clock.ms && !(s.group g).pointTaken then
        (s.modGroup g fun r => { r with pointTaken := true }).seekUndeclined g
      else s
  | .deadlineReached g => some fun s =>
      if (s.group g).state = .held && pointReached (s.group g).deadline s.clock.ms then
        (s.modGroup g fun r => { r with state := .unserved }).raise .unserved
      else s
  | .storageDisturbance b w d => some fun s => s.disturb (wordAddr b w) d
  | _ => none

theorem exec_internal {c : Instr} {f : State → State} (h : internalEvent c = some f) (s : State) :
    exec c s = .next (s.whenPowered f) := by
  cases c <;> cases h <;> rfl

/-- With the supply present an internal event has its effect. -/
theorem exec_of_powered {c : Instr} {f : State → State} {s : State} (h : internalEvent c = some f)
    (powered : s.powered = true) : exec c s = .next (f s) :=
  (exec_internal h s).trans (congrArg Host.Outcome.next (State.whenPowered_of_powered s f powered))

/-- R5, R9, R11, R77, R169: what power-on reset leaves. -/
def State.powerOnReset (s : State) : State :=
  State.resetBlocks
    { s.loadImage s.array.load.1 with store := .empty, clock := ⟨0#32, 0, 0#32⟩, saving := none, powered := true }
    s.array.load.2

theorem exec_powerOnReset (s : State) : exec .powerOnReset s = .next s.powerOnReset := rfl

/-- R170: what the loss of the supply leaves. -/
def State.losesSupply (s : State) : State :=
  { (if s.saving.isSome then s.endRequest .supervisor else s) with powered := false, saving := none }

theorem exec_supplyLoss (s : State) : exec .supplyLoss s = .next s.losesSupply := rfl

/-! ### What every command keeps -/

/-- The link interface accepts no frames but those that pass the checks of R159. -/
theorem State.passes_of_judge {s : State} {k : Kind} {l : Link} {p : List Byte} (h : s.judge k l p = .accepted) :
    s.passes k l p := by
  obtain ⟨receiving, h⟩ := (s.judge_accepted_iff k l p).1 h
  exact ⟨by simpa [State.receiving] using receiving, h⟩

/-- What an intact or damaged frame may do, what the events of the part do, and what its surroundings do: if each keeps a property of
the state, every command does. -/
theorem exec_keeps {P : State → Prop} {c : Instr} {s t : State} (h : exec c s = .next t) (kept : P s)
    (sent : ∀ l f, P (s.send l f)) (damaged : ∀ l, P (s.discardFrame l))
    (frame : ∀ k l p, s.passes k l p → P (frameOwner k l p s))
    (event : ∀ f, internalEvent c = some f → s.powered = true → P (f s))
    (level : ∀ b, P { s with resetAsserted := b }) (powerOn : P s.powerOnReset)
    (pin : P { s with resetAsserted := false }.pinReset) (loss : P s.losesSupply) : P t := by
  cases hf : frameOf c with
  | some f =>
    obtain ⟨k, l, p⟩ := f
    obtain rfl := Host.Outcome.next.inj ((exec_frame hf s).symm.trans h)
    cases hj : s.judge k l p with
    | lost | ignored => simpa [State.receive, hj] using kept
    | damaged => simpa [State.receive, hj] using damaged l
    | refused r => simpa [State.receive, hj, State.reply] using sent l (.reply k.code r .none)
    | accepted =>
      rw [State.receive_accepted _ _ _ _ _ hj]
      exact frame k l p (State.passes_of_judge hj)
  | none =>
    cases hi : internalEvent c with
    | some f =>
      obtain rfl := Host.Outcome.next.inj ((exec_internal hi s).symm.trans h)
      unfold State.whenPowered
      split
      · exact event f hi ‹_›
      · exact kept
    | none =>
      match c, h with
      | .powerOnReset, rfl => exact powerOn
      | .resetAssert, rfl => exact level true
      | .pinReset, rfl => exact State.whenPowered_keeps _ State.pinReset (level false) pin
      | .frameDamaged l, rfl => split; exacts [damaged l, kept]
      | .badKindFrame l k, rfl => unfold State.badKind; split; exacts [kept, sent l _]
      | .supplyLoss, rfl => exact loss

end Sys2Proof.Machine

/-! PROOF. What the events of the part and the owners of frames leave unchanged, command by command. -/

namespace Sys2Proof.Machine

@[simp] theorem State.passEnds_frame (s : State) (n : NodeId) :
    (s.passEnds n).groups = s.groups ∧ (s.passEnds n).exchanges = s.exchanges ∧ (s.passEnds n).queue = s.queue
      ∧ (s.passEnds n).channels = s.channels ∧ (s.passEnds n).monitor = s.monitor ∧ (s.passEnds n).alerts = s.alerts
      ∧ (s.passEnds n).active = s.active ∧ (s.passEnds n).staged = s.staged ∧ (s.passEnds n).array = s.array
      ∧ (s.passEnds n).saving = s.saving ∧ (s.passEnds n).clock = s.clock
      ∧ (s.passEnds n).resetAsserted = s.resetAsserted ∧ (s.passEnds n).powered = s.powered
      ∧ (s.passEnds n).pending = s.pending ∧ (s.passEnds n).port .supervisor = s.port .supervisor
      ∧ (s.passEnds n).store.pool = s.store.pool ∧ (s.passEnds n).store.gens = s.store.gens
      ∧ (∀ x, ((s.passEnds n).node x).state = (s.node x).state)
      ∧ (∀ x, ((s.passEnds n).node x).attempts = (s.node x).attempts)
      ∧ (∀ x, ((s.passEnds n).node x).channel = (s.node x).channel) := by
  unfold State.passEnds
  repeat' split
  all_goals simp

@[simp] theorem State.saveEnds_frame (s : State) (sum : Word) :
    (s.saveEnds sum).nodes = s.nodes ∧ (s.saveEnds sum).groups = s.groups
      ∧ (s.saveEnds sum).exchanges = s.exchanges ∧ (s.saveEnds sum).store = s.store ∧ (s.saveEnds sum).queue = s.queue
      ∧ (s.saveEnds sum).channels = s.channels ∧ (s.saveEnds sum).monitor = s.monitor
      ∧ (s.saveEnds sum).alerts = s.alerts ∧ (s.saveEnds sum).active = s.active ∧ (s.saveEnds sum).staged = s.staged
      ∧ (s.saveEnds sum).clock = s.clock ∧ (s.saveEnds sum).resetAsserted = s.resetAsserted
      ∧ (s.saveEnds sum).powered = s.powered ∧ (s.saveEnds sum).pending = s.pending := by
  unfold State.saveEnds
  split <;> simp

@[simp] theorem State.holdoffEnds_frame (s : State) (c : ChanId) :
    (s.holdoffEnds c).groups = s.groups ∧ (s.holdoffEnds c).monitor = s.monitor ∧ (s.holdoffEnds c).active = s.active
      ∧ (s.holdoffEnds c).staged = s.staged ∧ (s.holdoffEnds c).array = s.array ∧ (s.holdoffEnds c).saving = s.saving
      ∧ (s.holdoffEnds c).clock = s.clock ∧ (s.holdoffEnds c).resetAsserted = s.resetAsserted
      ∧ (s.holdoffEnds c).powered = s.powered ∧ (s.holdoffEnds c).pending = s.pending
      ∧ (s.holdoffEnds c).store.pool = s.store.pool ∧ (s.holdoffEnds c).store.gens = s.store.gens := by
  unfold State.holdoffEnds
  repeat' split
  all_goals simp

@[simp] theorem State.verifyEnds_frame (s : State) (c : ChanId) :
    (s.verifyEnds c).groups = s.groups ∧ (s.verifyEnds c).monitor = s.monitor ∧ (s.verifyEnds c).active = s.active
      ∧ (s.verifyEnds c).staged = s.staged ∧ (s.verifyEnds c).array = s.array ∧ (s.verifyEnds c).saving = s.saving
      ∧ (s.verifyEnds c).clock = s.clock ∧ (s.verifyEnds c).resetAsserted = s.resetAsserted
      ∧ (s.verifyEnds c).powered = s.powered ∧ (s.verifyEnds c).pending = s.pending
      ∧ (s.verifyEnds c).store.pool = s.store.pool ∧ (s.verifyEnds c).store.gens = s.store.gens := by
  unfold State.verifyEnds
  repeat' split
  all_goals simp

/-- No event of the part itself bears on the plans, the monitor channels, the RESET input, the supply or the waiting commands. -/
theorem internalEvent_frame {c : Instr} {f : State → State} (h : internalEvent c = some f) (s : State) :
    (f s).monitor = s.monitor ∧ (f s).active = s.active ∧ (f s).staged = s.staged
      ∧ (f s).resetAsserted = s.resetAsserted ∧ (f s).powered = s.powered ∧ (f s).pending = s.pending := by
  cases c <;> cases h
  all_goals (beta_reduce; repeat' split) <;> simp

end Sys2Proof.Machine

/-! PROOF. The basic updates of which the owners of frames and the events of the part are composed, so that what every basic update
keeps is kept by all of them. -/

namespace Sys2Proof.Machine

/-- State t is made from s by basic updates: of one record or field of a block, of the frames formed for a link, of a node link's
request in progress, and of the store by R58, R60, R61, R66, R72, R73, R86 and R88. -/
inductive State.updates (s : State) : State → Prop
  | refl : s.updates s
  | node {t : State} (h : s.updates t) (n : NodeId) (r : NodeRec) : s.updates (t.setNode n r)
  | group {t : State} (h : s.updates t) (g : GroupId) (r : GroupRec) : s.updates (t.setGroup g r)
  | chan {t : State} (h : s.updates t) (c : ChanId) (b : Option Binding) : s.updates (t.setChan c b)
  | exchange {t : State} (h : s.updates t) (n : NodeId) (e : ExchangeSlot) : s.updates (t.setExchange n e)
  | queue {t : State} (h : s.updates t) (q : List NodeId) : s.updates (t.setQueue q)
  | monitor {t : State} (h : s.updates t) (c : Fin 16) (m : MonChannel) : s.updates (t.setMonitor c m)
  | alerts {t : State} (h : s.updates t) (a : Alerts) : s.updates { t with alerts := a }
  | plans {t : State} (h : s.updates t) (active staged : Plan) (nodes : PerNode NodeRec) :
      s.updates { t with active := active, staged := staged, nodes := nodes }
  | send {t : State} (h : s.updates t) (l : Link) (f : Frame) : s.updates (t.send l f)
  | request {t : State} (h : s.updates t) (n : NodeId) (k : Option Kind) :
      s.updates (t.modPort (.node n) fun p => { p with inProgress := k })
  | removeRecord {t : State} (h : s.updates t) (i : Slot) : s.updates (t.removeRecord i)
  | pins {t : State} (h : s.updates t) (p : Slot → Record → Bool) (b : Bool) : s.updates (t.setStore (t.store.markPins p b))
  | takeHead {t : State} (h : s.updates t) (i : Slot) (ws : List Word) : s.updates (t.setStore (t.store.takeHead i ws))
  | place {t : State} (h : s.updates t) {i : Slot} (free : t.store.dir[i] = none) (n : NodeId) (gens : PerNode Word)
      (g : Word) (k : RecKind) (declared : Nat) :
      s.updates (t.setStore { t.store with gens := gens, dir := t.store.dir.set i (some (newRecord n g k declared)) })
  | status {t : State} (h : s.updates t) (i : Slot) (st : RecStatus) :
      s.updates (t.modRecord i fun q => { q with status := st })
  | peek {t : State} (h : s.updates t) (c : Option Cursor) : s.updates (t.setPeek c)

namespace State.updates

variable {s t : State}

/-! ### Shared operations -/

theorem modNode (h : s.updates t) (n : NodeId) (f : NodeRec → NodeRec) : s.updates (t.modNode n f) := h.node n _

theorem modGroup (h : s.updates t) (g : GroupId) (f : GroupRec → GroupRec) : s.updates (t.modGroup g f) := h.group g _

theorem raise (h : s.updates t) (a : Alert) : s.updates (t.raise a) := h.alerts _

theorem reply (h : s.updates t) (l : Link) (k : Kind) (r : Result) (b : Body) : s.updates (t.reply l k r b) := h.send l _

theorem beginRequest (h : s.updates t) (n : NodeId) (k : Kind) : s.updates (t.beginRequest (.node n) k) :=
  h.request n (some k)

theorem endRequest (h : s.updates t) (n : NodeId) : s.updates (t.endRequest (.node n)) := h.request n none

theorem startExchange (h : s.updates t) (n : NodeId) (e : Exchange) : s.updates (t.startExchange n e) := h.exchange n _

theorem endExchange (h : s.updates t) (n : NodeId) : s.updates (t.endExchange n) := h.exchange n _

theorem foldl {α : Type} {f : State → α → State} (hf : ∀ u a, s.updates u → s.updates (f u a)) (h : s.updates t)
    (l : List α) : s.updates (l.foldl f t) := by
  induction l generalizing t with
  | nil => exact h
  | cons a l ih => exact ih (hf t a h)

/-! ### The store -/

theorem removeRecords (h : s.updates t) (slots : List Slot) : s.updates (t.removeRecords slots) :=
  h.foldl (fun _ i hu => hu.removeRecord i) slots

theorem trim (h : s.updates t) (n : NodeId) : s.updates (t.trim n) := by
  unfold State.trim
  repeat' split
  exacts [h.removeRecords _, h, h]

theorem reclaim (h : s.updates t) (f : Entry) : s.updates (t.reclaim f) := (h.removeRecords _).raise _

theorem allocate (h : s.updates t) (i : Slot) (ws : List Word) : s.updates (t.allocate i ws).1 := by
  unfold State.allocate
  repeat' split
  exacts [h.raise _, (h.reclaim _).takeHead i ws, h.takeHead i ws]

theorem discardDamaged (h : s.updates t) (r : Record) : s.updates (t.discardDamaged r) := h.removeRecords _

theorem pin (h : s.updates t) (slots : List Slot) : s.updates (t.pin slots) := h.pins _ _

theorem unpin (h : s.updates t) (n : NodeId) : s.updates (t.unpin n) := h.pins _ _

theorem dropForReset (h : s.updates t) (keep : NodeId → Bool) (n : NodeId) : s.updates (t.dropForReset keep n) :=
  h.removeRecords _

theorem clearPins (h : s.updates t) : s.updates (t.setStore { t.store.markPins (fun _ _ => true) false with peek := none }) :=
  (h.pins (fun _ _ => true) false).peek none

theorem storeReset (h : s.updates t) (keep : NodeId → Bool) : s.updates (t.storeReset keep) :=
  clearPins (h.foldl (fun _ n hu => hu.dropForReset keep n) NodeId.all)

/-! ### The queue and the channels -/

theorem reorderGroup (h : s.updates t) (g : GroupId) : s.updates (t.reorderGroup g) := h.queue _

theorem bindHead (h : s.updates t) (c : ChanId) : s.updates (t.bindHead c) := by
  unfold State.bindHead
  split
  · exact (((h.queue _).pin _).chan c _).modNode _ _
  · exact h

theorem arbiter (h : s.updates t) : s.updates t.arbiter := (h.bindHead .c0).bindHead .c1

theorem endData (h : s.updates t) (n : NodeId) : s.updates (t.endData n) := by
  unfold State.endData
  split
  exacts [h.endExchange n, h]

theorem unbind (h : s.updates t) (c : ChanId) : s.updates (t.unbind c) := by
  unfold State.unbind
  split
  · exact h
  · exact ((((h.unpin _).endData _).chan c none).modNode _ _).arbiter

/-! ### Groups -/

theorem sendTake (h : s.updates t) (g : GroupId) (n : NodeId) : s.updates (t.sendTake g n) :=
  ((h.send _ _).startExchange n _).modGroup g _

theorem seekTakeover (h : s.updates t) (g : GroupId) : s.updates (t.seekTakeover g) := by
  unfold State.seekTakeover
  split
  exacts [h.sendTake g _, h]

theorem seekUndeclined (h : s.updates t) (g : GroupId) : s.updates (t.seekUndeclined g) := by
  unfold State.seekUndeclined
  split
  exacts [h, h.seekTakeover g]

theorem standbyReachedRunning (h : s.updates t) (g : GroupId) : s.updates (t.standbyReachedRunning g) := by
  unfold State.standbyReachedRunning
  split
  exacts [h.seekUndeclined g, h]

theorem enterHold (h : s.updates t) (g : GroupId) (base : Word) : s.updates (t.enterHold g base) := by
  unfold State.enterHold
  dsimp only
  split
  all_goals split
  · exact ((((h.modGroup g _).raise _).raise _).reorderGroup g).seekTakeover g
  · exact ((((h.modGroup g _).raise _)).reorderGroup g).seekTakeover g
  · exact (((h.modGroup g _).raise _).raise _).reorderGroup g
  · exact ((h.modGroup g _).raise _).reorderGroup g

theorem leaveHold (h : s.updates t) (g : GroupId) (after : GroupState) : s.updates (t.leaveHold g after) :=
  (h.modGroup g _).reorderGroup g

theorem declineTake (h : s.updates t) (g : GroupId) : s.updates (t.declineTake g) := by
  have declined := h.modGroup g fun r => { r with outstanding := false, declined := true }
  unfold State.declineTake
  dsimp only
  repeat' split
  exacts [((declined.send _ _).modGroup g _).leaveHold g _, declined, declined]

theorem acceptTake (h : s.updates t) (g : GroupId) : s.updates (t.acceptTake g) := by
  have swapped := ((h.modGroup g fun r => { r with outstanding := false, duty := r.standby, standby := r.duty }).leaveHold g
    .takenOver).raise .takeover
  unfold State.acceptTake
  dsimp only
  repeat' split
  exacts [(swapped.send _ _).modGroup g _, swapped, swapped]

theorem tellRole (h : s.updates t) (g : GroupId) (n : Option NodeId) (r : Role) : s.updates (t.tellRole g n r) := by
  unfold State.tellRole
  repeat' split
  exacts [h.send _ _, h, h]

theorem assignRoles (h : s.updates t) (g : GroupId) (duty : NodeId) (standby : Option NodeId) :
    s.updates (t.assignRoles g duty standby) := (h.modGroup g _).reorderGroup g

theorem claimDuty (h : s.updates t) (g : GroupId) (n : NodeId) : s.updates (t.claimDuty g n) :=
  (h.assignRoles g n _).tellRole g _ _

theorem resolveRoles (h : s.updates t) (g : GroupId) : s.updates (t.resolveRoles g) := by
  unfold State.resolveRoles
  split
  · exact h
  · dsimp only
    repeat' split
    · exact ((h.assignRoles g _ _).tellRole g _ _).tellRole g _ _
    · exact (h.assignRoles g _ _).tellRole g _ _
    · exact (h.assignRoles g _ _).enterHold g _

theorem resolveIfKnown (h : s.updates t) (g : GroupId) : s.updates (t.resolveIfKnown g) := by
  unfold State.resolveIfKnown
  split
  exacts [h.resolveRoles g, h]

theorem noteLeftUnknown (h : s.updates t) (n : NodeId) : s.updates (t.noteLeftUnknown n) := by
  unfold State.noteLeftUnknown
  split
  exacts [h.resolveIfKnown _, h]

theorem noteAcquired (h : s.updates t) (n : NodeId) (claim : Option Role) : s.updates (t.noteAcquired n claim) := by
  unfold State.noteAcquired
  dsimp only
  repeat' split
  exacts [h, h.claimDuty _ n, h.resolveIfKnown _, h.standbyReachedRunning _, (h.send _ _).standbyReachedRunning _, h]

theorem noteLeftService (h : s.updates t) (n : NodeId) : s.updates (t.noteLeftService n) := by
  unfold State.noteLeftService
  split
  · exact h
  · dsimp only
    repeat' split
    exacts [h.enterHold _ _, h.modGroup _ _, (h.endExchange n).declineTake _, h]

theorem noteStandbyRunning (h : s.updates t) (n : NodeId) : s.updates (t.noteStandbyRunning n) := by
  unfold State.noteStandbyRunning
  repeat' split
  exacts [h.standbyReachedRunning _, h, h]

theorem noteResumed (h : s.updates t) (n : NodeId) : s.updates (t.noteResumed n) := by
  unfold State.noteResumed
  split
  · exact h
  · dsimp only
    repeat' split
    exacts [h.modGroup _ _, h, h.modGroup _ _, h.leaveHold _ _, h]

theorem reportTrip (h : s.updates t) (g : GroupId) : s.updates (t.reportTrip g) := by
  unfold State.reportTrip
  split
  exacts [((h.modGroup g _).reorderGroup g).seekTakeover g, h]

/-! ### Nodes -/

theorem dropOpenRecord (h : s.updates t) (n : NodeId) (answered : Bool) : s.updates (t.dropOpenRecord n answered) := by
  unfold State.dropOpenRecord
  repeat' split
  · exact h
  · exact ((h.removeRecord _).endRequest n).reply _ _ _ _
  · exact (h.removeRecord _).endRequest n
  · exact h.removeRecord _

theorem leaveService (h : s.updates t) (n : NodeId) (answered : Bool) : s.updates (t.leaveService n answered) :=
  (h.modNode n _).dropOpenRecord n answered

theorem enterHalted (h : s.updates t) (n : NodeId) : s.updates (t.enterHalted n) := (h.modNode n _).raise _

theorem enterBoot (h : s.updates t) (n : NodeId) : s.updates (t.enterBoot n) := by
  unfold State.enterBoot
  dsimp only
  split
  exacts [h.modNode n _, h.enterHalted n]

theorem beginRestart (h : s.updates t) (n : NodeId) (why : DriveReason) : s.updates (t.beginRestart n why) := by
  unfold State.beginRestart
  dsimp only
  split
  exacts [(h.modNode n _).modNode n _, (h.modNode n _).enterBoot n]

theorem restartFromService (h : s.updates t) (n : NodeId) (why : DriveReason) : s.updates (t.restartFromService n why) :=
  ((h.leaveService n true).beginRestart n why).noteLeftService n

theorem lapseNode (h : s.updates t) (n : NodeId) : s.updates (t.lapseNode n) := (h.raise _).restartFromService n _

theorem failedAfterHello (h : s.updates t) (n : NodeId) : s.updates (t.failedAfterHello n) := h.beginRestart n _

theorem enterSettling (h : s.updates t) (n : NodeId) (m : SettleMark) : s.updates (t.enterSettling n m) := by
  unfold State.enterSettling
  exact h.modNode n _

theorem takeHello (h : s.updates t) (n : NodeId) (p : List Byte) : s.updates (t.takeHello n p) := by
  unfold State.takeHello
  exact h.modNode n _

theorem giveVerdict (h : s.updates t) (n : NodeId) : s.updates (t.giveVerdict n) := by
  unfold State.giveVerdict
  dsimp only
  split
  exacts [(h.reply _ _ _ _).modNode n _, ((h.reply _ _ _ _).enterSettling n _).raise _]

theorem queueIfWarm (h : s.updates t) (n : NodeId) : s.updates (t.queueIfWarm n) := by
  unfold State.queueIfWarm
  split
  exacts [(h.queue _).arbiter, h]

theorem silentAbort (h : s.updates t) (n : NodeId) : s.updates (t.silentAbort n) := by
  unfold State.silentAbort
  split
  exacts [h.unbind _, h]

theorem endForHello (h : s.updates t) (n : NodeId) : s.updates (t.endForHello n) := by
  unfold State.endForHello
  split
  exacts [h.leaveService n _, h.leaveService n _, h.queue _, h.silentAbort n, h, h, h, h, h, h]

theorem unannounced (h : s.updates t) (n : NodeId) (p : List Byte) : s.updates (t.unannounced n p) := by
  have taken := (h.endForHello n).takeHello n p
  unfold State.unannounced
  dsimp only
  split
  all_goals split
  · exact (((taken.modNode n _).giveVerdict n).noteLeftService n).queueIfWarm n
  · exact (((taken.enterHalted n).reply _ _ _ _).noteLeftService n).queueIfWarm n
  · exact ((taken.modNode n _).giveVerdict n).queueIfWarm n
  · exact ((taken.enterHalted n).reply _ _ _ _).queueIfWarm n

theorem helloTaken (h : s.updates t) (n : NodeId) (p : List Byte) : s.updates (t.helloTaken n p) := by
  unfold State.helloTaken
  split
  case h_1 => exact (((h.takeHello n p).giveVerdict n).noteLeftUnknown n).queueIfWarm n
  case h_2 => exact ((h.takeHello n p).giveVerdict n).queueIfWarm n
  case h_8 | h_9 | h_10 => exact h.reply _ _ _ _
  all_goals exact h.unannounced n p

theorem abortForHalt (h : s.updates t) (n : NodeId) : s.updates (t.abortForHalt n) := by
  unfold State.abortForHalt
  repeat' split
  exacts [h, (h.send _ _).unbind _, h]

theorem endForHalt (h : s.updates t) (n : NodeId) : s.updates (t.endForHalt n) := by
  unfold State.endForHalt
  split
  exacts [h.leaveService n _, h.leaveService n _, h.queue _, h.abortForHalt n, h, h, h, h, h, h]

theorem haltNode (h : s.updates t) (n : NodeId) : s.updates (t.haltNode n) := by
  have halted := ((h.endForHalt n).enterHalted n).reply .supervisor .halt .ok .none
  unfold State.haltNode
  dsimp only
  split
  exacts [halted.noteLeftService n, halted.noteLeftService n, halted.noteLeftUnknown n, halted]

/-! ### Restores -/

theorem secondCold (h : s.updates t) (c : ChanId) (b : Binding) (why : ColdReason) : s.updates (t.secondCold c b why) :=
  (((h.send _ _).unbind c).enterSettling _ _).raise _

theorem abortRestore (h : s.updates t) (c : ChanId) (b : Binding) (st : DoneStatus) : s.updates (t.abortRestore c b st) :=
  ((h.send _ _).unbind c).failedAfterHello _

theorem finishRestore (h : s.updates t) (c : ChanId) (b : Binding) : s.updates (t.finishRestore c b) :=
  ((h.send _ _).unbind c).enterSettling _ _

theorem fallBack (h : s.updates t) (c : ChanId) (b : Binding) (k : Nat) (r : Record) : s.updates (t.fallBack c b k r) := by
  have discarded := (h.discardDamaged r).raise .damaged
  unfold State.fallBack
  dsimp only
  repeat' split
  · exact discarded.chan c _
  · exact discarded.secondCold c b _
  · exact (discarded.pin _).chan c _
  · exact discarded.secondCold c b _

theorem sendBlock (h : s.updates t) (c : ChanId) (b : Binding) : s.updates (t.sendBlock c b) := by
  unfold State.sendBlock
  split
  · exact h.chan c _
  · dsimp only
    split
    · exact ((h.send _ _).startExchange _ _).chan c _
    · exact (h.send _ _).fallBack c b _ _

theorem advance (h : s.updates t) (c : ChanId) (b : Binding) : s.updates (t.advance c b) := by
  unfold State.advance
  dsimp only
  repeat' split
  exacts [h.finishRestore c _, h.sendBlock c _, h.sendBlock c _, h.finishRestore c _]

theorem crcBad (h : s.updates t) (c : ChanId) (b : Binding) : s.updates (t.crcBad c b) := by
  unfold State.crcBad
  split
  exacts [h.abortRestore c b _, h.sendBlock c _]

theorem notReady (h : s.updates t) (c : ChanId) (b : Binding) : s.updates (t.notReady c b) := by
  unfold State.notReady
  split
  exacts [h.chan c _, h.abortRestore c b _]

theorem ackTaken (h : s.updates t) (n : NodeId) (p : List Byte) : s.updates (t.ackTaken n p) := by
  unfold State.ackTaken
  dsimp only
  repeat' split
  · exact h.endExchange n
  · exact h.endExchange n
  · exact (h.endExchange n).advance _ _
  · exact (h.endExchange n).crcBad _ _
  · exact (h.endExchange n).notReady _ _
  · exact h

theorem verifyDone (h : s.updates t) (c : ChanId) (b : Binding) : s.updates (t.verifyDone c b) := by
  unfold State.verifyDone
  repeat' split
  exacts [h.sendBlock c _, h.fallBack c b _ _, h]

theorem dataUnanswered (h : s.updates t) (n : NodeId) : s.updates (t.dataUnanswered n) := by
  unfold State.dataUnanswered
  repeat' split
  exacts [h, h.abortRestore _ _ _, h]

/-! ### The condition monitor -/

theorem tripChannel (h : s.updates t) (c : Fin 16) (m : MonChannel) : s.updates (t.tripChannel c m) := by
  unfold State.tripChannel
  dsimp only
  split
  exacts [((h.monitor c _).raise _).reportTrip _, (h.monitor c _).raise _]

theorem countReading (h : s.updates t) (c : Fin 16) (m : MonChannel) (v : Nat) : s.updates (t.countReading c m v) := by
  unfold State.countReading
  repeat' split
  exacts [h.tripChannel c m, h.monitor c _, h.monitor c _]

theorem takeReading (h : s.updates t) (r : Nat × Nat) : s.updates (t.takeReading r) := by
  unfold State.takeReading State.comparatorReading State.twoTimesReading
  dsimp only
  repeat' split
  exacts [h, h, h, h.raise _, h.monitor _ _, h, h.countReading _ _ _, (h.monitor _ _).raise _, h, h.countReading _ _ _]

theorem takeReadings (h : s.updates t) (rs : List (Nat × Nat)) : s.updates (t.takeReadings rs) :=
  h.foldl (fun _ r hu => hu.takeReading r) rs

theorem limitTaken (h : s.updates t) (p : List Byte) : s.updates (t.limitTaken p) := by
  unfold State.limitTaken
  split
  exacts [(h.monitor _ _).reply _ _ _ _, h.reply _ _ _ _]

/-! ### The plan unit -/

theorem uproot (h : s.updates t) (n : NodeId) : s.updates (t.uproot n) := by
  unfold State.uproot
  dsimp only
  split
  exacts [(h.leaveService n true).removeRecords _, h.removeRecords _]

theorem forgetTake (h : s.updates t) (g : GroupId) : s.updates (t.forgetTake g) := by
  unfold State.forgetTake
  repeat' split
  exacts [h.endExchange _, h, h]

theorem regroup (h : s.updates t) (g : GroupId) : s.updates (t.regroup g) :=
  ((((h.forgetTake g).foldl (fun _ _ hu => hu.modNode _ _) _).group g _)).resolveIfKnown g

theorem activate (h : s.updates t) : s.updates t.activate :=
  ((h.foldl (fun _ n hu => hu.uproot n) _).plans _ _ _).foldl (fun _ g hu => hu.regroup g) _

theorem applyTaken (h : s.updates t) : s.updates t.applyTaken := by
  unfold State.applyTaken
  repeat' split
  exacts [h.reply _ _ _ _, h.reply _ _ _ _, h.activate.reply _ _ _ _]

end State.updates

end Sys2Proof.Machine

/-! PROOF. The owners of frames and the events of the part as basic updates. -/

namespace Sys2Proof.Machine

/-- The slot that R61 gives to a record is free. -/
theorem Store.dir_of_freeSlot {st : Store} {i : Slot} (h : st.freeSlot = some i) : st.dir[i] = none := by
  simpa using List.find?_some h

namespace State.updates

variable {s t : State}

/-! ### Frames of a node -/

theorem noteBeat (h : s.updates t) (n : NodeId) : s.updates (t.noteBeat n) := h.modNode n _

theorem beatTaken (h : s.updates t) (n : NodeId) (p : List Byte) : s.updates (t.beatTaken n p) := by
  unfold State.beatTaken
  dsimp only
  split
  case h_3 => exact ((((h.noteBeat n).modNode n _).takeReadings _).noteAcquired n _)
  case h_4 | h_5 => exact ((h.noteBeat n).modNode n _).takeReadings _
  case h_1 | h_2 => exact h
  all_goals exact (h.noteBeat n).takeReadings _

theorem quietTaken (h : s.updates t) (n : NodeId) : s.updates (t.quietTaken n) := by
  unfold State.quietTaken
  repeat' split
  exacts [h.reply _ _ _ _, (h.modNode n _).reply _ _ _ _, h.reply _ _ _ _, h.reply _ _ _ _]

theorem awakeTaken (h : s.updates t) (n : NodeId) : s.updates (t.awakeTaken n) := by
  unfold State.awakeTaken
  split
  exacts [((h.modNode n _).reply _ _ _ _).noteStandbyRunning n, h.reply _ _ _ _]

theorem askRestartTaken (h : s.updates t) (n : NodeId) : s.updates (t.askRestartTaken n) := by
  unfold State.askRestartTaken
  repeat' split
  exacts [(h.reply _ _ _ _).restartFromService n _, h.reply _ _ _ _, h.reply _ _ _ _]

theorem resumedTaken (h : s.updates t) (n : NodeId) : s.updates (t.resumedTaken n) := by
  unfold State.resumedTaken
  dsimp only
  split
  exacts [(((h.modNode n _).noteResumed n).reply _ _ _ _).noteStandbyRunning n, h.reply _ _ _ _]

theorem takenTaken (h : s.updates t) (n : NodeId) (p : List Byte) : s.updates (t.takenTaken n p) := by
  unfold State.takenTaken
  dsimp only
  repeat' split
  exacts [(h.endExchange n).acceptTake _, (h.endExchange n).declineTake _, h, h]

/-! ### Uploads -/

theorem placeRecord (h : s.updates t) {i : Slot} (free : t.store.dir[i] = none) (n : NodeId) (k : RecKind) (declared : Nat) :
    s.updates (t.placeRecord n i k declared) := by
  unfold State.placeRecord
  exact (h.place free n _ _ k declared).modNode n _

theorem openTaken (h : s.updates t) (n : NodeId) (p : List Byte) : s.updates (t.openTaken n p) := by
  unfold State.openTaken
  dsimp only
  repeat' split
  all_goals try exact h.reply _ _ _ _
  next free => exact (h.placeRecord (Store.dir_of_freeSlot free) n _ _).reply _ _ _ _

theorem blockTaken (h : s.updates t) (n : NodeId) (p : List Byte) : s.updates (t.blockTaken n p) := by
  unfold State.blockTaken
  dsimp only
  repeat' split
  exacts [h.reply _ _ _ _, h.reply _ _ _ _, h.reply _ _ _ _, (h.allocate _ _).reply _ _ _ _, (h.allocate _ _).reply _ _ _ _]

theorem commitTaken (h : s.updates t) (n : NodeId) (p : List Byte) : s.updates (t.commitTaken n p) := by
  unfold State.commitTaken
  repeat' split
  exacts [h.reply _ _ _ _, h.reply _ _ _ _, (h.status _ _).beginRequest n _]

theorem dropTaken (h : s.updates t) (n : NodeId) : s.updates (t.dropTaken n) := by
  unfold State.dropTaken
  split
  exacts [h.reply _ _ _ _, (h.removeRecord _).reply _ _ _ _]

theorem commitRecord (h : s.updates t) (n : NodeId) (i : Slot) (check : Word) : s.updates (t.commitRecord n i check) :=
  ((h.status i _).modNode n _).trim n

theorem passDone (h : s.updates t) (n : NodeId) (i : Slot) (r : Record) (expected : Word) (seen : SeenWords) :
    s.updates (t.passDone n i r expected seen) := by
  unfold State.passDone
  dsimp only
  repeat' split
  · exact ((h.removeRecord i).endRequest n).reply _ _ _ _
  · exact ((h.commitRecord n i expected).endRequest n).reply _ _ _ _
  · exact ((h.removeRecord i).endRequest n).reply _ _ _ _

theorem passEnds (h : s.updates t) (n : NodeId) : s.updates (t.passEnds n) := by
  unfold State.passEnds
  repeat' split
  exacts [h, h, h.passDone n _ _ _ _, h, h]

/-! ### Supervisory requests -/

theorem peekAtTaken (h : s.updates t) (p : List Byte) : s.updates (t.peekAtTaken p) := by
  unfold State.peekAtTaken State.answer
  dsimp only
  repeat' split
  exacts [h.reply _ _ _ _, h.reply _ _ _ _, h.reply _ _ _ _, h.reply _ _ _ _, (h.peek _).reply _ _ _ _]

theorem peekNextTaken (h : s.updates t) : s.updates t.peekNextTaken := by
  unfold State.peekNextTaken State.peekRead State.answer
  dsimp only
  repeat' split
  exacts [h.reply _ _ _ _, h.reply _ _ _ _, (h.peek _).reply _ _ _ _, (h.peek _).reply _ _ _ _]

theorem restartNode (h : s.updates t) (n : NodeId) (force : Bool) : s.updates (t.restartNode n force) := by
  unfold State.restartNode
  split
  all_goals try split
  case h_1.isTrue | h_2.isTrue => exact (h.reply _ _ _ _).restartFromService n _
  case h_3.isTrue => exact (h.reply _ _ _ _).beginRestart n _
  all_goals exact h.reply _ _ _ _

theorem restartTaken (h : s.updates t) (p : List Byte) : s.updates (t.restartTaken p) := by
  unfold State.restartTaken
  repeat' split
  exacts [h.restartNode _ _, h.reply _ _ _ _, h.reply _ _ _ _]

theorem haltTaken (h : s.updates t) (p : List Byte) : s.updates (t.haltTaken p) := by
  unfold State.haltTaken State.aboutNode
  dsimp only
  repeat' split
  exacts [h.reply _ _ _ _, h.reply _ _ _ _, h.haltNode _, h.reply _ _ _ _]

theorem releaseTaken (h : s.updates t) (p : List Byte) : s.updates (t.releaseTaken p) := by
  unfold State.releaseTaken State.aboutNode
  dsimp only
  repeat' split
  exacts [h.reply _ _ _ _, ((h.reply _ _ _ _).modNode _ _).beginRestart _ _, h.reply _ _ _ _, h.reply _ _ _ _]

theorem maskTaken (h : s.updates t) (p : List Byte) : s.updates (t.maskTaken p) := by
  unfold State.maskTaken
  split
  exacts [h.reply _ _ _ _, (h.reply _ _ _ _).alerts _]

theorem setTaken (h : s.updates t) (p : List Byte) : s.updates (t.setTaken p) := by
  unfold State.setTaken
  split
  exacts [h.reply _ _ _ _, (h.reply _ _ _ _).plans _ _ _]

/-! ### Every frame and every event of the part -/

/-- Every owner but those of SAVE and RESYNC makes basic updates only. -/
theorem frameOwner {k : Kind} (notSave : k ≠ .save) (notResync : k ≠ .resync) (h : s.updates t) (l : Link) (p : List Byte) :
    s.updates (frameOwner k l p t) := by
  cases k with
  | save => contradiction
  | resync => contradiction
  | readNode => unfold Machine.frameOwner State.readNodeTaken; split <;> exact h.reply _ _ _ _
  | readGroup => unfold Machine.frameOwner State.readGroupTaken; split <;> exact h.reply _ _ _ _
  | readStore => exact h.reply _ _ _ _
  | readAlerts => exact (h.reply _ _ _ _).alerts _
  | peekAt => exact h.peekAtTaken p
  | peekNext => exact h.peekNextTaken
  | restart => exact h.restartTaken p
  | halt => exact h.haltTaken p
  | release => exact h.releaseTaken p
  | limit => exact h.limitTaken p
  | mask => exact h.maskTaken p
  | set => exact h.setTaken p
  | apply => exact h.applyTaken
  | hello => cases l; exacts [h, h.helloTaken _ p]
  | beat => cases l; exacts [h, h.beatTaken _ p]
  | quiet => cases l; exacts [h, h.quietTaken _]
  | awake => cases l; exacts [h, h.awakeTaken _]
  | askRestart => cases l; exacts [h, h.askRestartTaken _]
  | resumed => cases l; exacts [h, h.resumedTaken _]
  | who => cases l; exacts [h, h.reply _ _ _ _]
  | openRecord => cases l; exacts [h, h.openTaken _ p]
  | block => cases l; exacts [h, h.blockTaken _ p]
  | commit => cases l; exacts [h, h.commitTaken _ p]
  | drop => cases l; exacts [h, h.dropTaken _]
  | ack => cases l; exacts [h, h.ackTaken _ p]
  | taken => cases l; exacts [h, h.takenTaken _ p]

/-- An event acts only when it is due. -/
theorem onlyIf {c : Prop} [Decidable c] {u : State} (h : s.updates t) (hu : s.updates u) :
    s.updates (if c then u else t) := by
  split
  exacts [hu, h]

theorem lapseExpired (h : s.updates t) (n : NodeId) : s.updates (t.lapseExpired n) := by
  unfold State.lapseExpired State.nudge
  dsimp only
  split
  · exact h.lapseNode n
  · exact ((h.send _ _).modNode n _).onlyIf (h.lapseNode n)
  all_goals exact h

theorem unanswered (h : s.updates t) (n : NodeId) : s.updates (t.unanswered n) := by
  unfold State.unanswered
  split
  exacts [h.endExchange n, (h.endExchange n).dataUnanswered n, (h.endExchange n).declineTake _]

theorem holdoffEnds (h : s.updates t) (c : ChanId) : s.updates (t.holdoffEnds c) := by
  unfold State.holdoffEnds
  split
  exacts [h.onlyIf (h.sendBlock c _), h]

theorem verifyEnds (h : s.updates t) (c : ChanId) : s.updates (t.verifyEnds c) := by
  unfold State.verifyEnds
  split
  exacts [h.onlyIf (h.verifyDone c _), h]

/-- Every event of the part itself but an advance of the clock, the completion of a SAVE and a disturbance makes basic updates
only. -/
theorem internalEvent {c : Instr} {f : State → State} (hc : internalEvent c = some f) (notTick : c ≠ .clockTick)
    (notSave : ∀ sum, c ≠ .saveComplete sum) (notDisturbance : ∀ b w d, c ≠ .storageDisturbance b w d) (h : s.updates t) :
    s.updates (f t) := by
  cases c <;> cases hc
  case clockTick => contradiction
  case saveComplete sum => exact absurd rfl (notSave sum)
  case storageDisturbance b w d => exact absurd rfl (notDisturbance b w d)
  case commitPassComplete n => exact h.passEnds n
  case acquireExpiry n => exact h.onlyIf (((h.raise _).beginRestart n _).noteLeftUnknown n)
  case lapseExpiry n => exact h.onlyIf (h.lapseExpired n)
  case stableExpiry n => exact h.onlyIf (h.modNode n _)
  case pulseExpiry n => exact h.onlyIf (h.enterBoot n)
  case bootExpiry n => exact h.onlyIf (h.beginRestart n _)
  case settleExpiry n => exact h.onlyIf (h.failedAfterHello n)
  case answerTimerExpiry n => exact h.onlyIf (h.unanswered n)
  case holdoffExpiry c => exact h.holdoffEnds c
  case verifyComplete c => exact h.verifyEnds c
  case takeoverPointReached g => exact h.onlyIf ((h.modGroup g _).seekUndeclined g)
  case deadlineReached g => exact h.onlyIf ((h.modGroup g _).raise _)

end State.updates

end Sys2Proof.Machine

/-! PROOF. The laws of plans, settings, counts, SAVE and attempts (O60), and the commands that wait (O1, O2). -/

namespace Sys2Proof.Machine

/-! ### What basic updates keep -/

namespace State.updates

variable {s t : State}

/-- A slot removed frees its blocks and touches the open record field of one node; the setup and the links are kept. -/
theorem setup (h : s.updates t) : t.array = s.array ∧ t.saving = s.saving ∧ t.clock = s.clock
    ∧ t.resetAsserted = s.resetAsserted ∧ t.powered = s.powered ∧ t.pending = s.pending := by
  induction h with
  | refl => simp
  | _ => simp_all

/-- Basic updates leave the error counts and the receivers of the links, and the request in progress of link 0. -/
theorem links (h : s.updates t) : (∀ l, (t.port l).errors = (s.port l).errors ∧ (t.port l).rx = (s.port l).rx)
    ∧ (t.port .supervisor).inProgress = (s.port .supervisor).inProgress := by
  induction h with
  | refl => simp
  | @alerts t _ a ih => exact ih
  | @plans t _ active staged nodes ih => exact ih
  | @request t _ n k ih =>
    refine ⟨fun l => ?_, by simpa using ih.2⟩
    rw [State.port_modPort]
    split
    · next same => subst same; exact ih.1 _
    · exact ih.1 l
  | _ => simp_all

end State.updates

/-! ### The commands that wait -/

theorem exec_pending {c : Instr} {s t : State} (h : exec c s = .next t) : t.pending = s.pending := by
  refine exec_keeps (P := fun u => u.pending = s.pending) h rfl ?_ ?_ ?_ ?_ ?_ ?_ ?_ ?_
  · simp
  · simp
  · intro k l p _
    by_cases save : k = .save
    · subst save; simp [frameOwner]
    by_cases resync : k = .resync
    · subst resync; simp [frameOwner]
    exact (State.updates.refl.frameOwner save resync l p).setup.2.2.2.2.2
  · exact fun f hf _ => (internalEvent_frame hf s).2.2.2.2.2
  · simp
  · simp [State.powerOnReset]
  · simp
  · unfold State.losesSupply; split <;> simp

/-- No command faults, and none is refused. -/
theorem exec_answers (c : Instr) (s : State) : ∃ t, exec c s = .next t := by
  cases hf : frameOf c with
  | some f => exact ⟨_, exec_frame (k := f.1) (l := f.2.1) (p := f.2.2) hf s⟩
  | none =>
    cases hi : internalEvent c with
    | some f => exact ⟨_, exec_internal hi s⟩
    | none =>
      match c with
      | .powerOnReset | .resetAssert | .pinReset | .frameDamaged _ | .badKindFrame _ _ | .supplyLoss => exact ⟨_, rfl⟩

/-- Settles O2: no arm of `exec` faults or refuses, and no block reads or writes the waiting commands. -/
theorem everyCommandAnswersNext : Obligations.EveryCommandAnswersNext := by
  intro c s
  obtain ⟨t, h⟩ := exec_answers c s
  exact ⟨t, h, exec_pending h⟩

/-- Settles O1. -/
theorem stepTakesFrontCommand : Obligations.StepTakesFrontCommand :=
  ⟨fun _ _ _ => rfl, fun s idle => by simp [step, idle]⟩

/-- A property that does not read the waiting commands and that every command keeps, every step keeps. -/
theorem step_keeps {P : State → Prop} (waiting : ∀ s rest, P s → P { s with pending := rest })
    (command : ∀ c s t, P s → exec c s = .next t → P t) {s t : State} (hs : P s) (h : step s = .next t) : P t := by
  unfold step at h
  split at h
  · cases h; exact hs
  · exact command _ _ _ (waiting _ _ hs) h

end Sys2Proof.Machine

/-! PROOF. Plans, settings, run counters, counts, SAVE and attempts stay in their laws (O60). -/

namespace Sys2Proof.Machine

/-! ### The plans -/

theorem State.pinReset_eq (s : State) : s.pinReset =
    (({ s with saving := none }.loadImage s.array.load.1).storeReset (s.active.keeps s.array.load.1.plan)).resetBlocks
      s.array.load.2 := rfl

/-- SET and APPLY are the only frames that write a plan. -/
theorem frameOwner_plans {k : Kind} (notSet : k ≠ .set) (notApply : k ≠ .apply) (l : Link) (p : List Byte) (s : State) :
    (frameOwner k l p s).active = s.active ∧ (frameOwner k l p s).staged = s.staged := by
  cases k <;> cases l <;> simp_all [frameOwner, onNode]

theorem within_eq_some {α : Type} {lo hi v : Nat} {a b : α} (h : within lo hi v a = some b) : (lo ≤ v ∧ v ≤ hi) ∧ b = a := by
  unfold within at h
  split at h
  · exact ⟨‹_›, (Option.some.inj h).symm⟩
  · cases h

theorem NodePlan.setItem_inRange {p q : NodePlan} {item v : Nat} (hp : p.inRange = true) (h : p.setItem item v = some q) :
    q.inRange = true := by
  unfold NodePlan.setItem at h
  split at h
  case h_1 | h_2 | h_3 | h_5 => obtain ⟨_, _, rfl⟩ := Option.map_eq_some_iff.1 h; exact hp
  case h_13 => cases h
  all_goals
    obtain ⟨range, rfl⟩ := within_eq_some h
    simp_all [NodePlan.inRange]

theorem GroupPlan.setItem_inRange {p q : GroupPlan} {item v : Nat} (hp : p.inRange = true) (h : p.setItem item v = some q) :
    q.inRange = true := by
  unfold GroupPlan.setItem at h
  split at h
  case h_4 => cases h
  all_goals
    obtain ⟨range, rfl⟩ := within_eq_some h
    simp_all [GroupPlan.inRange]

theorem Plan.inRange_iff (p : Plan) : p.inRange = true ↔
    (∀ n, (p.nodes.get n).inRange = true) ∧ (∀ g, (p.groups.get g).inRange = true) ∧ 5 ≤ p.answerTime ∧ p.answerTime ≤ 255 := by
  simp [Plan.inRange, List.all_eq_true, and_assoc]

/-- R165, R166: a SET writes only values in their ranges. -/
theorem Plan.setItem_inRange {p q : Plan} {item index v : Nat} (hp : p.inRange = true)
    (h : p.setItem item index v = some q) : q.inRange = true := by
  rw [Plan.inRange_iff] at hp ⊢
  obtain ⟨nodes, groups, answer⟩ := hp
  unfold Plan.setItem at h
  repeat' split at h
  · obtain ⟨range, rfl⟩ := within_eq_some h
    exact ⟨nodes, groups, range⟩
  · cases h
  · obtain ⟨g, _, h⟩ := Option.bind_eq_some_iff.1 h
    obtain ⟨r, hr, rfl⟩ := Option.map_eq_some_iff.1 h
    refine ⟨nodes, fun k => ?_, answer⟩
    rw [PerGroup.get_set]
    split
    exacts [GroupPlan.setItem_inRange (groups g) hr, groups k]
  · obtain ⟨n, _, h⟩ := Option.bind_eq_some_iff.1 h
    obtain ⟨r, hr, rfl⟩ := Option.map_eq_some_iff.1 h
    refine ⟨fun k => ?_, groups, answer⟩
    rw [PerNode.get_set]
    split
    exacts [NodePlan.setItem_inRange (nodes n) hr, nodes k]

/-- The image as delivered is good whatever is checked of it. -/
theorem Image.delivered_checks : Image.delivered.plan.inRange = true ∧ Image.delivered.plan.firstFault = none
    ∧ ∀ k : Fin 16, (Image.delivered.settings[k]).valid = true := by
  refine ⟨by decide, by decide, fun k => ?_⟩
  simp only [Image.delivered, Fin.getElem_fin, Vector.getElem_replicate]
  decide

theorem Image.good_iff (img : Image) (check : Word) : img.good check = true ↔
    wordSum img.words + check = Config.arraySum ∧ img.plan.inRange = true ∧ (∀ k : Fin 16, (img.settings[k]).valid = true)
      ∧ img.plan.firstFault = none := by
  have settings : img.settings.toList.all MonSettings.valid = true ↔ ∀ k : Fin 16, (img.settings[k]).valid = true := by
    rw [List.all_eq_true]
    constructor
    · exact fun h k => h _ (by simp)
    · intro h m hm
      obtain ⟨i, hi, rfl⟩ := List.getElem_of_mem hm
      simpa using h ⟨i, by simpa using hi⟩
  simp only [Image.good, Bool.and_eq_true, decide_eq_true_eq, settings, Option.isNone_iff_eq_none, and_assoc]

/-- R169: a load gives a plan and settings that pass every check, whatever the array holds. -/
theorem CommArray.load_checks (a : CommArray) : a.load.1.plan.inRange = true ∧ a.load.1.plan.firstFault = none
    ∧ ∀ k : Fin 16, (a.load.1.settings[k]).valid = true := by
  cases a with
  | torn => exact Image.delivered_checks
  | image img check =>
    unfold CommArray.load
    dsimp only
    split
    · next good =>
      obtain ⟨_, range, settings, fault⟩ := (img.good_iff check).1 good
      exact ⟨range, fault, settings⟩
    · exact Image.delivered_checks

@[simp] theorem State.loadImage_plans (s : State) (img : Image) :
    (s.loadImage img).active = img.plan ∧ (s.loadImage img).staged = img.plan := ⟨rfl, rfl⟩

/-- R169: power-on reset and pin reset give both plans from the image that the load gives. -/
theorem State.powerOnReset_plans (s : State) :
    s.powerOnReset.active = s.array.load.1.plan ∧ s.powerOnReset.staged = s.array.load.1.plan := by
  simp [State.powerOnReset]

theorem State.pinReset_plans (s : State) :
    s.pinReset.active = s.array.load.1.plan ∧ s.pinReset.staged = s.array.load.1.plan := by
  simp [State.pinReset]

theorem State.losesSupply_plans (s : State) : s.losesSupply.active = s.active ∧ s.losesSupply.staged = s.staged := by
  unfold State.losesSupply
  split <;> simp

theorem State.planLaw_congr {s t : State} (law : s.planLaw) (active : t.active = s.active) (staged : t.staged = s.staged) :
    t.planLaw := by
  simpa only [State.planLaw, active, staged] using law

@[simp] theorem State.activate_active (s : State) : s.activate.active = s.staged := by
  simp [State.activate]

/-- R167: the plan that an APPLY makes active has passed the checks. -/
theorem State.planLaw_applyTaken {s : State} (law : s.planLaw) : s.applyTaken.planLaw := by
  have ⟨_, _, staged⟩ := law
  unfold State.applyTaken
  split
  · exact State.planLaw_congr law (by simp) (by simp)
  · split
    · exact State.planLaw_congr law (by simp) (by simp)
    · next fault => exact ⟨by simpa using staged, by simpa using fault, by simpa using staged⟩

theorem State.planLaw_setTaken {s : State} (law : s.planLaw) (p : List Byte) : (s.setTaken p).planLaw := by
  unfold State.setTaken
  split
  · exact State.planLaw_congr law (by simp) (by simp)
  · next item => exact ⟨by simpa using law.1, by simpa using law.2.1, Plan.setItem_inRange law.2.2 item⟩

theorem exec_planLaw {c : Instr} {s t : State} (law : s.planLaw) (h : exec c s = .next t) : t.planLaw := by
  have loaded {u : State} (plans : u.active = s.array.load.1.plan ∧ u.staged = s.array.load.1.plan) : u.planLaw := by
    obtain ⟨range, fault, _⟩ := s.array.load_checks
    exact ⟨plans.1 ▸ range, plans.1 ▸ fault, plans.2 ▸ range⟩
  refine exec_keeps h law ?_ ?_ ?frame ?_ (fun _ => law) (loaded s.powerOnReset_plans) (loaded (State.pinReset_plans _)) ?_
  case frame =>
    intro k l p _
    by_cases set : k = .set
    · subst set; exact State.planLaw_setTaken law p
    by_cases apply : k = .apply
    · subst apply; exact State.planLaw_applyTaken law
    · obtain ⟨active, staged⟩ := frameOwner_plans set apply l p s
      exact State.planLaw_congr law active staged
  · exact fun l f => State.planLaw_congr law (by simp) (by simp)
  · exact fun l => State.planLaw_congr law (by simp) (by simp)
  · intro f hf _
    obtain ⟨_, active, staged, _⟩ := internalEvent_frame hf s
    exact State.planLaw_congr law active staged
  · exact State.planLaw_congr law s.losesSupply_plans.1 s.losesSupply_plans.2

/-! ### The monitor channels -/

/-- A reading leaves a channel with valid settings and a run counter that fits its state. -/
def MonChannel.lawful (m : MonChannel) : Prop := m.settings.valid = true ∧ m.counts

theorem MonChannel.lawful_cleared {m : MonSettings} (h : m.valid = true) : (MonChannel.cleared m).lawful := ⟨h, rfl⟩

theorem MonSettings.faultCount_of_valid {m : MonSettings} (h : m.valid = true) :
    m.faultCount = 1 ∨ m.faultCount = 2 ∨ m.faultCount = 4 ∨ m.faultCount = 6 := by
  simpa [MonSettings.valid] using (Bool.and_eq_true_iff.1 h).2

/-- A write of one channel keeps the law of the channels if what is written is lawful. -/
theorem State.monitorLaw_setMonitor {s t : State} (law : s.monitorLaw) {c : Fin 16} {m : MonChannel} (hm : m.lawful)
    (h : t.monitor = s.monitor.set c m) : t.monitorLaw := by
  intro k
  rw [h]
  by_cases hk : c = k
  · subst hk; simpa [MonChannel.lawful] using hm
  · have : (s.monitor.set c m)[k] = s.monitor[k] := by
      simpa using Vector.getElem_set_ne (xs := s.monitor) c.2 k.2 (fun e => hk (Fin.ext e))
    rw [this]
    exact law k

theorem State.monitorLaw_congr {s t : State} (law : s.monitorLaw) (h : t.monitor = s.monitor) : t.monitorLaw := by
  simpa only [State.monitorLaw, h] using law

@[simp] theorem State.tripChannel_monitor (s : State) (c : Fin 16) (m : MonChannel) :
    (s.tripChannel c m).monitor = s.monitor.set c { m with state := .tripped, run := m.settings.faultCount } := by
  unfold State.tripChannel
  dsimp only
  split <;> simp

/-- R141: a reading at a channel that is not TRIPPED. -/
theorem State.monitorLaw_countReading {s : State} (law : s.monitorLaw) (c : Fin 16) {m : MonChannel} (hm : m.lawful)
    (untripped : m.state ≠ .tripped) (v : Nat) : (s.countReading c m v).monitorLaw := by
  obtain ⟨valid, counts⟩ := hm
  unfold State.countReading
  repeat' split
  · exact State.monitorLaw_setMonitor law (m := { m with state := .tripped, run := m.settings.faultCount }) ⟨valid, rfl⟩
      (s.tripChannel_monitor c m)
  · next more =>
    refine State.monitorLaw_setMonitor law (m := { m with state := .counting, run := m.run + 1 }) ⟨valid, ?_⟩ rfl
    have fault := MonSettings.faultCount_of_valid valid
    unfold MonChannel.counts at counts ⊢
    dsimp only
    cases state : m.state with
    | clear => rw [state] at counts; dsimp only at counts; omega
    | counting => rw [state] at counts; dsimp only at counts; omega
    | tripped => exact absurd state untripped
  · exact State.monitorLaw_setMonitor law (m := { m with state := .clear, run := 0 }) ⟨valid, rfl⟩ rfl

theorem State.monitorLaw_takeReading {s : State} (law : s.monitorLaw) (r : Nat × Nat) : (s.takeReading r).monitorLaw := by
  unfold State.takeReading State.comparatorReading State.twoTimesReading
  dsimp only
  split
  · exact law
  · next c _ =>
    have cleared : (s.setMonitor c { s.monitor[c] with state := .clear, run := 0 }).monitorLaw :=
      State.monitorLaw_setMonitor law (m := { s.monitor[c] with state := .clear, run := 0 }) ⟨(law c).1, rfl⟩ rfl
    repeat' split
    · exact law
    · exact law
    · exact law
    · exact cleared
    · exact law
    · next untripped => exact State.monitorLaw_countReading law c (law c) untripped _
    · exact cleared
    · exact law
    · next untripped => exact State.monitorLaw_countReading law c (law c) untripped _

theorem State.monitorLaw_takeReadings {s : State} (law : s.monitorLaw) (rs : List (Nat × Nat)) :
    (s.takeReadings rs).monitorLaw := by
  induction rs generalizing s with
  | nil => exact law
  | cons r rs ih => exact ih (State.monitorLaw_takeReading law r)

theorem State.monitorLaw_beatTaken {s : State} (law : s.monitorLaw) (n : NodeId) (p : List Byte) :
    (s.beatTaken n p).monitorLaw := by
  have readings (u : State) (h : u.monitor = s.monitor) : (u.takeReadings (readings p)).monitorLaw :=
    State.monitorLaw_takeReadings (State.monitorLaw_congr law h) _
  unfold State.beatTaken
  dsimp only
  split
  case h_1 | h_2 => exact law
  case h_3 => exact State.monitorLaw_congr (readings _ (by simp)) (State.noteAcquired_frame _ _ _).2.2.2.1
  all_goals exact readings _ (by simp)

/-- The settings that a LIMIT carries past its checks are valid. -/
theorem limitSettings_valid {p : List Byte} {m : MonSettings} (h : limitSettings p = some m) : m.valid = true := by
  simp only [limitSettings, Option.bind_eq_bind, Option.bind_eq_some_iff] at h
  obtain ⟨g, _, mode, _, e, _, h⟩ := h
  split at h
  · next valid => exact Option.some.inj h ▸ valid
  · cases h

theorem State.monitorLaw_limitTaken {s : State} (law : s.monitorLaw) (p : List Byte) : (s.limitTaken p).monitorLaw := by
  unfold State.limitTaken
  split
  · next c _ _ settings =>
    exact State.monitorLaw_setMonitor (c := c) law (MonChannel.lawful_cleared (limitSettings_valid settings)) (by simp)
  · exact State.monitorLaw_congr law (by simp)

/-- R148: a part reset clears every channel under the settings in use. -/
theorem State.monitorLaw_resetBlocks {s : State} (valid : ∀ k : Fin 16, (s.monitor[k]).settings.valid = true) (b : Bool) :
    (s.resetBlocks b).monitorLaw := by
  intro k
  have : (s.resetBlocks b).monitor[k] = .cleared (s.monitor[k]).settings := by simp [State.resetBlocks]
  rw [this]
  exact MonChannel.lawful_cleared (valid k)

/-- BEAT, LIMIT and RESYNC are the only frames that write a monitor channel. -/
theorem frameOwner_monitor {k : Kind} (notBeat : k ≠ .beat) (notLimit : k ≠ .limit) (notResync : k ≠ .resync) (l : Link)
    (p : List Byte) (s : State) : (frameOwner k l p s).monitor = s.monitor := by
  cases k <;> cases l <;> simp_all [frameOwner, onNode]

theorem loadImage_settings (s : State) (img : Image) (k : Fin 16) :
    ((s.loadImage img).monitor[k]).settings = img.settings[k] := by
  simp [State.loadImage, MonChannel.cleared]

theorem exec_monitorLaw {c : Instr} {s t : State} (law : s.monitorLaw) (h : exec c s = .next t) : t.monitorLaw := by
  obtain ⟨_, _, loaded⟩ := s.array.load_checks
  refine exec_keeps h law ?_ ?_ ?frame ?_ (fun _ => law) ?_ ?_ ?_
  case frame =>
    intro k l p _
    by_cases beat : k = .beat
    · subst beat
      cases l with
      | supervisor => exact law
      | node n => exact State.monitorLaw_beatTaken law n p
    by_cases limit : k = .limit
    · subst limit; exact State.monitorLaw_limitTaken law p
    by_cases resync : k = .resync
    · subst resync
      refine State.monitorLaw_congr (s := (s.storeReset fun _ => true).resetBlocks false) ?_
        (by simp [frameOwner, State.resyncTaken])
      exact State.monitorLaw_resetBlocks (fun k => by simpa using (law k).1) _
    · exact State.monitorLaw_congr law (frameOwner_monitor beat limit resync l p s)
  · exact fun l f => State.monitorLaw_congr law (by simp)
  · exact fun l => State.monitorLaw_congr law (by simp)
  · exact fun f hf _ => State.monitorLaw_congr law (internalEvent_frame hf s).1
  · exact State.monitorLaw_resetBlocks (fun k => by simpa only [loadImage_settings] using loaded k) _
  · rw [State.pinReset_eq]
    refine State.monitorLaw_resetBlocks (fun k => ?_) _
    simpa only [State.storeReset_frame, loadImage_settings] using loaded k
  · refine State.monitorLaw_congr law ?_
    unfold State.losesSupply
    split <;> simp

end Sys2Proof.Machine

/-! PROOF. The counts, SAVE and the attempts (O60). -/

namespace Sys2Proof.Machine

/-! ### What the three events beside the basic updates do to the links -/

@[simp] theorem State.port_tick (s : State) (l : Link) : s.tick.port l = s.port l := by
  cases l <;> simp [State.port]

/-- The SAVE under way and the array are written. -/
def State.setSaving (s : State) (saving : Option Image) (array : CommArray) : State :=
  { s with saving := saving, array := array }

@[simp] theorem State.setSaving_fields (s : State) (saving : Option Image) (array : CommArray) :
    (s.setSaving saving array).saving = saving ∧ (s.setSaving saving array).array = array
      ∧ (s.setSaving saving array).resetAsserted = s.resetAsserted
      ∧ ∀ l, (s.setSaving saving array).port l = s.port l :=
  ⟨rfl, rfl, rfl, fun l => by cases l <;> rfl⟩

theorem State.saveTaken_eq (s : State) :
    s.saveTaken = (s.beginRequest .supervisor .save).setSaving (some ⟨s.active, s.settings⟩) .torn := rfl

theorem State.saveDone_eq (s : State) (img : Image) (sum : Word) :
    s.saveDone img sum =
      if sum = Config.arraySum then
        ((s.endRequest .supervisor).setSaving none (.image img img.checkWord)).reply .supervisor .save .ok
      else ((s.endRequest .supervisor).setSaving none .torn).reply .supervisor .save .storeError := rfl

@[simp] theorem State.port_endRequest_fields (s : State) (l m : Link) :
    ((s.endRequest l).port m).errors = (s.port m).errors ∧ ((s.endRequest l).port m).rx = (s.port m).rx := by
  rw [State.endRequest, State.port_modPort]
  split <;> simp_all

@[simp] theorem State.port_beginRequest_fields (s : State) (l m : Link) (k : Kind) :
    ((s.beginRequest l k).port m).errors = (s.port m).errors ∧ ((s.beginRequest l k).port m).rx = (s.port m).rx := by
  rw [State.beginRequest, State.port_modPort]
  split <;> simp_all

theorem State.port_errors_saveDone (s : State) (img : Image) (sum : Word) (l : Link) :
    ((s.saveDone img sum).port l).errors = (s.port l).errors := by
  rw [State.saveDone_eq]
  split <;> simp

/-- R170: a SAVE that ends leaves link 0 without a request, and nothing under way. -/
theorem State.saveDone_ends (s : State) (img : Image) (sum : Word) :
    ((s.saveDone img sum).port .supervisor).inProgress = none ∧ (s.saveDone img sum).saving = none := by
  rw [State.saveDone_eq]
  split <;> simp

@[simp] theorem State.port_saveTaken (s : State) (l : Link) :
    s.saveTaken.port l = (s.beginRequest .supervisor .save).port l := by
  cases l <;> rfl

@[simp] theorem State.losesSupply_kept (s : State) :
    s.losesSupply.clock = s.clock ∧ s.losesSupply.saving = none ∧ s.losesSupply.nodes = s.nodes
      ∧ s.losesSupply.store = s.store ∧ ∀ l, s.losesSupply.port l =
        (if s.saving.isSome then s.endRequest .supervisor else s).port l := by
  unfold State.losesSupply
  refine ⟨?_, rfl, ?_, ?_, fun l => by cases l <;> rfl⟩
  all_goals split <;> simp

/-! ### The counts -/

/-- R11: the sub-second count never passes 999. -/
theorem Clock.tick_sub_le {c : Clock} (h : c.sub ≤ 999) : c.tick.sub ≤ 999 := by
  unfold Clock.tick
  split <;> dsimp only <;> omega

theorem State.countLaw_congr {s t : State} (law : s.countLaw) (clock : t.clock.sub ≤ 999)
    (errors : ∀ l, (t.port l).errors = (s.port l).errors ∨ (t.port l).errors = 0) : t.countLaw := by
  refine ⟨clock, fun l => ?_⟩
  rcases errors l with h | h
  · exact h ▸ law.2 l
  · simp [h]

/-- R158: the count of a damaged frame stays at 255. -/
theorem State.countLaw_discardFrame {s : State} (law : s.countLaw) (l : Link) : (s.discardFrame l).countLaw := by
  refine ⟨by simpa using law.1, fun m => ?_⟩
  by_cases same : m = l
  · subst same
    rw [State.port_discardFrame_self]
    exact Nat.min_le_left _ _
  · simpa [same] using law.2 m

theorem State.updates.countLaw {s t : State} (h : s.updates t) (law : s.countLaw) : t.countLaw :=
  State.countLaw_congr law (h.setup.2.2.1 ▸ law.1) fun l => .inl (h.links.1 l).1

theorem exec_countLaw {c : Instr} {s t : State} (law : s.countLaw) (h : exec c s = .next t) : t.countLaw := by
  refine exec_keeps h law ?sent (fun l => State.countLaw_discardFrame law l) ?frame ?event (fun _ => ?level) ?powerOn ?pin ?loss
  case sent => exact fun l f => (State.updates.refl.send l f).countLaw law
  case level => exact ⟨law.1, fun l => by cases l; exacts [law.2 .supervisor, law.2 (.node _)]⟩
  case powerOn => exact ⟨by simp [State.powerOnReset], fun l => by simp [State.powerOnReset]⟩
  case pin => exact State.countLaw_congr law (by simpa using law.1) fun l => .inr (by rw [State.port_pinReset]; rfl)
  case loss =>
    refine State.countLaw_congr law (by simpa using law.1) fun l => .inl ?_
    rw [s.losesSupply_kept.2.2.2.2 l]
    split <;> simp
  case frame =>
    intro k l p _
    by_cases save : k = .save
    · subst save
      exact State.countLaw_congr law (by simpa [frameOwner] using law.1) fun l => .inl (by simp [frameOwner])
    by_cases resync : k = .resync
    · subst resync
      exact State.countLaw_congr law (by simpa [frameOwner] using law.1) fun l => .inr (s.resyncTaken_errors l)
    · exact (State.updates.refl.frameOwner save resync l p).countLaw law
  case event =>
    intro f hf _
    by_cases tick : c = .clockTick
    · subst tick; cases hf
      exact State.countLaw_congr law (by simpa using Clock.tick_sub_le law.1) fun l => .inl (by simp)
    by_cases save : ∃ sum, c = .saveComplete sum
    · obtain ⟨sum, rfl⟩ := save; cases hf
      refine State.countLaw_congr law (by simpa using law.1) fun l => .inl ?_
      change ((s.saveEnds sum).port l).errors = _
      unfold State.saveEnds
      split
      exacts [rfl, State.port_errors_saveDone _ _ _ _]
    by_cases disturbance : ∃ b w d, c = .storageDisturbance b w d
    · obtain ⟨b, w, d, rfl⟩ := disturbance; cases hf
      exact State.countLaw_congr law (by simpa using law.1) fun l => .inl (by simp)
    · exact (State.updates.refl.internalEvent hf tick (not_exists.1 save)
        (fun b w d e => disturbance ⟨b, w, d, e⟩)).countLaw law

/-! ### SAVE -/

theorem State.saveLaw_congr {s t : State} (law : s.saveLaw) (saving : t.saving = s.saving) (array : t.array = s.array)
    (request : (t.port .supervisor).inProgress = (s.port .supervisor).inProgress) : t.saveLaw := by
  simpa only [State.saveLaw, saving, array, request] using law

theorem State.saveLaw_of_idle {t : State} (saving : t.saving = none) (request : (t.port .supervisor).inProgress = none) :
    t.saveLaw := by
  simp [State.saveLaw, saving, request]

theorem State.updates.saveLaw {s t : State} (h : s.updates t) (law : s.saveLaw) : t.saveLaw :=
  State.saveLaw_congr law h.setup.2.1 h.setup.1 h.links.2

/-- R170: with nothing under way link 0 owes no reply. -/
theorem State.idle_of_saveLaw {s : State} (law : s.saveLaw) (h : s.saving = none) : (s.port .supervisor).inProgress = none := by
  obtain ⟨iff, either, _⟩ := law
  refine either.resolve_right fun save => ?_
  simpa [h] using iff.1 save

theorem exec_saveLaw {c : Instr} {s t : State} (law : s.saveLaw) (h : exec c s = .next t) : t.saveLaw := by
  refine exec_keeps h law ?sent ?damaged ?frame ?event (fun _ => law) ?powerOn ?pin ?loss
  case sent => exact fun l f => (State.updates.refl.send l f).saveLaw law
  case damaged =>
    intro l
    refine State.saveLaw_congr law (by simp) (by simp) ?_
    by_cases same : .supervisor = l
    · subst same; rw [State.port_discardFrame_self]
    · simp [same]
  case powerOn => exact State.saveLaw_of_idle (by simp [State.powerOnReset]) (by simp [State.powerOnReset, Port.atReset])
  case pin => exact State.saveLaw_of_idle (by simp [State.pinReset]) (by rw [State.port_pinReset]; rfl)
  case loss =>
    refine State.saveLaw_of_idle (by simp) ?_
    rw [s.losesSupply_kept.2.2.2.2]
    split
    · simp
    · next idle => exact State.idle_of_saveLaw law (by simpa using idle)
  case frame =>
    intro k l p passes
    by_cases save : k = .save
    · subst save
      simp [State.saveLaw, frameOwner, State.saveTaken_eq]
    by_cases resync : k = .resync
    · subst resync
      obtain ⟨_, _, allowed, _, _, free⟩ := passes
      cases l with
      | node n => simp [Kind.allowedOn, Kind.ofNode] at allowed
      | supervisor =>
        have idle : (s.port .supervisor).inProgress = none := by simpa [Kind.alwaysTaken] using free
        refine State.saveLaw_of_idle ?_ (by simp [frameOwner, State.resyncTaken, Port.atReset])
        have := law.1
        simp only [idle] at this
        simpa [frameOwner] using this
    · exact (State.updates.refl.frameOwner save resync l p).saveLaw law
  case event =>
    intro f hf _
    by_cases tick : c = .clockTick
    · subst tick; cases hf
      exact State.saveLaw_congr law (by simp) (by simp) (by simp)
    by_cases save : ∃ sum, c = .saveComplete sum
    · obtain ⟨sum, rfl⟩ := save; cases hf
      change (s.saveEnds sum).saveLaw
      unfold State.saveEnds
      split
      · exact law
      · exact State.saveLaw_of_idle (State.saveDone_ends _ _ _).2 (State.saveDone_ends _ _ _).1
    by_cases disturbance : ∃ b w d, c = .storageDisturbance b w d
    · obtain ⟨b, w, d, rfl⟩ := disturbance; cases hf
      exact State.saveLaw_congr law (by simp) (by simp) (by simp)
    · exact (State.updates.refl.internalEvent hf tick (not_exists.1 save)
        (fun b w d e => disturbance ⟨b, w, d, e⟩)).saveLaw law

end Sys2Proof.Machine

/-! PROOF. The law of attempt accounting (R35, O60). -/

namespace Sys2Proof.Machine

namespace State.attemptLaw

variable {s t : State} {n : NodeId}

theorem congr (law : s.attemptLaw) (active : t.active = s.active)
    (attempts : ∀ x, (t.node x).attempts = (s.node x).attempts) : t.attemptLaw := by
  intro x
  simpa only [State.nodePlan, active, attempts] using law x

/-- A node record is written with a count that is the old one, or within the limit. -/
theorem modNode (law : s.attemptLaw) {f : NodeRec → NodeRec}
    (h : (f (s.node n)).attempts ≤ (s.node n).attempts ∨ (f (s.node n)).attempts ≤ (s.nodePlan n).attemptLimit) :
    (s.modNode n f).attemptLaw := by
  intro x
  have within := law x
  rw [State.node_modNode]
  simp only [State.nodePlan, State.modNode_frame] at *
  split
  · next same => subst same; omega
  · exact within

theorem enterHalted (law : s.attemptLaw) : (s.enterHalted n).attemptLaw := by
  have written := law.modNode (n := n)
    (f := fun r => { r.stopTimers with state := .halted, resetLine := (s.nodePlan n).resetDrive }) (.inl (Nat.le_refl _))
  exact written.congr rfl fun _ => rfl

/-- R35: an entry into BOOT counts an attempt only below the limit. -/
theorem enterBoot (law : s.attemptLaw) : (s.enterBoot n).attemptLaw := by
  unfold State.enterBoot
  dsimp only
  split
  · next below => exact law.modNode (.inr below)
  · exact law.enterHalted

theorem beginRestart (law : s.attemptLaw) (why : DriveReason) : (s.beginRestart n why).attemptLaw := by
  have stopped : (s.modNode n fun r => { r.stopTimers with drive := some why }).attemptLaw :=
    law.modNode (.inl (Nat.le_refl _))
  unfold State.beginRestart
  dsimp only
  split
  · exact stopped.modNode (.inl (Nat.le_refl _))
  · exact stopped.enterBoot

theorem restartFromService (law : s.attemptLaw) (why : DriveReason) : (s.restartFromService n why).attemptLaw := by
  have left : (s.leaveService n true).attemptLaw := law.congr (by simp) (by simp)
  exact (left.beginRestart (n := n) why).congr (by simp [State.restartFromService]) (by simp [State.restartFromService])

theorem enterSettling (law : s.attemptLaw) (m : SettleMark) : (s.enterSettling n m).attemptLaw := by
  unfold State.enterSettling
  exact law.modNode (.inl (Nat.le_refl _))

theorem giveVerdict (law : s.attemptLaw) : (s.giveVerdict n).attemptLaw := by
  have replied (v : Verdict) (c : Cause) (k : Nat) : (s.reply (.node n) .hello .ok (.hello v c k)).attemptLaw :=
    law.congr (by simp) (by simp)
  have verdict := replied (s.verdict n) ((s.node n).cause.getD .unannounced) (s.node n).attempts
  unfold State.giveVerdict
  dsimp only
  split
  · exact verdict.modNode (.inl (Nat.le_refl _))
  · exact (verdict.enterSettling (n := n) .cold).congr (by simp) (by simp)

theorem takeHello (law : s.attemptLaw) (p : List Byte) : (s.takeHello n p).attemptLaw := by
  unfold State.takeHello
  exact law.modNode (.inl (Nat.le_refl _))

/-- R45: an unannounced HELLO counts an attempt only below the limit. -/
theorem unannounced (law : s.attemptLaw) (p : List Byte) : (s.unannounced n p).attemptLaw := by
  have taken : ((s.endForHello n).takeHello n p).attemptLaw := (law.congr (by simp) (by simp)).takeHello p
  have told {u : State} (h : u.attemptLaw) (b : Bool) :
      ((if b then u.noteLeftService n else u).queueIfWarm n).attemptLaw := by
    cases b <;> exact h.congr (by simp) (by simp)
  unfold State.unannounced
  dsimp only
  refine told ?_ _
  split
  · next below => exact (taken.modNode (n := n) (f := fun r => { r with attempts := r.attempts + 1 }) (.inr below)).giveVerdict
  · exact (taken.enterHalted (n := n)).congr (by simp) (by simp)

theorem helloTaken (law : s.attemptLaw) (p : List Byte) : (s.helloTaken n p).attemptLaw := by
  have given := (law.takeHello (n := n) p).giveVerdict (n := n)
  unfold State.helloTaken
  split
  case h_1 => exact given.congr (by simp) (by simp)
  case h_2 => exact given.congr (by simp) (by simp)
  case h_8 | h_9 | h_10 => exact law.congr (by simp) (by simp)
  all_goals exact law.unannounced p

theorem haltNode (law : s.attemptLaw) : (s.haltNode n).attemptLaw := by
  have halted : (((s.endForHalt n).enterHalted n).reply .supervisor .halt .ok).attemptLaw :=
    ((law.congr (by simp) (by simp) : (s.endForHalt n).attemptLaw).enterHalted (n := n)).congr (by simp) (by simp)
  unfold State.haltNode
  dsimp only
  split
  · exact halted.congr (by simp) (by simp)
  · exact halted.congr (by simp) (by simp)
  · exact halted.congr (by simp) (by simp)
  · exact halted

/-! ### Restores -/

theorem secondCold (law : s.attemptLaw) (c : ChanId) (b : Binding) (why : ColdReason) : (s.secondCold c b why).attemptLaw :=
  ((law.congr (by simp) (by simp) : ((s.send (.node b.node) (.verdict why)).unbind c).attemptLaw).enterSettling
    (n := b.node) .cold).congr rfl fun _ => rfl

theorem abortRestore (law : s.attemptLaw) (c : ChanId) (b : Binding) (st : DoneStatus) :
    (s.abortRestore c b st).attemptLaw :=
  (law.congr (by simp) (by simp) : ((s.send (.node b.node) (.done st (s.fullGen b))).unbind c).attemptLaw).beginRestart _

theorem finishRestore (law : s.attemptLaw) (c : ChanId) (b : Binding) : (s.finishRestore c b).attemptLaw := by
  unfold State.finishRestore
  exact (law.congr (by simp) (by simp) : State.attemptLaw (State.unbind _ c)).enterSettling _

theorem fallBack (law : s.attemptLaw) (c : ChanId) (b : Binding) (k : Nat) (r : Record) : (s.fallBack c b k r).attemptLaw := by
  have discarded : ((s.discardDamaged r).raise .damaged).attemptLaw := law.congr (by simp) (by simp)
  unfold State.fallBack
  dsimp only
  repeat' split
  · exact discarded.congr (by simp) (by simp)
  · exact discarded.secondCold c b _
  · exact discarded.congr (by simp) (by simp)
  · exact discarded.secondCold c b _

theorem sendBlock (law : s.attemptLaw) (c : ChanId) (b : Binding) : (s.sendBlock c b).attemptLaw := by
  unfold State.sendBlock
  split
  · exact law.congr (by simp) (by simp)
  · dsimp only
    split
    · exact law.congr (by simp) (by simp)
    · exact (law.congr (by simp) (by simp) : State.attemptLaw (State.send s _ _)).fallBack c b _ _

theorem advance (law : s.attemptLaw) (c : ChanId) (b : Binding) : (s.advance c b).attemptLaw := by
  unfold State.advance
  dsimp only
  repeat' split
  exacts [law.finishRestore c _, law.sendBlock c _, law.sendBlock c _, law.finishRestore c _]

theorem ackTaken (law : s.attemptLaw) (p : List Byte) : (s.ackTaken n p).attemptLaw := by
  have ended : (s.endExchange n).attemptLaw := law.congr (by simp) (by simp)
  unfold State.ackTaken State.crcBad State.notReady
  dsimp only
  repeat' split
  · exact ended
  · exact ended
  · exact ended.advance _ _
  · exact ended.abortRestore _ _ _
  · exact ended.sendBlock _ _
  · exact ended.congr (by simp) (by simp)
  · exact ended.abortRestore _ _ _
  · exact law

theorem dataUnanswered (law : s.attemptLaw) : (s.dataUnanswered n).attemptLaw := by
  unfold State.dataUnanswered
  repeat' split
  exacts [law, law.abortRestore _ _ _, law]

/-! ### The other frames and events that write a count -/

theorem beatTaken (law : s.attemptLaw) (p : List Byte) : (s.beatTaken n p).attemptLaw := by
  have noted : (s.noteBeat n).attemptLaw := law.congr (by simp) (by simp)
  have read {u : State} (h : u.attemptLaw) : (u.takeReadings (readings p)).attemptLaw := h.congr (by simp) (by simp)
  unfold State.beatTaken
  dsimp only
  split
  case h_1 | h_2 => exact law
  case h_3 =>
    exact (read (noted.modNode (n := n) (f := fun r => r.enterRunning (s.nodePlan n) s.clock.ms) (.inl (Nat.le_refl _)))).congr
      (by simp) (by simp)
  case h_4 => exact read (noted.modNode (.inl (Nat.le_refl _)))
  case h_5 => exact read (noted.modNode (.inl (Nat.le_refl _)))
  all_goals exact read noted

theorem resumedTaken (law : s.attemptLaw) : (s.resumedTaken n).attemptLaw := by
  unfold State.resumedTaken
  dsimp only
  split
  · exact (law.modNode (n := n) (f := fun r => r.enterRunning (s.nodePlan n) s.clock.ms) (.inl (Nat.le_refl _))).congr
      (by simp) (by simp)
  · exact law.congr (by simp) (by simp)

theorem restartTaken (law : s.attemptLaw) (p : List Byte) : (s.restartTaken p).attemptLaw := by
  have answered (r : Result) : (s.answer .restart r).attemptLaw := law.congr (by simp) (by simp)
  unfold State.restartTaken
  repeat' split
  · unfold State.restartNode
    split
    case h_1 | h_2 => split; exacts [(answered _).restartFromService _, answered _]
    case h_3 => split; exacts [(answered _).beginRestart _, answered _]
    all_goals exact answered _
  · exact answered _
  · exact answered _

theorem releaseTaken (law : s.attemptLaw) (p : List Byte) : (s.releaseTaken p).attemptLaw := by
  have answered (r : Result) : (s.answer .release r).attemptLaw := law.congr (by simp) (by simp)
  unfold State.releaseTaken State.aboutNode
  dsimp only
  repeat' split
  · exact answered _
  · exact ((answered _).modNode (.inl (Nat.zero_le _))).beginRestart _
  · exact answered _
  · exact answered _

theorem haltTaken (law : s.attemptLaw) (p : List Byte) : (s.haltTaken p).attemptLaw := by
  have answered (r : Result) : (s.answer .halt r).attemptLaw := law.congr (by simp) (by simp)
  unfold State.haltTaken State.aboutNode
  dsimp only
  repeat' split
  exacts [answered _, answered _, law.haltNode, answered _]

/-- R168: an APPLY lowers each count to the limit of the plan that it makes active, or starts it again at 0. -/
theorem settleNode_attempts (old new : Plan) (n : NodeId) (r : NodeRec) :
    (settleNode old new n r).attempts ≤ (new.nodes.get n).attemptLimit := by
  unfold settleNode
  repeat' split
  exacts [Nat.zero_le _, Nat.zero_le _, Nat.min_le_right _ _]

theorem regroup (law : s.attemptLaw) (g : GroupId) : (s.regroup g).attemptLaw := by
  have folded (l : List NodeId) {u : State} (h : u.attemptLaw) :
      (l.foldl (fun u n => u.modNode n NodeRec.regrouped) u).attemptLaw := by
    induction l generalizing u with
    | nil => exact h
    | cons n l ih => exact ih (h.modNode (.inl (Nat.le_refl _)))
  have forgotten : (s.forgetTake g).attemptLaw := law.congr (by simp) (by simp)
  exact (folded (s.active.members g) forgotten).congr (by simp [State.regroup]) (by simp [State.regroup])

theorem activate (s : State) : s.activate.attemptLaw := by
  have folded (l : List GroupId) {u : State} (h : u.attemptLaw) : (l.foldl State.regroup u).attemptLaw := by
    induction l generalizing u with
    | nil => exact h
    | cons g l ih => exact ih (h.regroup g)
  refine folded _ fun n => ?_
  simpa [State.node, State.nodePlan] using settleNode_attempts s.active s.staged n _

theorem applyTaken (law : s.attemptLaw) : s.applyTaken.attemptLaw := by
  unfold State.applyTaken
  repeat' split
  · exact law.congr (by simp) (by simp)
  · exact law.congr (by simp) (by simp)
  · exact (activate s).congr (by simp) (by simp)

theorem resetBlocks (s : State) (b : Bool) : (s.resetBlocks b).attemptLaw := by
  intro n
  rw [State.node_resetBlocks]
  unfold NodeRec.afterReset
  split <;> exact Nat.zero_le _

/-! ### Every command -/

theorem frameOwner (law : s.attemptLaw) (k : Kind) (l : Link) (p : List Byte) : (frameOwner k l p s).attemptLaw := by
  cases k with
  | restart => exact law.restartTaken p
  | halt => exact law.haltTaken p
  | release => exact law.releaseTaken p
  | apply => exact law.applyTaken
  | resync => exact (resetBlocks (s.storeReset fun _ => true) false).congr (by simp [Machine.frameOwner, State.resyncTaken]) (by simp [Machine.frameOwner, State.resyncTaken])
  | readNode | readGroup | readStore | readAlerts | peekAt | peekNext | limit | mask | set | save =>
    exact law.congr (by simp [Machine.frameOwner]) fun x => by simp [Machine.frameOwner, State.node]
  | hello => cases l; exacts [law, law.helloTaken p]
  | beat => cases l; exacts [law, law.beatTaken p]
  | resumed => cases l; exacts [law, law.resumedTaken]
  | ack => cases l; exacts [law, law.ackTaken p]
  | askRestart =>
    cases l
    · exact law
    · have answered (n : NodeId) (r : Result) : (s.reply (.node n) .askRestart r).attemptLaw := law.congr (by simp) (by simp)
      simp only [Machine.frameOwner, onNode, State.askRestartTaken]
      repeat' split
      exacts [(answered _ _).restartFromService _, answered _ _, answered _ _]
  | _ =>
    cases l
    · exact law
    · exact law.congr (by simp [Machine.frameOwner, onNode]) fun x => by simp [Machine.frameOwner, onNode]

theorem onlyIf (law : s.attemptLaw) {c : Prop} [Decidable c] (ht : t.attemptLaw) : (if c then t else s).attemptLaw := by
  split
  exacts [ht, law]

theorem internalEvent {c : Instr} {f : State → State} (hc : internalEvent c = some f) (law : s.attemptLaw) :
    (f s).attemptLaw := by
  cases c <;> cases hc
  case clockTick =>
    refine law.congr (by simp) fun x => ?_
    simp [State.tick, State.node, NodeRec.tick]
  case saveComplete sum => exact law.congr (by simp) (by simp [State.node])
  case storageDisturbance => exact law.congr (by simp) (by simp)
  case commitPassComplete n => exact law.congr (by simp) (by simp)
  case acquireExpiry n =>
    have begun := (law.congr (by simp) (by simp) : (s.raise .lapse).attemptLaw).beginRestart (n := n) .lapse
    exact law.onlyIf (begun.congr (by simp [State.acquireExpired]) (by simp [State.acquireExpired]))
  case lapseExpiry n =>
    have lapsed : (s.lapseNode n).attemptLaw :=
      (law.congr (by simp) (by simp) : (s.raise .lapse).attemptLaw).restartFromService _
    refine law.onlyIf ?_
    unfold State.lapseExpired
    split
    · exact lapsed
    · split
      exacts [lapsed, law.congr (by simp) (by simp)]
    all_goals exact law
  case stableExpiry n => exact law.onlyIf (law.modNode (.inl (Nat.zero_le _)))
  case pulseExpiry n => exact law.onlyIf law.enterBoot
  case bootExpiry n => exact law.onlyIf (law.beginRestart _)
  case settleExpiry n => exact law.onlyIf (law.beginRestart _)
  case answerTimerExpiry n =>
    have ended : (s.endExchange n).attemptLaw := law.congr (by simp) (by simp)
    refine law.onlyIf ?_
    unfold State.unanswered
    split
    exacts [ended, ended.dataUnanswered, ended.congr (by simp) (by simp)]
  case holdoffExpiry c =>
    dsimp only [State.holdoffEnds]
    split
    exacts [law.onlyIf (law.sendBlock c _), law]
  case verifyComplete c =>
    dsimp only [State.verifyEnds, State.verifyDone]
    split
    · refine law.onlyIf ?_
      repeat' split
      exacts [law.sendBlock c _, law.fallBack c _ _ _, law]
    · exact law
  case takeoverPointReached g => exact law.onlyIf (law.congr (by simp) (by simp))
  case deadlineReached g => exact law.onlyIf (law.congr (by simp) (by simp))

end State.attemptLaw

theorem exec_attemptLaw {c : Instr} {s t : State} (law : s.attemptLaw) (h : exec c s = .next t) : t.attemptLaw :=
  exec_keeps h law (fun _ _ => law.congr (by simp) (by simp)) (fun _ => law.congr (by simp) (by simp))
    (fun k l p _ => law.frameOwner k l p) (fun _ hf _ => .internalEvent hf law) (fun _ => law)
    (.resetBlocks _ _) (.resetBlocks _ _)
    (law.congr s.losesSupply_plans.1 fun x => by simp [State.node])

/-- Settles O60: each law is kept by every command, most of them because the frame of the command does not reach what the law
reads. -/
theorem settingsAndCountsStayInRange : Obligations.SettingsAndCountsStayInRange :=
  ⟨⟨fun _ _ => step_keeps (fun _ _ => id) fun _ _ _ => exec_planLaw,
    fun _ _ => step_keeps (fun _ _ => id) fun _ _ _ => exec_monitorLaw,
    fun _ _ => step_keeps (P := State.countLaw) (fun _ _ law => ⟨law.1, fun l => by cases l; exacts [law.2 .supervisor, law.2 (.node _)]⟩)
      fun _ _ _ => exec_countLaw,
    fun _ _ => step_keeps (fun _ _ => id) fun _ _ _ => exec_saveLaw⟩,
    fun _ _ => step_keeps (fun _ _ => id) fun _ _ _ => exec_attemptLaw⟩

end Sys2Proof.Machine

/-! PROOF. The directory after each operation of the store (R60, R61, R66, R72), the canonical form of the pool and the law of block
accounting (R59, O55). -/

namespace Sys2Proof.Machine

/-! ### The directory after each operation -/

theorem dir_set (d : Vector (Option Record) 40) (i j : Slot) (o : Option Record) :
    (d.set i o)[j] = if j = i then o else d[j] := by
  simp [Vector.getElem_set, Fin.ext_iff, eq_comm]

theorem Store.dir_remove (st : Store) (i : Slot) (r : Record) (j : Slot) :
    (st.remove i r).dir[j] = if j = i then none else st.dir[j] :=
  dir_set _ _ _ _

theorem Store.dir_markPins (st : Store) (p : Slot → Record → Bool) (b : Bool) (i : Slot) :
    (st.markPins p b).dir[i] = (st.dir[i]).map fun r => if p i r then { r with pinned := b } else r := by
  simp [Store.markPins]

/-- R60: an allocation writes the head of the free list and hands it to the record. -/
theorem Store.takeHead_of {st : Store} {i : Slot} {r : Record} {b : Nat} {rest : List Nat} (free : st.freeList = b :: rest)
    (held : st.dir[i] = some r) (ws : List Word) :
    st.takeHead i ws =
      { st with
        freeList := rest
        pool := st.pool.writeBlock b ws
        dir := st.dir.set i (some { r with blocks := r.blocks ++ [b], received := r.received + ws.length }) } := by
  simp [Store.takeHead, free, held]

theorem State.removeRecord_of_none {s : State} {i : Slot} (h : s.store.dir[i] = none) : s.removeRecord i = s := by
  simp [State.removeRecord, h]

theorem State.removeRecord_store {s : State} {i : Slot} {r : Record} (h : s.store.dir[i] = some r) :
    (s.removeRecord i).store = s.store.remove i r := by
  simp [State.removeRecord, h]

/-- R66: the slot is freed, and no other. -/
theorem State.dir_removeRecord (s : State) (i j : Slot) :
    (s.removeRecord i).store.dir[j] = if j = i then none else s.store.dir[j] := by
  cases h : s.store.dir[i] with
  | none =>
    rw [State.removeRecord_of_none h]
    split
    · next same => rw [same, h]
    · rfl
  | some r => rw [State.removeRecord_store h, Store.dir_remove]

theorem State.dir_modRecord (s : State) (i : Slot) (f : Record → Record) (j : Slot) :
    (s.modRecord i f).store.dir[j] = if j = i then (s.store.dir[i]).map f else s.store.dir[j] :=
  dir_set _ _ _ _

/-! ### The blocks that a slot holds -/

/-- The blocks of the record in a slot. -/
def slotBlocks (o : Option Record) : List Nat := (o.map Record.blocks).getD []

theorem Store.heldBlocks_eq (st : Store) : st.heldBlocks = (List.finRange 40).flatMap fun i => slotBlocks st.dir[i] := by
  have slots : st.dir.toList = (List.finRange 40).map fun i => st.dir[i] := by
    apply List.ext_getElem <;> simp
  unfold Store.heldBlocks
  rw [slots, List.flatMap_map]
  congr 1
  funext i
  unfold slotBlocks
  cases st.dir[i] <;> rfl

/-- A list flattened under two functions that differ at one place. -/
theorem flatMap_perm_of_differ {α β : Type} [DecidableEq α] {f g : α → List β} {a : α} {l : List α} (ha : a ∈ l)
    (nodup : l.Nodup) (same : ∀ x, x ≠ a → f x = g x) : (f a ++ l.flatMap g).Perm (g a ++ l.flatMap f) := by
  have split := List.perm_cons_erase ha
  have rest : (l.erase a).flatMap g = (l.erase a).flatMap f :=
    List.flatMap_congr fun x hx => (same x fun e => (nodup.mem_erase_iff.1 hx).1 e).symm
  calc (f a ++ l.flatMap g).Perm (f a ++ (g a ++ (l.erase a).flatMap g)) := (split.flatMap_right g).append_left _
    _ = f a ++ (g a ++ (l.erase a).flatMap f) := by rw [rest]
    List.Perm _ (g a ++ (f a ++ (l.erase a).flatMap f)) := by
      rw [← List.append_assoc, ← List.append_assoc]; exact List.perm_append_comm.append_right _
    List.Perm _ (g a ++ l.flatMap f) := (split.flatMap_right f).symm.append_left _

/-- The blocks held when one slot changes. -/
theorem Store.heldBlocks_perm {st new : Store} (i : Slot) (others : ∀ j, j ≠ i → new.dir[j] = st.dir[j]) :
    (slotBlocks st.dir[i] ++ new.heldBlocks).Perm (slotBlocks new.dir[i] ++ st.heldBlocks) := by
  rw [Store.heldBlocks_eq, Store.heldBlocks_eq]
  exact flatMap_perm_of_differ (f := fun j => slotBlocks st.dir[j]) (g := fun j => slotBlocks new.dir[j])
    (List.mem_finRange i) (List.nodup_finRange 40) fun j other => by rw [others j other]

theorem Store.heldBlocks_congr {st new : Store} (h : ∀ i : Slot, slotBlocks new.dir[i] = slotBlocks st.dir[i]) :
    new.heldBlocks = st.heldBlocks := by
  rw [Store.heldBlocks_eq, Store.heldBlocks_eq]
  simp only [h]

/-! ### Every block stays in one place -/

/-- The blocks of the pool, wherever they are. -/
def Store.allBlocks (st : Store) : List Nat := st.freeList ++ st.heldBlocks

theorem Store.allBlocks_congr {st new : Store} (free : new.freeList = st.freeList)
    (h : ∀ i : Slot, slotBlocks new.dir[i] = slotBlocks st.dir[i]) : new.allBlocks = st.allBlocks := by
  rw [Store.allBlocks, Store.allBlocks, free, Store.heldBlocks_congr h]

/-- A change of a record that leaves its block list. -/
theorem slotBlocks_map {f : Record → Record} (h : ∀ r, (f r).blocks = r.blocks) (o : Option Record) :
    slotBlocks (o.map f) = slotBlocks o := by
  cases o <;> simp [slotBlocks, h]

theorem Store.allBlocks_remove {st : Store} {i : Slot} {r : Record} (h : st.dir[i] = some r) :
    (st.remove i r).allBlocks.Perm st.allBlocks := by
  have moved := Store.heldBlocks_perm (st := st) (new := st.remove i r) i fun j other => by
    rw [Store.dir_remove, if_neg other]
  rw [Store.dir_remove, if_pos rfl, h] at moved
  have held : (r.blocks ++ (st.remove i r).heldBlocks).Perm st.heldBlocks := moved
  simpa [Store.allBlocks] using held.append_left st.freeList

/-- R60: the head of the free list goes to the record's block list. -/
theorem Store.allBlocks_takeHead (st : Store) (i : Slot) (ws : List Word) :
    (st.takeHead i ws).allBlocks.Perm st.allBlocks := by
  cases free : st.freeList with
  | nil => simp [Store.takeHead, free]
  | cons b rest =>
    cases held : st.dir[i] with
    | none =>
      have idle : st.takeHead i ws = st := by unfold Store.takeHead; rw [free, held]
      rw [idle]
    | some r =>
      have taken := Store.takeHead_of free held ws
      have moved := Store.heldBlocks_perm (st := st) (new := st.takeHead i ws) i fun j other => by
        rw [taken]; exact (dir_set _ _ _ _).trans (if_neg other)
      have atSlot : slotBlocks (st.takeHead i ws).dir[i] = r.blocks ++ [b] := by
        rw [taken]; exact congrArg slotBlocks ((dir_set _ _ _ _).trans (if_pos rfl))
      rw [held, atSlot, List.append_assoc] at moved
      have gained : (st.takeHead i ws).heldBlocks.Perm ([b] ++ st.heldBlocks) := (List.perm_append_left_iff r.blocks).1 moved
      have cut : (st.takeHead i ws).freeList = rest := by rw [taken]
      rw [Store.allBlocks, Store.allBlocks, free, cut]
      exact (gained.append_left rest).trans List.perm_middle

theorem Store.wf_takeHead {st : Store} (h : Memory.wf st.pool) (i : Slot) (ws : List Word) :
    Memory.wf (st.takeHead i ws).pool := by
  unfold Store.takeHead
  split
  · next b _ _ _ _ =>
    dsimp only
    exact Pool.wf_writeBlock h b ws
  · exact h

theorem Store.allBlocks_markPins (st : Store) (p : Slot → Record → Bool) (b : Bool) :
    (st.markPins p b).allBlocks = st.allBlocks := by
  refine Store.allBlocks_congr rfl fun i => ?_
  rw [Store.dir_markPins]
  exact slotBlocks_map (fun r => by split <;> rfl) _

/-- A record placed in a free slot holds no block yet (R80). -/
theorem Store.allBlocks_place {st new : Store} {i : Slot} {r : Record} (free : st.dir[i] = none) (noBlocks : r.blocks = [])
    (dir : new.dir = st.dir.set i (some r)) (freeList : new.freeList = st.freeList) : new.allBlocks = st.allBlocks := by
  refine Store.allBlocks_congr freeList fun j => ?_
  rw [dir, dir_set]
  split
  · next same => rw [same, free]; exact noBlocks
  · rfl

theorem State.allBlocks_modRecord (s : State) (i : Slot) {f : Record → Record} (h : ∀ r, (f r).blocks = r.blocks) :
    (s.modRecord i f).store.allBlocks = s.store.allBlocks := by
  refine Store.allBlocks_congr rfl fun j => ?_
  rw [State.dir_modRecord]
  split
  · next same => rw [same]; exact slotBlocks_map h _
  · rfl

/-- Basic updates move blocks between the free list and the records. -/
theorem State.updates.allBlocks {s t : State} (h : s.updates t) : t.store.allBlocks.Perm s.store.allBlocks := by
  induction h with
  | refl => exact .refl _
  | @removeRecord t _ i ih =>
    refine .trans ?_ ih
    cases held : t.store.dir[i] with
    | none => rw [State.removeRecord_of_none held]
    | some r => rw [State.removeRecord_store held]; exact Store.allBlocks_remove held
  | @pins t _ p b ih => exact (List.Perm.of_eq (t.store.allBlocks_markPins p b)).trans ih
  | @takeHead t _ i ws ih => exact (t.store.allBlocks_takeHead i ws).trans ih
  | @place t _ i free n gens g k declared ih =>
    have placed : Store.allBlocks { t.store with gens := gens, dir := t.store.dir.set i (some (newRecord n g k declared)) }
        = t.store.allBlocks := Store.allBlocks_place (r := newRecord n g k declared) free rfl rfl rfl
    exact (List.Perm.of_eq placed).trans ih
  | @status t _ i st ih =>
    exact (List.Perm.of_eq (t.allBlocks_modRecord i (f := fun q => { q with status := st }) fun _ => rfl)).trans ih
  | peek _ c ih => exact ih
  | _ => simp_all

/-- Basic updates keep the pool in its canonical form. -/
theorem State.updates.wf {s t : State} (h : s.updates t) (wf : Memory.wf s.store.pool) : Memory.wf t.store.pool := by
  induction h with
  | refl => exact wf
  | @takeHead t _ i ws ih => exact Store.wf_takeHead ih i ws
  | _ => rename_i ih; simpa using ih

/-! ### The obligation -/

/-- What O55 claims of a step, as a relation: the canonical form of the pool is kept, and the law of block accounting is. -/
def State.keepsPool (s t : State) : Prop :=
  (Memory.wf s.store.pool → Memory.wf t.store.pool) ∧ (s.store.blockAccounting → t.store.blockAccounting)

theorem State.keepsPool_of_store {s t : State} (h : t.store = s.store) : s.keepsPool t := by
  rw [State.keepsPool, h]
  exact ⟨id, id⟩

theorem State.keepsPool_of_allBlocks {s t : State} (pool : Memory.wf s.store.pool → Memory.wf t.store.pool)
    (blocks : t.store.allBlocks.Perm s.store.allBlocks) : s.keepsPool t :=
  ⟨pool, fun accounted => blocks.trans accounted⟩

theorem State.updates.keepsPool {s t : State} (h : s.updates t) : s.keepsPool t :=
  State.keepsPool_of_allBlocks h.wf h.allBlocks

theorem Store.wf_empty : Memory.wf Store.empty.pool := ⟨.nil, fun _ h => absurd h List.not_mem_nil⟩

theorem Store.blockAccounting_empty : Store.empty.blockAccounting := by
  have none : Store.empty.heldBlocks = [] := by
    rw [Store.heldBlocks_eq, List.flatMap_eq_nil_iff]
    intro i _
    rw [Store.dir_empty]
    rfl
  rw [Store.blockAccounting, none, Store.freeList_empty, List.append_nil]
  exact .refl _

theorem State.keepsPool_disturb (s : State) (a : Nat) (d : Disturbance) : s.keepsPool (s.disturb a d) := by
  refine State.keepsPool_of_allBlocks (s.wf_disturb a d) (.of_eq (Store.allBlocks_congr (by simp) fun i => ?_))
  rw [State.dir_disturb]
  exact slotBlocks_map (fun r => by simp) _

/-- R78: what a pin reset and a resync remove goes back to the free list. -/
theorem State.keepsPool_storeReset (s : State) (keep : NodeId → Bool) : s.keepsPool (s.storeReset keep) :=
  (State.updates.refl.storeReset keep).keepsPool

theorem State.keepsPool_pinReset (s : State) : s.keepsPool s.pinReset := by
  have kept := ({ s with saving := none }.loadImage s.array.load.1).keepsPool_storeReset (s.active.keeps s.array.load.1.plan)
  have store : s.pinReset.store
      = (({ s with saving := none }.loadImage s.array.load.1).storeReset (s.active.keeps s.array.load.1.plan)).store := rfl
  rw [State.keepsPool, store]
  exact kept

theorem State.keepsPool_powerOnReset (s : State) : s.keepsPool s.powerOnReset := by
  have empty : s.powerOnReset.store = .empty := by simp [State.powerOnReset]
  rw [State.keepsPool, empty]
  exact ⟨fun _ => Store.wf_empty, fun _ => Store.blockAccounting_empty⟩

theorem exec_keepsPool {c : Instr} {s t : State} (h : exec c s = .next t) : s.keepsPool t := by
  refine exec_keeps (P := s.keepsPool) h ⟨id, id⟩ ?sent ?damaged ?frame ?event ?level ?powerOn ?pin ?loss
  case sent => exact fun l f => State.keepsPool_of_store (by simp)
  case damaged => exact fun l => State.keepsPool_of_store (by simp)
  case level => exact fun b => State.keepsPool_of_store rfl
  case powerOn => exact s.keepsPool_powerOnReset
  case pin =>
    exact State.keepsPool_pinReset { s with resetAsserted := false }
  case loss => exact State.keepsPool_of_store (by unfold State.losesSupply; split <;> simp)
  case frame =>
    intro k l p _
    by_cases save : k = .save
    · subst save; exact State.keepsPool_of_store (by simp [frameOwner])
    by_cases resync : k = .resync
    · subst resync
      have kept := s.keepsPool_storeReset fun _ => true
      simpa [frameOwner, State.resyncTaken, State.keepsPool] using kept
    exact (State.updates.refl.frameOwner save resync l p).keepsPool
  case event =>
    intro f hf _
    by_cases tick : c = .clockTick
    · subst tick; cases hf; exact State.keepsPool_of_store (by simp)
    by_cases save : ∃ sum, c = .saveComplete sum
    · obtain ⟨sum, rfl⟩ := save; cases hf; exact State.keepsPool_of_store (by simp)
    by_cases disturbed : ∃ b w d, c = .storageDisturbance b w d
    · obtain ⟨b, w, d, rfl⟩ := disturbed; cases hf; exact s.keepsPool_disturb _ d
    exact (State.updates.refl.internalEvent hf tick (fun sum e => save ⟨sum, e⟩)
      fun b w d e => disturbed ⟨b, w, d, e⟩).keepsPool

/-- Settles O55: every command keeps both laws, since the operations of the store only move blocks and write words. -/
theorem poolKeepsItsLaws : Obligations.PoolKeepsItsLaws :=
  ⟨fun _ _ => step_keeps (P := fun s => Memory.wf s.store.pool) (fun _ _ => id) fun _ _ _ wf h => (exec_keepsPool h).1 wf,
    fun _ _ => step_keeps (P := fun s => s.store.blockAccounting) (fun _ _ => id)
      fun _ _ _ accounted h => (exec_keepsPool h).2 accounted⟩

end Sys2Proof.Machine

/-! PROOF. The node record after each operation of the node sequencer (02, 03). -/

namespace Sys2Proof.Machine

section
variable (s : State) (n : NodeId)

/-- R54. -/
@[simp] theorem State.node_enterHalted :
    (s.enterHalted n).node n =
      { (s.node n).stopTimers with state := .halted, resetLine := (s.nodePlan n).resetDrive } := by
  simp [State.enterHalted]

/-- R35: an attempt. -/
theorem State.enterBoot_of_below (below : (s.node n).attempts < (s.nodePlan n).attemptLimit) :
    s.enterBoot n = s.modNode n fun r =>
      { r.stopTimers with
        state := .boot, attempts := r.attempts + 1, resetLine := false, boot := .start (s.nodePlan n).bootMs } := by
  simp [State.enterBoot, below]

/-- R35: no attempt is left. -/
theorem State.enterBoot_of_limit (limit : (s.nodePlan n).attemptLimit ≤ (s.node n).attempts) :
    s.enterBoot n = s.enterHalted n := by
  simp [State.enterBoot, Nat.not_lt.2 limit]

/-- R34: a restart begins with its drive reason written. -/
def State.driveWritten (why : DriveReason) : State := s.modNode n fun r => { r.stopTimers with drive := some why }

/-- R34: with reset drive yes, a restart begins by a reset pulse. -/
theorem State.beginRestart_of_drive (why : DriveReason) (drives : (s.nodePlan n).resetDrive = true) :
    s.beginRestart n why = (s.driveWritten n why).modNode n fun r =>
      { r with state := .reset, resetLine := true, pulse := .start (s.nodePlan n).pulse } := by
  simp [State.beginRestart, State.driveWritten, drives]

/-- R34: with reset drive no, a restart begins by an entry into BOOT. -/
theorem State.beginRestart_of_noDrive (why : DriveReason) (drives : (s.nodePlan n).resetDrive = false) :
    s.beginRestart n why = (s.driveWritten n why).enterBoot n := by
  simp [State.beginRestart, State.driveWritten, drives]

/-- R34, R35, R54: the record that the beginning of a restart leaves. -/
theorem State.node_beginRestart (why : DriveReason) :
    (s.beginRestart n why).node n =
      if (s.nodePlan n).resetDrive then
        { (s.node n).stopTimers with
          drive := some why, state := .reset, resetLine := true, pulse := .start (s.nodePlan n).pulse }
      else if (s.node n).attempts < (s.nodePlan n).attemptLimit then
        { (s.node n).stopTimers with
          drive := some why, state := .boot, attempts := (s.node n).attempts + 1, resetLine := false
          boot := .start (s.nodePlan n).bootMs }
      else { (s.node n).stopTimers with drive := some why, state := .halted, resetLine := false } := by
  cases drives : (s.nodePlan n).resetDrive with
  | true => simp [State.beginRestart_of_drive s n why drives, State.driveWritten]
  | false =>
    have written : (s.driveWritten n why).node n = { (s.node n).stopTimers with drive := some why } := by
      simp [State.driveWritten]
    have plan : (s.driveWritten n why).nodePlan n = s.nodePlan n := by simp [State.nodePlan, State.driveWritten]
    rw [State.beginRestart_of_noDrive s n why drives]
    by_cases below : (s.node n).attempts < (s.nodePlan n).attemptLimit
    · rw [State.enterBoot_of_below _ _ (by rwa [written, plan]), State.node_modNode_self, written, plan]
      simp [below, NodeRec.stopTimers]
    · rw [State.enterBoot_of_limit _ _ (by rw [written, plan]; exact Nat.not_lt.1 below), State.node_enterHalted, written, plan]
      simp [below, drives, NodeRec.stopTimers]

/-- R44, R46. -/
@[simp] theorem State.node_enterSettling (m : SettleMark) :
    (s.enterSettling n m).node n =
      { (s.node n).stopTimers with
        state := .settling
        mark := some m
        settle := .start (match m with | .warm => (s.nodePlan n).warmSettleMs | .cold => (s.nodePlan n).coldSettleMs) } := by
  cases m <;> simp [State.enterSettling]

/-- R40. -/
@[simp] theorem State.node_takeHello (p : List Byte) :
    (s.takeHello n p).node n =
      { (s.node n).stopTimers with
        cause := some (classify (bootReason p) (s.node n).drive (s.nodePlan n).resetDrive), drive := none
        warmCapable := warmCapable p } := by
  simp [State.takeHello, NodeRec.stopTimers]

/-- R43: a WARM verdict. -/
theorem State.giveVerdict_of_warm (warm : s.verdict n = .warm) :
    s.giveVerdict n =
      (s.reply (.node n) .hello .ok (.hello .warm ((s.node n).cause.getD .unannounced) (s.node n).attempts)).modNode n
        fun q => { q with state := .queued } := by
  simp [State.giveVerdict, warm]

/-- R44: a COLD verdict. -/
theorem State.giveVerdict_of_cold {why : ColdReason} (cold : s.verdict n = .cold why) :
    s.giveVerdict n =
      ((s.reply (.node n) .hello .ok (.hello (.cold why) ((s.node n).cause.getD .unannounced) (s.node n).attempts)).enterSettling
        n .cold).raise .coldStart := by
  simp [State.giveVerdict, cold]

theorem State.node_giveVerdict :
    (s.giveVerdict n).node n =
      if s.verdict n = .warm then { s.node n with state := .queued }
      else
        { (s.node n).stopTimers with
          state := .settling, mark := some .cold, settle := .start (s.nodePlan n).coldSettleMs } := by
  cases verdict : s.verdict n with
  | warm => simp [State.giveVerdict_of_warm s n verdict]
  | cold why => simp [State.giveVerdict_of_cold s n verdict, State.nodePlan]

/-! ### The channel field, which a restart and a HELLO leave -/

@[simp] theorem State.channel_beginRestart (why : DriveReason) (x : NodeId) :
    ((s.beginRestart n why).node x).channel = (s.node x).channel := by
  by_cases same : x = n
  · subst same
    rw [State.node_beginRestart]
    repeat' split
    all_goals rfl
  · simp [same]

@[simp] theorem State.channel_giveVerdict (x : NodeId) : ((s.giveVerdict n).node x).channel = (s.node x).channel := by
  by_cases same : x = n
  · subst same
    rw [State.node_giveVerdict]
    split <;> rfl
  · simp [same]

/-! ### States outside the queue and the channels -/

/-- A node that neither waits nor is restored. -/
def NodeState.free (st : NodeState) : Prop := st ≠ .queued ∧ st ≠ .restoring

end

theorem NodeState.free_of_eq {st st' : NodeState} (h : st = st') (queued : st' ≠ .queued := by decide)
    (restoring : st' ≠ .restoring := by decide) : st.free := h ▸ ⟨queued, restoring⟩

theorem NodeState.free_of_inService {st : NodeState} (h : st.inService = true) : st.free := by
  cases st <;> simp_all [NodeState.inService, NodeState.free]

theorem State.beginRestart_free (s : State) (n : NodeId) (why : DriveReason) : ((s.beginRestart n why).node n).state.free := by
  rw [State.node_beginRestart]
  repeat' split
  all_goals simp [NodeState.free]

theorem State.giveVerdict_not_restoring (s : State) (n : NodeId) : ((s.giveVerdict n).node n).state ≠ .restoring := by
  rw [State.node_giveVerdict]
  split <;> simp

end Sys2Proof.Machine

/-! PROOF. The queue and the restore channels: the laws of 06 with one node set apart, and what keeps them (R96 to R103, O57). -/

namespace Sys2Proof.Machine

/-! ### What the order of the queue reads -/

/-- What the order key of a member reads of its group record (R97). -/
def GroupRec.orderItems (r : GroupRec) : Option NodeId × Bool × Option Word :=
  (r.duty, r.escalated, if r.state.inHold then r.deadline else none)

theorem State.orderKey_congr {s t : State} {n : NodeId} (groupOf : t.groupOf n = s.groupOf n)
    (items : ∀ g, s.groupOf n = some g → (t.group g).orderItems = (s.group g).orderItems) : t.orderKey n = s.orderKey n := by
  unfold State.orderKey
  rw [groupOf]
  cases member : s.groupOf n with
  | none => rfl
  | some g =>
    obtain ⟨duty, escalated, deadline⟩ : _ ∧ _ ∧ _ := by simpa [GroupRec.orderItems] using items g member
    simp [duty, escalated, deadline]

theorem State.ahead_congr {s t : State} {a b : NodeId} (first : t.orderKey a = s.orderKey a) (second : t.orderKey b = s.orderKey b)
    (now : t.clock.ms = s.clock.ms) : t.ahead a b = s.ahead a b := by
  simp only [← State.keyBefore_eq_ahead, State.keyBefore, first, second, now]

/-- The order of the queue depends on the plan, the groups' hold and roles, and the time. -/
theorem State.orderLaw_congr {s t : State} (law : s.orderLaw) (queue : t.queue.Sublist s.queue) (active : t.active = s.active)
    (items : ∀ g, (t.group g).orderItems = (s.group g).orderItems) (clock : t.clock = s.clock) : t.orderLaw := by
  refine (List.Pairwise.sublist queue law).imp fun {a b} before => ?_
  have key (n : NodeId) : t.orderKey n = s.orderKey n :=
    State.orderKey_congr (by rw [State.groupOf, State.groupOf, active]) fun g _ => items g
  rwa [State.ahead_congr (key a) (key b) (by rw [clock])]

/-! ### The laws with one node set apart -/

/-- The laws of the queue, of its order and of the channels, as they hold while a command has taken node x out of both and has not yet
written the state that it goes to. With no node set apart they are those of 06, but for the arbiter. -/
structure State.standing (s : State) (x : Option NodeId) : Prop where
  nodup : s.queue.Nodup
  queued : ∀ n, n ∈ s.queue ↔ some n ≠ x ∧ (s.node n).state = .queued
  order : s.orderLaw
  restoring : ∀ n, (s.node n).channel.isSome = true ↔ some n ≠ x ∧ (s.node n).state = .restoring
  bound : ∀ n c, (s.node n).channel = some c ↔ ∃ b, s.chan c = some b ∧ b.node = n

/-- The laws of 06 with node x set apart. -/
structure State.schedules (s : State) (x : Option NodeId) : Prop extends s.standing x where
  arbiter : s.arbiterLaw

theorem State.schedulerLaw_iff (s : State) : s.schedulerLaw ↔ s.schedules none := by
  constructor
  · rintro ⟨⟨nodup, queued⟩, order, ⟨restoring, bound⟩, arbiter⟩
    exact ⟨⟨nodup, by simpa using queued, order, by simpa using restoring, bound⟩, arbiter⟩
  · rintro ⟨⟨nodup, queued, order, restoring, bound⟩, arbiter⟩
    exact ⟨⟨nodup, by simpa using queued⟩, order, ⟨by simpa using restoring, bound⟩, arbiter⟩

/-- The node that a restore channel works for. -/
def State.boundNode (s : State) (c : ChanId) : Option NodeId := (s.chan c).map Binding.node

theorem State.boundNode_eq_some {s : State} {c : ChanId} {n : NodeId} :
    s.boundNode c = some n ↔ ∃ b, s.chan c = some b ∧ b.node = n := by
  simp [State.boundNode]

namespace State.schedules

variable {s t : State} {x : Option NodeId} {n : NodeId}

theorem congr_order (h : s.schedules x) (queue : t.queue.Perm s.queue) (order : t.orderLaw)
    (state : ∀ m, some m ≠ x → (t.node m).state = (s.node m).state) (channel : ∀ m, (t.node m).channel = (s.node m).channel)
    (boundNode : ∀ c, t.boundNode c = s.boundNode c) : t.schedules x := by
  refine ⟨⟨queue.nodup_iff.2 h.nodup, fun m => ?_, order, fun m => ?_, fun m c => ?_⟩, fun waiting c => ?_⟩
  · rw [queue.mem_iff, h.queued]
    exact and_congr_right fun other => by rw [state m other]
  · rw [channel, h.restoring]
    exact and_congr_right fun other => by rw [state m other]
  · rw [channel, h.bound, ← State.boundNode_eq_some, ← State.boundNode_eq_some, boundNode]
  · have busy := h.arbiter (fun empty => waiting (by simpa [empty] using queue)) c
    intro idle
    have := boundNode c
    rw [State.boundNode, State.boundNode, idle] at this
    exact busy (Option.map_eq_none_iff.1 this.symm)

/-- What is not of the queue, the states of nodes, the channels and the order keys does not bear on the laws. -/
theorem congr (h : s.schedules x) (queue : t.queue = s.queue) (active : t.active = s.active)
    (items : ∀ g, (t.group g).orderItems = (s.group g).orderItems) (clock : t.clock = s.clock)
    (state : ∀ m, some m ≠ x → (t.node m).state = (s.node m).state) (channel : ∀ m, (t.node m).channel = (s.node m).channel)
    (boundNode : ∀ c, t.boundNode c = s.boundNode c) : t.schedules x :=
  h.congr_order (.of_eq queue) (State.orderLaw_congr h.order (queue ▸ .refl _) active items clock) state channel boundNode

/-- A node outside queue and channels is set apart. -/
theorem setApart (h : s.schedules none) (free : (s.node n).state.free) : s.schedules (some n) := by
  refine ⟨⟨h.nodup, fun m => ?_, h.order, fun m => ?_, h.bound⟩, h.arbiter⟩
  · rw [h.queued]
    have : (s.node m).state = .queued → m ≠ n := fun queued same => free.1 (same ▸ queued)
    simpa using this
  · rw [h.restoring]
    have : (s.node m).state = .restoring → m ≠ n := fun restoring same => free.2 (same ▸ restoring)
    simpa using this

/-- A node set apart that has gone to a state outside queue and channels. -/
theorem joined (h : s.schedules (some n)) (free : (s.node n).state.free) : s.schedules none := by
  refine ⟨⟨h.nodup, fun m => ?_, h.order, fun m => ?_, h.bound⟩, h.arbiter⟩
  · rw [h.queued]
    have : (s.node m).state = .queued → m ≠ n := fun queued same => free.1 (same ▸ queued)
    simpa using this
  · rw [h.restoring]
    have : (s.node m).state = .restoring → m ≠ n := fun restoring same => free.2 (same ▸ restoring)
    simpa using this

/-- The record of the node set apart is written. -/
theorem modNode (h : s.schedules (some n)) {f : NodeRec → NodeRec} (channel : (f (s.node n)).channel = (s.node n).channel) :
    (s.modNode n f).schedules (some n) := by
  refine h.congr (by simp) (by simp) (by simp) (by simp) (fun m other => ?_) (fun m => ?_) fun c => by simp [State.boundNode]
  · rw [State.node_modNode, if_neg fun same => other (congrArg some same)]
  · rw [State.node_modNode]
    split
    · next same => rw [channel, same]
    · rfl

end State.schedules

/-! ### Queue and channels -/

/-- A node stays in the queue only if the channel is bound (R102). -/
theorem State.bindHead_busy {s : State} {c : ChanId} (waiting : (s.bindHead c).queue ≠ []) : (s.bindHead c).chan c ≠ none := by
  unfold State.bindHead at *
  split
  · simp
  · next h =>
    simp only at waiting
    match queue : s.queue, bound : s.chan c with
    | [], _ => simp_all
    | n :: rest, none => exact absurd bound (h n rest queue)
    | _ :: _, some _ => simp

theorem State.chan_bindHead_ne_none {s : State} {c d : ChanId} (h : s.chan d ≠ none) : (s.bindHead c).chan d ≠ none := by
  unfold State.bindHead
  split
  · simp only [State.modNode_frame, State.chan_setChan]
    split <;> simp_all
  · exact h

theorem State.queue_ne_nil_of_bindHead {s : State} {c : ChanId} (h : (s.bindHead c).queue ≠ []) : s.queue ≠ [] := by
  unfold State.bindHead at h
  split at h
  · next queue _ => simp [queue]
  · exact h

/-- After the arbiter no channel is idle while a node waits (R102). -/
theorem State.arbiter_arbiterLaw (s : State) : s.arbiter.arbiterLaw := by
  intro waiting c
  cases c with
  | c0 => exact State.chan_bindHead_ne_none (State.bindHead_busy (State.queue_ne_nil_of_bindHead waiting))
  | c1 => exact State.bindHead_busy waiting

namespace State.standing

variable {s t : State} {x : Option NodeId} {n : NodeId}

/-- The node at the head of the queue is bound to an idle channel (R102). -/
theorem bindHead (h : s.standing x) (c : ChanId) : (s.bindHead c).standing x := by
  unfold State.bindHead
  split
  case h_2 => exact h
  case h_1 n rest waiting idle =>
  have inQueue : some n ≠ x ∧ (s.node n).state = .queued := (h.queued n).1 (by simp [waiting])
  obtain ⟨notAgain, rest_nodup⟩ := List.nodup_cons.1 (waiting ▸ h.nodup)
  have unbound (d : ChanId) : ¬ ∃ b, s.chan d = some b ∧ b.node = n := fun hb => by
    have := ((h.restoring n).1 (by rw [(h.bound n d).2 hb]; rfl)).2
    rw [inQueue.2] at this
    cases this
  refine ⟨rest_nodup, fun m => ?_, ?_, fun m => ?_, fun m d => ?_⟩
  · have before : m ∈ n :: rest ↔ _ := waiting ▸ h.queued m
    rw [State.node_modNode]
    by_cases same : m = n
    · subst same; simpa using notAgain
    · simpa [same] using before
  · exact State.orderLaw_congr h.order (by simp [waiting]) (by simp) (by simp) (by simp)
  · rw [State.node_modNode]
    by_cases same : m = n
    · subst same; simpa using inQueue.1
    · simpa [same] using h.restoring m
  · rw [State.node_modNode]
    simp only [State.modNode_frame, State.chan_setChan]
    by_cases same : m = n
    · subst same
      by_cases here : d = c
      · simp [here]
      · simpa [here, Ne.symm here] using unbound d
    · by_cases here : d = c
      · subst here
        simp [same, h.bound, idle, Ne.symm same]
      · simp [same, here, h.bound]

theorem arbiter (h : s.standing x) : s.arbiter.schedules x :=
  ⟨(h.bindHead .c0).bindHead .c1, s.arbiter_arbiterLaw⟩

end State.standing

namespace State.schedules

variable {s t : State} {x : Option NodeId} {n : NodeId}

/-- A node that has left QUEUED is taken out of the queue (R100). -/
theorem dequeue (h : s.schedules none) (queued : (s.node n).state = .queued) : (s.dequeue n).schedules (some n) := by
  refine ⟨⟨h.nodup.erase n, fun m => ?_, ?_, fun m => ?_, h.bound⟩, fun waiting => h.arbiter fun empty => waiting ?_⟩
  · change m ∈ s.queue.erase n ↔ _
    rw [h.nodup.mem_erase_iff, h.queued]
    simp [State.dequeue]
  · exact State.orderLaw_congr h.order List.erase_sublist rfl (fun _ => rfl) rfl
  · change (s.node m).channel.isSome = true ↔ _ ∧ (s.node m).state = .restoring
    rw [h.restoring]
    have : (s.node m).state = .restoring → m ≠ n := fun restoring same => by rw [same, queued] at restoring; cases restoring
    simpa using this
  · simp [State.dequeue, empty]

/-- A node set apart that has entered QUEUED is placed in the queue (R98). -/
theorem enqueue (h : s.schedules (some n)) (queued : (s.node n).state = .queued) : (s.enqueue n).standing none := by
  have absent : n ∉ s.queue := fun here => ((h.queued n).1 here).1 rfl
  have perm := s.placed_perm s.queue n
  refine ⟨perm.nodup_iff.2 (List.nodup_cons.2 ⟨absent, h.nodup⟩), fun m => ?_, ?_, fun m => ?_, h.bound⟩
  · change m ∈ s.placed s.queue n ↔ _ ∧ (s.node m).state = .queued
    rw [perm.mem_iff, List.mem_cons, h.queued]
    by_cases same : m = n
    · simp [same, queued]
    · simp [same]
  · exact s.placed_ordered h.order absent
  · change (s.node m).channel.isSome = true ↔ _ ∧ (s.node m).state = .restoring
    rw [h.restoring]
    by_cases same : m = n
    · simp [same, queued]
    · simp [same]

/-- A channel unbinds, its node is set apart, and the arbiter runs (R103). -/
theorem unbind (h : s.schedules none) {c : ChanId} {b : Binding} (bound : s.chan c = some b) :
    (s.unbind c).schedules (some b.node) := by
  have channel : (s.node b.node).channel = some c := (h.bound b.node c).2 ⟨b, bound, rfl⟩
  have restoring : (s.node b.node).state = .restoring := ((h.restoring b.node).1 (by rw [channel]; rfl)).2
  rw [State.unbind, bound]
  refine State.standing.arbiter ⟨?_, fun m => ?_, ?_, fun m => ?_, fun m d => ?_⟩
  · simpa using h.nodup
  · simp only [State.modNode_frame, State.setChan_queue, State.endData_frame, State.unpin_frame, h.queued, State.node_modNode]
    by_cases same : m = b.node
    · simp [same, restoring]
    · simp [same]
  · exact State.orderLaw_congr h.order (by simp) (by simp) (by simp) (by simp)
  · rw [State.node_modNode]
    by_cases same : m = b.node
    · simp [same]
    · simpa [same] using h.restoring m
  · rw [State.node_modNode]
    simp only [State.modNode_frame, State.chan_setChan]
    by_cases same : m = b.node
    · subst same
      by_cases here : d = c
      · simp [here]
      · have other : ¬ ∃ b', s.chan d = some b' ∧ b'.node = b.node := fun hb => by
          have := (h.bound b.node d).2 hb
          rw [channel] at this
          exact here (Option.some.inj this).symm
        simpa [here] using other
    · by_cases here : d = c
      · subst here
        have := h.bound m d
        simp only [bound, Option.some.injEq, exists_eq_left'] at this
        simp [same, this, Ne.symm same]
      · simpa [same, here] using h.bound m d

/-- The binding of a channel is written, for the same node. -/
theorem setChan (h : s.schedules x) {c : ChanId} {b b' : Binding} (bound : s.chan c = some b) (same : b'.node = b.node) :
    (s.setChan c (some b')).schedules x := by
  refine h.congr rfl rfl (fun _ => rfl) rfl (fun _ _ => rfl) (fun _ => rfl) fun d => ?_
  rw [State.boundNode, State.boundNode, State.chan_setChan]
  split
  · next here => rw [here, bound]; exact congrArg some same
  · rfl

end State.schedules

end Sys2Proof.Machine

/-! PROOF. The group hold manager and the order of the queue: each of its operations changes group records and puts the members' entries
back in order (R99). -/

namespace Sys2Proof.Machine

/-! ### The group record after each operation -/

@[simp] theorem State.group_reorderGroup (s : State) (g k : GroupId) : (s.reorderGroup g).group k = s.group k := rfl

/-- R123: the group record that an entry into the hold writes, its deadline counted from `base`. -/
def State.heldRecord (s : State) (g : GroupId) (base : Word) (r : GroupRec) : GroupRec :=
  let deadline := base + msOfSeconds (s.groupPlan g).holdTime
  let point := deadline - msOfSeconds (s.groupPlan g).margin
  { r with
    state := if reached deadline s.clock.ms then .unserved else .held
    deadline := some deadline
    point := some point
    pointTaken := reached point s.clock.ms
    escalated := s.escalatingTripped g
    declined := false
    outstanding := false
    roleLater := none }

/-- The takeover point of a hold counted from `base` (R8). -/
def State.holdPoint (s : State) (g : GroupId) (base : Word) : Word :=
  base + msOfSeconds (s.groupPlan g).holdTime - msOfSeconds (s.groupPlan g).margin

/-- R123: the entry into the hold, up to its search for a standby. -/
def State.holdEntered (s : State) (g : GroupId) (base : Word) : State :=
  let u := (s.modGroup g (s.heldRecord g base)).raise .held
  (if reached (base + msOfSeconds (s.groupPlan g).holdTime) s.clock.ms then u.raise .unserved else u).reorderGroup g

theorem State.enterHold_eq (s : State) (g : GroupId) (base : Word) :
    s.enterHold g base =
      if reached (s.holdPoint g base) s.clock.ms || s.escalatingTripped g then (s.holdEntered g base).seekTakeover g
      else s.holdEntered g base := rfl

theorem State.group_leaveHold (s : State) (g : GroupId) (after : GroupState) :
    (s.leaveHold g after).group g =
      { s.group g with
        state := after, deadline := none, point := none, pointTaken := false, escalated := false, declined := false } := by
  simp [State.leaveHold]

/-- R130: the roles are swapped and the hold is over, before the former duty node is told. -/
def State.rolesSwapped (s : State) (g : GroupId) : State :=
  ((s.modGroup g fun r => { r with outstanding := false, duty := r.standby, standby := r.duty }).leaveHold g .takenOver).raise
    .takeover

theorem State.group_rolesSwapped (s : State) (g : GroupId) :
    (s.rolesSwapped g).group g =
      { s.group g with
        state := .takenOver, duty := (s.group g).standby, standby := (s.group g).duty, deadline := none, point := none
        pointTaken := false, outstanding := false, declined := false, escalated := false } := by
  simp [State.rolesSwapped, State.group_leaveHold]

theorem State.acceptTake_eq (s : State) (g : GroupId) :
    s.acceptTake g =
      match (s.group g).roleLater with
      | some n =>
        if (s.group g).duty = some n then
          ((s.rolesSwapped g).send (.node n) (.role g .standby)).modGroup g fun r =>
            { r with roleLater := none, state := .served }
        else s.rolesSwapped g
      | none => s.rolesSwapped g := rfl

/-! ### Work of the group hold manager -/

/-- State t comes from s by work of the group hold manager: node records, channels, plan and time are kept, and a queue in order stays
a queue in order of the same nodes. -/
structure State.regroups (s t : State) : Prop where
  nodes : t.nodes = s.nodes
  channels : t.channels = s.channels
  active : t.active = s.active
  clock : t.clock = s.clock
  queue : s.queue.Nodup → s.orderLaw → t.orderLaw ∧ t.queue.Perm s.queue

theorem State.schedules.regroups {s t : State} {x : Option NodeId} (h : s.schedules x) (groups : s.regroups t) :
    t.schedules x := by
  obtain ⟨order, perm⟩ := groups.queue h.nodup h.order
  exact h.congr_order perm order (fun m _ => by rw [State.node, groups.nodes, State.node])
    (fun m => by rw [State.node, groups.nodes, State.node]) fun c => by
      rw [State.boundNode, State.chan, groups.channels, State.boundNode, State.chan]

namespace State.regroups

variable {s t u : State}

theorem refl (s : State) : s.regroups s := ⟨rfl, rfl, rfl, rfl, fun _ order => ⟨order, .refl _⟩⟩

theorem trans (h : s.regroups t) (h' : t.regroups u) : s.regroups u :=
  ⟨h'.nodes.trans h.nodes, h'.channels.trans h.channels, h'.active.trans h.active, h'.clock.trans h.clock,
    fun nodup order =>
      have ⟨order', perm⟩ := h.queue nodup order
      have ⟨order'', perm'⟩ := h'.queue (perm.nodup_iff.2 nodup) order'
      ⟨order'', perm'.trans perm⟩⟩

/-- A change that the order keys do not read. -/
theorem of_items (nodes : t.nodes = s.nodes) (channels : t.channels = s.channels) (active : t.active = s.active)
    (clock : t.clock = s.clock) (queue : t.queue = s.queue)
    (items : ∀ g, (t.group g).orderItems = (s.group g).orderItems) : s.regroups t :=
  ⟨nodes, channels, active, clock, fun _ order =>
    ⟨State.orderLaw_congr order (queue ▸ .refl _) active items clock, .of_eq queue⟩⟩

/-- R99: after a change of the record of one group, its members' entries are put back. -/
theorem reorder {g : GroupId} (nodes : t.nodes = s.nodes) (channels : t.channels = s.channels) (active : t.active = s.active)
    (clock : t.clock = s.clock) (queue : t.queue = s.queue) (groups : ∀ k, k ≠ g → t.group k = s.group k) :
    s.regroups (t.reorderGroup g) := by
  refine ⟨nodes, channels, active, clock, fun nodup order => ?_⟩
  have groupOf (n : NodeId) : t.groupOf n = s.groupOf n := by rw [State.groupOf, State.groupOf, active]
  have key (n : NodeId) (other : t.groupOf n ≠ some g) : t.orderKey n = s.orderKey n :=
    State.orderKey_congr (groupOf n) fun k member => by
      rw [groups k fun same => other (by rw [groupOf, member, same])]
  have stay : (t.queue.filter fun n => t.groupOf n ≠ some g).Pairwise fun a b => t.ahead a b = true := by
    rw [queue]
    refine (order.sublist List.filter_sublist).imp_of_mem fun {a b} ha hb before => ?_
    have otherA : t.groupOf a ≠ some g := by simpa using (List.mem_filter.1 ha).2
    have otherB : t.groupOf b ≠ some g := by simpa using (List.mem_filter.1 hb).2
    rwa [State.ahead_congr (key a otherA) (key b otherB) (by rw [clock])]
  have placed := t.reorderGroup_spec g (queue ▸ nodup) stay
  exact ⟨placed.1, placed.2.trans (.of_eq queue)⟩

/-! ### The operations -/

theorem modGroup (h : s.regroups t) {g : GroupId} {f : GroupRec → GroupRec}
    (items : (f (t.group g)).orderItems = (t.group g).orderItems) : s.regroups (t.modGroup g f) :=
  h.trans (of_items (by simp) (by simp) (by simp) (by simp) (by simp) fun k => by
    rw [State.group_modGroup]
    split
    · next same => rw [items, same]
    · rfl)

theorem modGroup_reorder (h : s.regroups t) (g : GroupId) (f : GroupRec → GroupRec) :
    s.regroups ((t.modGroup g f).reorderGroup g) :=
  h.trans (reorder (by simp) (by simp) (by simp) (by simp) (by simp) fun k other => by simp [other])

theorem send (h : s.regroups t) (l : Link) (f : Frame) : s.regroups (t.send l f) :=
  h.trans (of_items (by simp) (by simp) (by simp) (by simp) (by simp) (by simp))

theorem reply (h : s.regroups t) (l : Link) (k : Kind) (r : Result) (b : Body) : s.regroups (t.reply l k r b) := h.send l _

theorem raise (h : s.regroups t) (a : Alert) : s.regroups (t.raise a) :=
  h.trans (of_items (by simp) (by simp) (by simp) (by simp) (by simp) (by simp))

theorem endExchange (h : s.regroups t) (n : NodeId) : s.regroups (t.endExchange n) :=
  h.trans (of_items (by simp) (by simp) (by simp) (by simp) (by simp) (by simp))

theorem startExchange (h : s.regroups t) (n : NodeId) (e : Exchange) : s.regroups (t.startExchange n e) :=
  h.trans (of_items (by simp) (by simp) (by simp) (by simp) (by simp) (by simp))

theorem sendTake (h : s.regroups t) (g : GroupId) (n : NodeId) : s.regroups (t.sendTake g n) :=
  ((h.send _ _).startExchange n _).modGroup rfl

theorem seekTakeover (h : s.regroups t) (g : GroupId) : s.regroups (t.seekTakeover g) := by
  unfold State.seekTakeover
  split
  exacts [h.sendTake g _, h]

theorem seekUndeclined (h : s.regroups t) (g : GroupId) : s.regroups (t.seekUndeclined g) := by
  unfold State.seekUndeclined
  split
  exacts [h, h.seekTakeover g]

theorem standbyReachedRunning (h : s.regroups t) (g : GroupId) : s.regroups (t.standbyReachedRunning g) := by
  unfold State.standbyReachedRunning
  split
  exacts [h.seekUndeclined g, h]

theorem holdEntered (h : s.regroups t) (g : GroupId) (base : Word) : s.regroups (t.holdEntered g base) := by
  unfold State.holdEntered
  dsimp only
  split
  all_goals exact h.trans (reorder (by simp) (by simp) (by simp) (by simp) (by simp) fun k other => by simp [other])

theorem enterHold (h : s.regroups t) (g : GroupId) (base : Word) : s.regroups (t.enterHold g base) := by
  rw [State.enterHold_eq]
  split
  exacts [(h.holdEntered g base).seekTakeover g, h.holdEntered g base]

theorem leaveHold (h : s.regroups t) (g : GroupId) (after : GroupState) : s.regroups (t.leaveHold g after) :=
  h.modGroup_reorder g _

theorem declineTake (h : s.regroups t) (g : GroupId) : s.regroups (t.declineTake g) := by
  have declined : s.regroups (t.modGroup g fun r => { r with outstanding := false, declined := true }) := h.modGroup rfl
  unfold State.declineTake
  dsimp only
  repeat' split
  exacts [((declined.send _ _).modGroup rfl).leaveHold g _, declined, declined]

theorem rolesSwapped (h : s.regroups t) (g : GroupId) : s.regroups (t.rolesSwapped g) :=
  (h.trans (reorder (by simp) (by simp) (by simp) (by simp) (by simp) fun k other => by simp [other])).raise .takeover

theorem acceptTake (h : s.regroups t) (g : GroupId) : s.regroups (t.acceptTake g) := by
  rw [State.acceptTake_eq]
  repeat' split
  · refine ((h.rolesSwapped g).send _ _).modGroup ?_
    simp [State.group_rolesSwapped, GroupRec.orderItems, GroupState.inHold]
  · exact h.rolesSwapped g
  · exact h.rolesSwapped g

theorem tellRole (h : s.regroups t) (g : GroupId) (n : Option NodeId) (r : Role) : s.regroups (t.tellRole g n r) := by
  unfold State.tellRole
  repeat' split
  exacts [h.send _ _, h, h]

theorem assignRoles (h : s.regroups t) (g : GroupId) (duty : NodeId) (standby : Option NodeId) :
    s.regroups (t.assignRoles g duty standby) := h.modGroup_reorder g _

theorem claimDuty (h : s.regroups t) (g : GroupId) (n : NodeId) : s.regroups (t.claimDuty g n) :=
  (h.assignRoles g n _).tellRole g _ _

theorem resolveRoles (h : s.regroups t) (g : GroupId) : s.regroups (t.resolveRoles g) := by
  unfold State.resolveRoles
  split
  · exact h
  · dsimp only
    repeat' split
    · exact ((h.assignRoles g _ _).tellRole g _ _).tellRole g _ _
    · exact (h.assignRoles g _ _).tellRole g _ _
    · exact (h.assignRoles g _ _).enterHold g _

theorem resolveIfKnown (h : s.regroups t) (g : GroupId) : s.regroups (t.resolveIfKnown g) := by
  unfold State.resolveIfKnown
  split
  exacts [h.resolveRoles g, h]

theorem noteLeftUnknown (h : s.regroups t) (n : NodeId) : s.regroups (t.noteLeftUnknown n) := by
  unfold State.noteLeftUnknown
  split
  exacts [h.resolveIfKnown _, h]

theorem noteAcquired (h : s.regroups t) (n : NodeId) (claim : Option Role) : s.regroups (t.noteAcquired n claim) := by
  unfold State.noteAcquired
  dsimp only
  repeat' split
  exacts [h, h.claimDuty _ n, h.resolveIfKnown _, h.standbyReachedRunning _, (h.send _ _).standbyReachedRunning _, h]

theorem noteLeftService (h : s.regroups t) (n : NodeId) : s.regroups (t.noteLeftService n) := by
  unfold State.noteLeftService
  split
  · exact h
  · dsimp only
    repeat' split
    exacts [h.enterHold _ _, h.modGroup rfl, (h.endExchange n).declineTake _, h]

theorem noteStandbyRunning (h : s.regroups t) (n : NodeId) : s.regroups (t.noteStandbyRunning n) := by
  unfold State.noteStandbyRunning
  repeat' split
  exacts [h.standbyReachedRunning _, h, h]

theorem noteResumed (h : s.regroups t) (n : NodeId) : s.regroups (t.noteResumed n) := by
  unfold State.noteResumed
  split
  · exact h
  · dsimp only
    repeat' split
    · next takenOver => exact h.modGroup (by simp [GroupRec.orderItems, takenOver, GroupState.inHold])
    · exact h
    · exact h.modGroup rfl
    · exact h.leaveHold _ _
    · exact h

theorem reportTrip (h : s.regroups t) (g : GroupId) : s.regroups (t.reportTrip g) := by
  unfold State.reportTrip
  split
  exacts [(h.modGroup_reorder g _).seekTakeover g, h]

/-! ### The monitor, which reports trips to the group hold manager -/

theorem setMonitor (h : s.regroups t) (c : Fin 16) (m : MonChannel) : s.regroups (t.setMonitor c m) :=
  h.trans (of_items rfl rfl rfl rfl rfl fun _ => rfl)

theorem tripChannel (h : s.regroups t) (c : Fin 16) (m : MonChannel) : s.regroups (t.tripChannel c m) := by
  unfold State.tripChannel
  dsimp only
  split
  exacts [((h.setMonitor _ _).raise _).reportTrip _, (h.setMonitor _ _).raise _]

theorem countReading (h : s.regroups t) (c : Fin 16) (m : MonChannel) (value : Nat) :
    s.regroups (t.countReading c m value) := by
  unfold State.countReading
  repeat' split
  exacts [h.tripChannel c m, h.setMonitor _ _, h.setMonitor _ _]

theorem takeReading (h : s.regroups t) (r : Nat × Nat) : s.regroups (t.takeReading r) := by
  unfold State.takeReading State.comparatorReading State.twoTimesReading
  dsimp only
  repeat' split
  exacts [h, h, h, h.raise _, h.setMonitor _ _, h, h.countReading _ _ _, (h.setMonitor _ _).raise _, h, h.countReading _ _ _]

theorem takeReadings (h : s.regroups t) (rs : List (Nat × Nat)) : s.regroups (t.takeReadings rs) := by
  unfold State.takeReadings
  induction rs generalizing t with
  | nil => exact h
  | cons r rs ih => exact ih (h.takeReading r)

end State.regroups

end Sys2Proof.Machine

/-! PROOF. The laws of the queue and of the channels under every command (R96 to R103, O57). -/

namespace Sys2Proof.Machine

namespace State.schedules

variable {s t : State} {x : Option NodeId} {n : NodeId}

/-- A change outside the queue, the groups, the states of nodes and the channels. -/
theorem kept (h : s.schedules x) (queue : t.queue = s.queue := by simp) (active : t.active = s.active := by simp)
    (groups : t.groups = s.groups := by simp) (clock : t.clock = s.clock := by simp)
    (state : ∀ m, (t.node m).state = (s.node m).state := by simp)
    (channel : ∀ m, (t.node m).channel = (s.node m).channel := by simp) (channels : t.channels = s.channels := by simp) :
    t.schedules x :=
  h.congr queue active (fun g => by rw [State.group, groups, State.group]) clock (fun m _ => state m) channel fun c => by
    rw [State.boundNode, State.chan, channels, State.boundNode, State.chan]

theorem raise (h : s.schedules x) (a : Alert) : (s.raise a).schedules x := h.kept

/-! ### The node set apart -/

/-- The node set apart is given another record, which keeps its channel field. -/
theorem written (h : s.schedules (some n)) (queue : t.queue = s.queue := by simp) (active : t.active = s.active := by simp)
    (groups : t.groups = s.groups := by simp) (clock : t.clock = s.clock := by simp)
    (others : ∀ m, m ≠ n → t.node m = s.node m := by simp_all)
    (channel : (t.node n).channel = (s.node n).channel := by simp [NodeRec.stopTimers])
    (channels : t.channels = s.channels := by simp) : t.schedules (some n) := by
  refine h.congr queue active (fun g => by rw [State.group, groups, State.group]) clock
    (fun m other => by rw [others m fun same => other (congrArg some same)]) (fun m => ?_)
    fun c => by rw [State.boundNode, State.chan, channels, State.boundNode, State.chan]
  by_cases same : m = n
  · rw [same, channel]
  · rw [others m same]

/-- A node outside queue and channels goes to another state outside them. -/
theorem modNode_free (h : s.schedules none) (before : (s.node n).state.free) {f : NodeRec → NodeRec}
    (channel : (f (s.node n)).channel = (s.node n).channel) (after : (f (s.node n)).state.free) :
    (s.modNode n f).schedules none :=
  ((h.setApart before).modNode channel).joined (by rwa [State.node_modNode_self])

theorem modNode_kept (h : s.schedules x) {f : NodeRec → NodeRec} (state : ∀ r, (f r).state = r.state)
    (channel : ∀ r, (f r).channel = r.channel) : (s.modNode n f).schedules x := by
  refine h.kept (state := fun m => ?_) (channel := fun m => ?_)
  all_goals
    rw [State.node_modNode]
    split
    · next same => simp [same, state, channel]
    · rfl

theorem enterHalted (h : s.schedules (some n)) : (s.enterHalted n).schedules (some n) := h.written

theorem takeHello (h : s.schedules (some n)) (p : List Byte) : (s.takeHello n p).schedules (some n) := h.written

/-- A node set apart whose restart begins leaves the scheduler. -/
theorem beginRestart (h : s.schedules (some n)) (why : DriveReason) : (s.beginRestart n why).schedules none :=
  (h.written : (s.beginRestart n why).schedules (some n)).joined (s.beginRestart_free n why)

theorem enterBoot (h : s.schedules none) (free : (s.node n).state.free) : (s.enterBoot n).schedules none := by
  by_cases below : (s.node n).attempts < (s.nodePlan n).attemptLimit
  · rw [State.enterBoot_of_below s n below]
    exact h.modNode_free free rfl (by simp [NodeState.free])
  · rw [State.enterBoot_of_limit s n (Nat.not_lt.1 below)]
    exact (h.setApart free).enterHalted.joined (by simp [NodeState.free])

theorem enterSettling (h : s.schedules (some n)) (m : SettleMark) : (s.enterSettling n m).schedules none :=
  (h.written : (s.enterSettling n m).schedules (some n)).joined (by simp [NodeState.free])

theorem giveVerdict (h : s.schedules (some n)) : (s.giveVerdict n).schedules (some n) := by
  cases verdict : s.verdict n with
  | warm => rw [State.giveVerdict_of_warm s n verdict]; exact h.written
  | cold why => rw [State.giveVerdict_of_cold s n verdict]; exact h.written

theorem restartFromService (h : s.schedules none) (inService : (s.node n).state.inService = true) (why : DriveReason) :
    (s.restartFromService n why).schedules none := by
  have left : (s.leaveService n true).schedules none := h.kept
  have begun := (left.setApart (n := n) (by simpa using NodeState.free_of_inService inService)).beginRestart why
  exact begun.regroups ((State.regroups.refl _).noteLeftService n)

/-- R98: a node set apart that may have entered QUEUED. -/
theorem queueIfWarm (h : s.schedules (some n)) (notRestoring : (s.node n).state ≠ .restoring) :
    (s.queueIfWarm n).schedules none := by
  unfold State.queueIfWarm
  split
  · next queued => exact (h.enqueue queued).arbiter
  · next notQueued => exact h.joined ⟨notQueued, notRestoring⟩

/-- R103, for the node that the channel works for. -/
theorem unbindNode (h : s.schedules none) {c : ChanId} (bound : s.boundNode c = some n) :
    (s.unbind c).schedules (some n) := by
  obtain ⟨b, chan, rfl⟩ := State.boundNode_eq_some.1 bound
  exact h.unbind chan

/-- A node in RESTORING has a channel that works for it. -/
theorem exists_channel (h : s.schedules none) (restoring : (s.node n).state = .restoring) :
    ∃ c b, (s.node n).channel = some c ∧ s.chan c = some b ∧ b.node = n := by
  obtain ⟨c, channel⟩ := Option.isSome_iff_exists.1 ((h.restoring n).2 ⟨by simp, restoring⟩)
  obtain ⟨b, chan, node⟩ := (h.bound n c).1 channel
  exact ⟨c, b, channel, chan, node⟩

/-! ### HELLO and HALT -/

theorem endForHello (h : s.schedules none) : (s.endForHello n).schedules (some n) := by
  unfold State.endForHello
  split
  case h_1 state | h_2 state =>
    have left : (s.leaveService n false).schedules none := h.kept
    exact left.setApart (by simp [state, NodeState.free])
  case h_3 state => exact h.dequeue state
  case h_4 state =>
    obtain ⟨c, b, channel, chan, rfl⟩ := h.exists_channel state
    rw [State.silentAbort, channel]
    exact h.unbind chan
  all_goals next state => exact h.setApart (NodeState.free_of_eq state)

theorem unannounced (h : s.schedules none) (p : List Byte) : (s.unannounced n p).schedules none := by
  have taken := (h.endForHello (n := n)).takeHello p
  have told {u : State} (hu : u.schedules (some n) ∧ (u.node n).state ≠ .restoring) (b : Bool) :
      ((if b then u.noteLeftService n else u).queueIfWarm n).schedules none := by
    cases b
    · exact hu.1.queueIfWarm hu.2
    · exact (hu.1.regroups ((State.regroups.refl u).noteLeftService n)).queueIfWarm (by simpa using hu.2)
  unfold State.unannounced
  dsimp only
  refine told ?_ _
  split
  · exact ⟨(taken.modNode (f := fun r => { r with attempts := r.attempts + 1 }) rfl).giveVerdict,
      State.giveVerdict_not_restoring _ n⟩
  · exact ⟨taken.enterHalted.kept, by simp⟩

theorem helloTaken (h : s.schedules none) (p : List Byte) : (s.helloTaken n p).schedules none := by
  have given (free : (s.node n).state.free) : ((s.takeHello n p).giveVerdict n).schedules (some n) :=
    ((h.setApart free).takeHello p).giveVerdict
  have notRestoring := State.giveVerdict_not_restoring (s.takeHello n p) n
  unfold State.helloTaken
  split
  case h_1 state =>
    exact ((given (NodeState.free_of_eq state)).regroups ((State.regroups.refl _).noteLeftUnknown n)).queueIfWarm
      (by simpa using notRestoring)
  case h_2 state => exact (given (NodeState.free_of_eq state)).queueIfWarm notRestoring
  case h_8 | h_9 | h_10 => exact h.kept
  all_goals exact h.unannounced p

theorem endForHalt (h : s.schedules none) : (s.endForHalt n).schedules (some n) := by
  unfold State.endForHalt
  split
  case h_1 state | h_2 state =>
    have left : (s.leaveService n true).schedules none := h.kept
    exact left.setApart (by simp [state, NodeState.free])
  case h_3 state => exact h.dequeue state
  case h_4 state =>
    obtain ⟨c, b, channel, chan, rfl⟩ := h.exists_channel state
    have sent : (s.send (.node b.node) (.done .aborted (s.fullGen b))).schedules none := h.kept
    simp only [State.abortForHalt, channel, chan]
    exact sent.unbind (by simpa using chan)
  all_goals next state => exact h.setApart (NodeState.free_of_eq state)

theorem haltNode (h : s.schedules none) : (s.haltNode n).schedules none := by
  have halted : (((s.endForHalt n).enterHalted n).reply .supervisor .halt .ok).schedules none :=
    (h.endForHalt.enterHalted.kept : State.schedules _ (some n)).joined (by simp [NodeState.free])
  unfold State.haltNode
  dsimp only
  split
  · exact halted.regroups ((State.regroups.refl _).noteLeftService n)
  · exact halted.regroups ((State.regroups.refl _).noteLeftService n)
  · exact halted.regroups ((State.regroups.refl _).noteLeftUnknown n)
  · exact halted

/-! ### Restores -/

section
variable {c : ChanId} {b : Binding}

theorem secondCold (h : s.schedules none) (bound : s.boundNode c = some b.node) (why : ColdReason) :
    (s.secondCold c b why).schedules none := by
  have sent : (s.send (.node b.node) (.verdict why)).schedules none := h.kept
  exact ((sent.unbindNode (by simpa [State.boundNode] using bound)).enterSettling .cold).raise .coldStart

theorem abortRestore (h : s.schedules none) (bound : s.boundNode c = some b.node) (st : DoneStatus) :
    (s.abortRestore c b st).schedules none := by
  have sent : (s.send (.node b.node) (.done st (s.fullGen b))).schedules none := h.kept
  exact (sent.unbindNode (by simpa [State.boundNode] using bound)).beginRestart _

theorem finishRestore (h : s.schedules none) (bound : s.boundNode c = some b.node) : (s.finishRestore c b).schedules none := by
  have sent (gen : Word) : (s.send (.node b.node) (.done .ok gen)).schedules none := h.kept
  unfold State.finishRestore
  exact ((sent _).unbindNode (by simpa [State.boundNode] using bound)).enterSettling .warm

theorem fallBack (h : s.schedules none) (bound : s.boundNode c = some b.node) (k : Nat) (r : Record) :
    (s.fallBack c b k r).schedules none := by
  have discarded : ((s.discardDamaged r).raise .damaged).schedules none := h.kept
  have bound' : ((s.discardDamaged r).raise .damaged).boundNode c = some b.node := by simpa [State.boundNode] using bound
  obtain ⟨b', chan, same⟩ := State.boundNode_eq_some.1 bound'
  unfold State.fallBack
  dsimp only
  repeat' split
  · exact discarded.setChan chan same.symm
  · exact discarded.secondCold bound' _
  · have pinned (set : List Slot) : (((s.discardDamaged r).raise .damaged).pin set).schedules none := discarded.kept
    exact (pinned _).setChan (b := b') (by simpa using chan) same.symm
  · exact discarded.secondCold bound' _

theorem sendBlock (h : s.schedules none) (bound : s.boundNode c = some b.node) : (s.sendBlock c b).schedules none := by
  obtain ⟨b', chan, same⟩ := State.boundNode_eq_some.1 bound
  unfold State.sendBlock
  split
  · exact h.setChan chan same.symm
  · dsimp only
    split
    · have sent (f : Frame) (e : Exchange) : ((s.send (.node b.node) f).startExchange b.node e).schedules none := h.kept
      exact (sent _ _).setChan (b := b') (by simpa using chan) same.symm
    · have sent (f : Frame) : (s.send (.node b.node) f).schedules none := h.kept
      exact (sent _).fallBack (by simpa [State.boundNode] using bound) _ _

theorem advance (h : s.schedules none) (bound : s.boundNode c = some b.node) : (s.advance c b).schedules none := by
  unfold State.advance
  dsimp only
  repeat' split
  exacts [h.finishRestore bound, h.sendBlock bound, h.sendBlock bound, h.finishRestore bound]

theorem verifyDone (h : s.schedules none) (bound : s.boundNode c = some b.node) : (s.verifyDone c b).schedules none := by
  unfold State.verifyDone
  repeat' split
  exacts [h.sendBlock bound, h.fallBack bound _ _, h]

end

theorem ackTaken (h : s.schedules none) (p : List Byte) : (s.ackTaken n p).schedules none := by
  have ended : (s.endExchange n).schedules none := h.kept
  unfold State.ackTaken State.crcBad State.notReady
  dsimp only
  split
  · split
    · exact ended
    · next c _ =>
      split
      · exact ended
      · next b chan =>
        have bound : (s.endExchange n).boundNode c = some b.node := State.boundNode_eq_some.2 ⟨b, chan, rfl⟩
        split
        · exact ended.advance bound
        · split
          exacts [ended.abortRestore bound _, ended.sendBlock bound]
        · split
          exacts [ended.setChan chan rfl, ended.abortRestore bound _]
  · exact h

theorem dataUnanswered (h : s.schedules none) : (s.dataUnanswered n).schedules none := by
  unfold State.dataUnanswered
  split
  · exact h
  · split
    · next b chan => exact h.abortRestore (State.boundNode_eq_some.2 ⟨b, chan, rfl⟩) _
    · exact h

/-! ### The other frames -/

theorem beatTaken (h : s.schedules none) (p : List Byte) : (s.beatTaken n p).schedules none := by
  have noted : (s.noteBeat n).schedules none := h.modNode_kept (fun _ => rfl) fun _ => rfl
  have noted_state : ((s.noteBeat n).node n).state = (s.node n).state := by simp [State.noteBeat]
  have read {u : State} (hu : u.schedules none) : (u.takeReadings (readings p)).schedules none :=
    hu.regroups ((State.regroups.refl u).takeReadings _)
  unfold State.beatTaken
  dsimp only
  split
  case h_1 | h_2 => exact h
  case h_3 state =>
    have running := noted.modNode_free (n := n) (f := fun r => r.enterRunning (s.nodePlan n) s.clock.ms)
      (NodeState.free_of_eq (noted_state.trans state)) rfl (by simp [NodeState.free, NodeRec.enterRunning])
    exact (read running).regroups ((State.regroups.refl _).noteAcquired n _)
  case h_4 | h_5 => exact read (noted.modNode_kept (fun _ => rfl) fun _ => rfl)
  all_goals exact read noted

theorem quietTaken (h : s.schedules none) : (s.quietTaken n).schedules none := by
  unfold State.quietTaken
  split
  · next state =>
    repeat' split
    · exact h.kept
    · exact (h.modNode_free (n := n) (f := fun r => { r with state := .quiet, nudgeSent := false })
        (NodeState.free_of_eq state) rfl (by simp [NodeState.free])).kept
    · exact h.kept
  · exact h.kept

theorem awakeTaken (h : s.schedules none) : (s.awakeTaken n).schedules none := by
  unfold State.awakeTaken
  split
  · next state =>
    have running := h.modNode_free (n := n) (f := fun r => { r with state := .running, nudgeSent := false })
      (NodeState.free_of_eq state) rfl (by simp [NodeState.free])
    exact running.regroups (((State.regroups.refl _).reply _ _ _ _).noteStandbyRunning n)
  · exact h.kept

theorem askRestartTaken (h : s.schedules none) : (s.askRestartTaken n).schedules none := by
  unfold State.askRestartTaken
  have replied (r : Result) : (s.reply (.node n) .askRestart r).schedules none := h.kept
  split
  · next inService =>
    split
    · exact (replied .ok).restartFromService (by simpa using inService) .requested
    · exact replied _
  · exact replied _

theorem resumedTaken (h : s.schedules none) : (s.resumedTaken n).schedules none := by
  unfold State.resumedTaken
  dsimp only
  split
  · next state =>
    have running := h.modNode_free (n := n) (f := fun r => r.enterRunning (s.nodePlan n) s.clock.ms)
      (NodeState.free_of_eq state) rfl (by simp [NodeState.free, NodeRec.enterRunning])
    exact running.regroups ((((State.regroups.refl _).noteResumed n).reply _ _ _ _).noteStandbyRunning n)
  · exact h.kept

theorem takenTaken (h : s.schedules none) (p : List Byte) : (s.takenTaken n p).schedules none := by
  unfold State.takenTaken
  dsimp only
  repeat' split
  · exact h.regroups (((State.regroups.refl s).endExchange n).acceptTake _)
  · exact h.regroups (((State.regroups.refl s).endExchange n).declineTake _)
  · exact h
  · exact h

theorem restartTaken (h : s.schedules none) (p : List Byte) : (s.restartTaken p).schedules none := by
  have answered (r : Result) : (s.answer .restart r).schedules none := h.kept
  unfold State.restartTaken
  repeat' split
  · next n _ _ _ _ =>
    unfold State.restartNode
    split
    case h_1 state | h_2 state =>
      split
      exacts [(answered .ok).restartFromService (by simp [state, NodeState.inService]) _, answered _]
    case h_3 state =>
      split
      exacts [((answered .ok).setApart (by simp [state, NodeState.free])).beginRestart _, answered _]
    all_goals exact answered _
  · exact answered _
  · exact answered _

theorem haltTaken (h : s.schedules none) (p : List Byte) : (s.haltTaken p).schedules none := by
  have answered (r : Result) : (s.answer .halt r).schedules none := h.kept
  unfold State.haltTaken State.aboutNode
  dsimp only
  repeat' split
  exacts [answered _, answered _, h.haltNode, answered _]

theorem releaseTaken (h : s.schedules none) (p : List Byte) : (s.releaseTaken p).schedules none := by
  have answered (r : Result) : (s.answer .release r).schedules none := h.kept
  unfold State.releaseTaken State.aboutNode
  dsimp only
  split
  · exact answered _
  · next n _ =>
    split
    · split
      · next halted =>
        have written : ((s.answer .release .ok).modNode n fun r => { r with attempts := 0 }).schedules none :=
          (answered .ok).modNode_kept (fun _ => rfl) fun _ => rfl
        exact (written.setApart (by simp [halted, NodeState.free])).beginRestart _
      · exact answered _
    · exact answered _

end State.schedules

/-! ### APPLY and the part resets, which find or leave nothing queued or bound -/

/-- No node waits for a restore and none is restored. -/
structure State.noRestore (s : State) : Prop where
  queue : s.queue = []
  nodes : ∀ n, (s.node n).state.free ∧ (s.node n).channel = none
  channels : ∀ c, s.chan c = none

theorem State.noRestore.schedules {s : State} (h : s.noRestore) : s.schedules none := by
  refine ⟨⟨by simp [h.queue], fun n => ?_, by simp [State.orderLaw, h.queue], fun n => ?_, fun n c => ?_⟩,
    fun waiting => absurd h.queue waiting⟩
  · simpa [h.queue] using (h.nodes n).1.1
  · simpa [(h.nodes n).2] using (h.nodes n).1.2
  · simp [(h.nodes n).2, h.channels]

/-- R167: with the plan lock off nothing is queued or bound. -/
theorem State.schedules.noRestore {s : State} (h : s.schedules none) (unlocked : s.planLocked = false) : s.noRestore := by
  simp only [State.planLocked, Bool.or_eq_false_iff, List.any_eq_false, Option.isSome_eq_false_iff, Option.isNone_iff_eq_none]
    at unlocked
  obtain ⟨⟨⟨_, c0⟩, c1⟩, idle⟩ := unlocked
  have free (n : NodeId) : (s.node n).state.free := by
    have := idle n (by simp)
    cases state : (s.node n).state <;> simp_all [NodeState.restarting, NodeState.free]
  refine ⟨List.eq_nil_iff_forall_not_mem.2 fun n waiting => (free n).1 ((h.queued n).1 waiting).2, fun n => ⟨free n, ?_⟩,
    fun c => by cases c; exacts [c0, c1]⟩
  refine Option.not_isSome_iff_eq_none.1 fun some => ?_
  exact (free n).2 ((h.restoring n).1 some).2

namespace State.noRestore

variable {s t : State}

theorem kept (h : s.noRestore) (queue : t.queue = s.queue := by simp)
    (nodes : ∀ n, (s.node n).state.free ∧ (s.node n).channel = none → (t.node n).state.free ∧ (t.node n).channel = none := by simp)
    (channels : t.channels = s.channels := by simp) : t.noRestore :=
  ⟨queue.trans h.queue, fun n => nodes n (h.nodes n), fun c => by rw [State.chan, channels]; exact h.channels c⟩

theorem regroups (h : s.noRestore) (groups : s.regroups t) : t.noRestore := by
  obtain ⟨_, perm⟩ := groups.queue (by simp [h.queue]) (by simp [State.orderLaw, h.queue])
  refine ⟨List.perm_nil.1 (perm.trans (.of_eq h.queue)), fun n => ?_, fun c => ?_⟩
  · rw [State.node, groups.nodes]; exact h.nodes n
  · rw [State.chan, groups.channels]; exact h.channels c

theorem foldl {α : Type} {f : State → α → State} (hf : ∀ {u} a, u.noRestore → (f u a).noRestore) (h : s.noRestore)
    (l : List α) : (l.foldl f s).noRestore := by
  induction l generalizing s with
  | nil => exact h
  | cons a l ih => exact ih (hf a h)

theorem regroup (h : s.noRestore) (g : GroupId) : (s.regroup g).noRestore := by
  have forgotten : (s.forgetTake g).noRestore := h.kept
  have written : ((s.active.members g).foldl (fun u n => u.modNode n NodeRec.regrouped) (s.forgetTake g)).noRestore :=
    forgotten.foldl (fun {u} n hu => hu.kept (nodes := fun m free => by
      rw [State.node_modNode]
      split
      · next same =>
        subst same
        refine ⟨?_, free.2⟩
        unfold NodeRec.regrouped
        dsimp only
        split
        exacts [⟨by simp, by simp⟩, free.1]
      · exact free)) _
  exact (written.kept : State.noRestore (State.setGroup _ g _)).regroups ((State.regroups.refl _).resolveIfKnown g)

theorem activate (h : s.noRestore) : s.activate.noRestore := by
  have uprooted := h.foldl (f := State.uproot) (fun n hu => hu.kept)
    (NodeId.all.filter fun n => (s.active.groupOf n).isSome && s.active.moves s.staged n)
  refine State.noRestore.foldl (fun g hu => hu.regroup g) ?_ _
  refine ⟨uprooted.queue, fun n => ?_, uprooted.channels⟩
  obtain ⟨free, channel⟩ := uprooted.nodes n
  simp only [State.node, PerNode.get_ofFn]
  unfold settleNode
  repeat' split
  · exact ⟨⟨by simp [NodeRec.entersUnknown], by simp [NodeRec.entersUnknown]⟩, rfl⟩
  · exact ⟨⟨by simp [NodeRec.atReset], by simp [NodeRec.atReset]⟩, rfl⟩
  · exact ⟨free, channel⟩

end State.noRestore

theorem State.noRestore_resetBlocks (s : State) (planFault : Bool) : (s.resetBlocks planFault).noRestore := by
  refine ⟨rfl, fun n => ?_, fun c => by cases c <;> rfl⟩
  rw [State.node_resetBlocks]
  unfold NodeRec.afterReset
  split
  · exact ⟨⟨by simp [NodeRec.entersUnknown], by simp [NodeRec.entersUnknown]⟩, rfl⟩
  · exact ⟨⟨by simp [NodeRec.atReset], by simp [NodeRec.atReset]⟩, rfl⟩

namespace State.schedules

variable {s t : State} {n : NodeId}

theorem applyTaken (h : s.schedules none) : s.applyTaken.schedules none := by
  unfold State.applyTaken
  split
  · exact h.kept
  · next unlocked =>
    split
    · exact h.kept
    · exact (h.noRestore (by simpa using unlocked)).activate.schedules.kept

/-- A whole queue put in order again at an advance of the clock (log entry 23). -/
theorem tick (h : s.schedules none) : s.tick.schedules none := by
  obtain ⟨order, perm⟩ := State.resortQueue_spec
    { s with
      clock := s.clock.tick
      nodes := .ofFn fun n => (s.node n).tick
      exchanges := .ofFn fun n => (s.exchange n).tick
      channels := ⟨s.channels.c0.map Binding.tick, s.channels.c1.map Binding.tick⟩ } h.nodup
  refine h.congr_order perm order (fun m _ => ?_) (fun m => ?_) fun c => ?_
  · simp [State.tick, State.node, NodeRec.tick]
  · simp [State.tick, State.node, NodeRec.tick]
  · cases c <;> simp [State.tick, State.boundNode, State.chan, PerChan.get, Function.comp_def, Binding.tick]

theorem resyncTaken (s : State) : s.resyncTaken.schedules none := by
  have reset := ((s.storeReset fun _ => true).noRestore_resetBlocks false).schedules
  unfold State.resyncTaken
  exact reset.kept

/-! ### Every command -/

theorem frameOwner (h : s.schedules none) (k : Kind) (l : Link) (p : List Byte) : (frameOwner k l p s).schedules none := by
  cases k with
  | restart => exact h.restartTaken p
  | halt => exact h.haltTaken p
  | release => exact h.releaseTaken p
  | apply => exact h.applyTaken
  | resync => exact resyncTaken s
  | readNode => exact (h.kept : (s.readNodeTaken p).schedules none)
  | readGroup => exact (h.kept : (s.readGroupTaken p).schedules none)
  | readStore => exact (h.kept : (s.answer .readStore .ok (.store s.storeReport)).schedules none)
  | readAlerts => exact (h.kept (state := by simp [State.node]) (channel := by simp [State.node]) : s.readAlertsTaken.schedules none)
  | peekAt => exact (h.kept : (s.peekAtTaken p).schedules none)
  | peekNext => exact (h.kept : s.peekNextTaken.schedules none)
  | limit => exact (h.kept : (s.limitTaken p).schedules none)
  | mask => exact (h.kept (state := by simp [State.node]) (channel := by simp [State.node]) : (s.maskTaken p).schedules none)
  | set => exact (h.kept (state := by simp [State.node]) (channel := by simp [State.node]) : (s.setTaken p).schedules none)
  | save => exact (h.kept (state := by simp [State.node]) (channel := by simp [State.node]) : s.saveTaken.schedules none)
  | hello => cases l; exacts [h, h.helloTaken p]
  | beat => cases l; exacts [h, h.beatTaken p]
  | quiet => cases l; exacts [h, h.quietTaken]
  | awake => cases l; exacts [h, h.awakeTaken]
  | askRestart => cases l; exacts [h, h.askRestartTaken]
  | resumed => cases l; exacts [h, h.resumedTaken]
  | ack => cases l; exacts [h, h.ackTaken p]
  | taken => cases l; exacts [h, h.takenTaken p]
  | who => cases l; exacts [h, (h.kept : (s.whoTaken _).schedules none)]
  | openRecord => cases l; exacts [h, (h.kept : (s.openTaken _ p).schedules none)]
  | block => cases l; exacts [h, (h.kept : (s.blockTaken _ p).schedules none)]
  | commit => cases l; exacts [h, (h.kept : (s.commitTaken _ p).schedules none)]
  | drop => cases l; exacts [h, (h.kept : (s.dropTaken _).schedules none)]

theorem onlyIf (h : s.schedules none) {c : Prop} [Decidable c] (ht : c → t.schedules none) :
    (if c then t else s).schedules none := by
  split
  exacts [ht ‹_›, h]

theorem lapseExpired (h : s.schedules none) : (s.lapseExpired n).schedules none := by
  have lapsed (inService : (s.node n).state.inService = true) : (s.lapseNode n).schedules none :=
    (h.raise .lapse).restartFromService inService .lapse
  unfold State.lapseExpired State.nudge
  dsimp only
  split
  · next state => exact lapsed (by rw [state]; rfl)
  · next state =>
    split
    · exact lapsed (by rw [state]; rfl)
    · have sent : (s.send (.node n) .nudge).schedules none := h.kept
      exact sent.modNode_kept (fun _ => rfl) fun _ => rfl
  all_goals exact h

theorem unanswered (h : s.schedules none) : (s.unanswered n).schedules none := by
  have ended : (s.endExchange n).schedules none := h.kept
  unfold State.unanswered
  split
  exacts [ended, ended.dataUnanswered, ended.regroups ((State.regroups.refl _).declineTake _)]

theorem internalEvent {c : Instr} {f : State → State} (hc : internalEvent c = some f) (h : s.schedules none) :
    (f s).schedules none := by
  cases c <;> cases hc
  case clockTick => exact h.tick
  case saveComplete sum => exact h.kept (state := by simp [State.node]) (channel := by simp [State.node])
  case storageDisturbance b w d =>
    refine h.congr (by simp) (by simp) (by simp) (by simp) (by simp) (by simp) fun c => ?_
    simp [State.boundNode, Function.comp_def]
  case commitPassComplete n => exact h.kept
  case acquireExpiry n =>
    refine h.onlyIf fun due => ?_
    have state : (s.node n).state = .unknown := by simp_all
    have begun := ((h.raise .lapse).setApart (n := n) (NodeState.free_of_eq state)).beginRestart .lapse
    exact begun.regroups ((State.regroups.refl _).noteLeftUnknown n)
  case lapseExpiry n => exact h.onlyIf fun _ => h.lapseExpired
  case stableExpiry n => exact h.onlyIf fun _ => h.modNode_kept (fun _ => rfl) fun _ => rfl
  case pulseExpiry n =>
    refine h.onlyIf fun due => h.enterBoot (NodeState.free_of_eq (st' := .reset) ?_)
    simp_all
  case bootExpiry n =>
    refine h.onlyIf fun due => (h.setApart (NodeState.free_of_eq (st' := .boot) ?_)).beginRestart _
    simp_all
  case settleExpiry n =>
    refine h.onlyIf fun due => (h.setApart (NodeState.free_of_eq (st' := .settling) ?_)).beginRestart _
    simp_all
  case answerTimerExpiry n => exact h.onlyIf fun _ => h.unanswered
  case holdoffExpiry c =>
    dsimp only [State.holdoffEnds]
    split
    · next b chan => exact h.onlyIf fun _ => h.sendBlock (State.boundNode_eq_some.2 ⟨b, chan, rfl⟩)
    · exact h
  case verifyComplete c =>
    dsimp only [State.verifyEnds]
    split
    · next b chan => exact h.onlyIf fun _ => h.verifyDone (State.boundNode_eq_some.2 ⟨b, chan, rfl⟩)
    · exact h
  case takeoverPointReached g =>
    exact h.onlyIf fun _ => h.regroups (((State.regroups.refl s).modGroup rfl).seekUndeclined g)
  case deadlineReached g =>
    refine h.onlyIf fun due => (h.regroups ((State.regroups.refl s).modGroup ?_)).raise _
    have held : (s.group g).state = .held := by simp_all
    simp [GroupRec.orderItems, held, GroupState.inHold]

end State.schedules

theorem exec_schedules {c : Instr} {s t : State} (law : s.schedules none) (h : exec c s = .next t) : t.schedules none := by
  refine exec_keeps (P := fun u => u.schedules none) h law ?_ ?_ ?_ ?_ ?_ ?_ ?_ ?_
  · exact fun l f => law.kept
  · exact fun l => law.kept
  · exact fun k l p _ => law.frameOwner k l p
  · exact fun f hf _ => State.schedules.internalEvent hf law
  · exact fun b => law.kept rfl rfl rfl rfl (fun _ => rfl) (fun _ => rfl) rfl
  · exact (State.noRestore_resetBlocks _ _).schedules
  · exact (State.noRestore_resetBlocks _ _).schedules
  · unfold State.losesSupply
    split
    · have ended : (s.endRequest .supervisor).schedules none := law.kept
      exact ended.kept rfl rfl rfl rfl (fun _ => rfl) (fun _ => rfl) rfl
    · exact law.kept rfl rfl rfl rfl (fun _ => rfl) (fun _ => rfl) rfl

/-- Settles O57: the laws of 06, told as those of a scheduler with one node set apart while a command moves it, are kept by every
command. -/
theorem queueAndChannelsStayConsistent : Obligations.QueueAndChannelsStayConsistent := by
  intro s t law h
  rw [State.schedulerLaw_iff] at law ⊢
  refine step_keeps (P := fun u => u.schedules none) (fun u rest hu => ?_) (fun _ _ _ => exec_schedules) law h
  exact hu.kept rfl rfl rfl rfl (fun _ => rfl) (fun _ => rfl) rfl

end Sys2Proof.Machine

/-! PROOF. The hold, the roles and the TAKE exchanges of the groups under the operations of the group hold manager (R7, R8, R121, R128,
R161, O58). -/

namespace Sys2Proof.Machine

/-! ### The laws, group by group -/

/-- A TAKE of group g is outstanding on the link of node n. -/
def State.takes (s : State) (n : NodeId) (g : GroupId) : Prop := (s.exchange n).outstanding = some (.take g)

/-- What the laws of the hold and of the duty node ask of a group record. -/
structure GroupRec.sound (r : GroupRec) : Prop where
  deadline : r.deadline.isSome = r.state.inHold
  point : r.point.isSome = r.state.inHold
  escalated : r.escalated = true → r.state.inHold = true
  duty : r.duty.isSome = true ↔ r.state ≠ .vacant ∧ r.state ≠ .pending
  outstanding : r.outstanding = true → r.state.inHold = true

/-- What the law of roles asks of a group record under a plan. -/
structure GroupRec.rolesFit (r : GroupRec) (p : Plan) (g : GroupId) : Prop where
  duty : ∀ d, r.duty = some d → d ∈ p.members g ∧ r.standby = p.otherMember g d
  noDuty : r.duty = none → r.standby = none

/-- The laws of 07, the law of roles only for the groups that `named` names, and with it the check of R167 on the active plan. -/
structure State.grouped (s : State) (named : GroupId → Prop) : Prop where
  records : ∀ g, (s.group g).sound
  takes : ∀ n g, s.takes n g → (s.group g).standby = some n ∧ (s.group g).outstanding = true
  roles : ∀ g, named g → s.active.groupFault g = none ∧ (s.group g).rolesFit s.active g

theorem State.grouped_iff (s : State) :
    (s.holdLaw ∧ s.dutyLaw ∧ s.takeLaw) ↔ s.grouped fun _ => False := by
  constructor
  · rintro ⟨hold, duty, takes, outstanding⟩
    exact ⟨fun g => ⟨(hold g).1, (hold g).2.1, (hold g).2.2, duty g, outstanding g⟩, takes, fun g h => h.elim⟩
  · rintro ⟨records, takes, _⟩
    exact ⟨fun g => ⟨(records g).deadline, (records g).point, (records g).escalated⟩, fun g => (records g).duty, takes,
      fun g => (records g).outstanding⟩

theorem State.groupLaw_of_grouped {s : State} (h : s.grouped fun _ => True) : s.groupLaw := by
  obtain ⟨hold, duty, takes⟩ := s.grouped_iff.2 ⟨h.records, h.takes, fun _ h => h.elim⟩
  exact ⟨hold, ⟨duty, fun g => ⟨(h.roles g trivial).2.duty, (h.roles g trivial).2.noDuty⟩⟩, takes⟩

theorem State.grouped_of_groupLaw {s : State} (plan : s.active.firstFault = none) (h : s.groupLaw) :
    s.grouped fun _ => True := by
  obtain ⟨hold, ⟨duty, members⟩, takes⟩ := h
  have base := s.grouped_iff.1 ⟨hold, duty, takes⟩
  exact ⟨base.records, base.takes, fun g _ =>
    ⟨Plan.groupFault_of_firstFault plan g, ⟨(members g).1, (members g).2⟩⟩⟩

/-! ### What does not bear on the groups -/

/-- State t has the groups and the active plan of s, and no TAKE that s has not. -/
structure State.leavesGroups (s t : State) : Prop where
  groups : t.groups = s.groups
  active : t.active = s.active
  takes : ∀ n g, t.takes n g → s.takes n g

/-- No TAKE of group g is outstanding. -/
def State.noTake (s : State) (g : GroupId) : Prop := ∀ n, ¬ s.takes n g

namespace State.grouped

variable {s t : State} {named : GroupId → Prop} {g : GroupId} {n : NodeId}

theorem leavesGroups (h : s.grouped named) (left : s.leavesGroups t) : t.grouped named := by
  have group (g : GroupId) : t.group g = s.group g := by rw [State.group, left.groups, State.group]
  refine ⟨fun g => group g ▸ h.records g, fun n g takes => ?_, fun g strict => ?_⟩
  · rw [group]; exact h.takes n g (left.takes n g takes)
  · rw [group, left.active]; exact h.roles g strict

theorem kept (h : s.grouped named) (groups : t.groups = s.groups := by simp) (active : t.active = s.active := by simp)
    (exchanges : t.exchanges = s.exchanges := by simp) : t.grouped named :=
  h.leavesGroups ⟨groups, active, fun n g => by rw [State.takes, State.takes, State.exchange, exchanges, State.exchange]; exact id⟩

theorem noTake_of_not_outstanding (h : s.grouped named) (idle : (s.group g).outstanding = false) : s.noTake g :=
  fun n takes => by simp [(h.takes n g takes).2] at idle

theorem noTake_of_not_inHold (h : s.grouped named) (out : (s.group g).state.inHold = false) : s.noTake g :=
  h.noTake_of_not_outstanding <| Bool.eq_false_iff.2 fun outstanding => by
    simp [(h.records g).outstanding outstanding] at out

/-- A group has at most one TAKE outstanding, that of its standby. -/
theorem noTake_endExchange (h : s.grouped named) (standby : (s.group g).standby = some n) : (s.endExchange n).noTake g := by
  intro m takes
  by_cases same : m = n
  · simp [same, State.takes, ExchangeSlot.empty] at takes
  · rw [State.takes, State.exchange_endExchange, if_neg same] at takes
    exact same (Option.some.inj ((h.takes m g takes).1.symm.trans standby))

theorem endExchange (h : s.grouped named) (n : NodeId) : (s.endExchange n).grouped named := by
  refine h.leavesGroups ⟨by simp, by simp, fun m g takes => ?_⟩
  rw [State.takes, State.exchange_endExchange] at takes
  split at takes
  · simp [ExchangeSlot.empty] at takes
  · exact takes

/-- A group record is written whose standby and outstanding TAKE agree with the exchanges. -/
theorem modGroup (h : s.grouped named) {f : GroupRec → GroupRec} (sound : (f (s.group g)).sound)
    (takes : s.noTake g ∨ ((f (s.group g)).standby = (s.group g).standby ∧ (f (s.group g)).outstanding = (s.group g).outstanding))
    (roles : named g → (f (s.group g)).rolesFit s.active g) : (s.modGroup g f).grouped named := by
  refine ⟨fun k => ?_, fun m k taking => ?_, fun k strict => ?_⟩
  · rw [State.group_modGroup]
    split
    exacts [sound, h.records k]
  · have before : s.takes m k := by simpa [State.takes] using taking
    rw [State.group_modGroup]
    split
    · next same =>
      subst same
      rcases takes with none | ⟨standby, outstanding⟩
      · exact absurd before (none m)
      · rw [standby, outstanding]; exact h.takes m k before
    · exact h.takes m k before
  · rw [State.group_modGroup]
    simp only [State.modGroup_frame]
    refine ⟨(h.roles k strict).1, ?_⟩
    split
    · next same => subst same; exact roles strict
    · exact (h.roles k strict).2

/-- A group record is written with the same roles and the same TAKE. -/
theorem modGroup_kept (h : s.grouped named) {f : GroupRec → GroupRec} (sound : (f (s.group g)).sound)
    (duty : (f (s.group g)).duty = (s.group g).duty) (standby : (f (s.group g)).standby = (s.group g).standby)
    (outstanding : (f (s.group g)).outstanding = (s.group g).outstanding) : (s.modGroup g f).grouped named := by
  refine h.modGroup sound (.inr ⟨standby, outstanding⟩) fun strict => ?_
  obtain ⟨_, ⟨fit, noDuty⟩⟩ := h.roles g strict
  exact ⟨fun d held => by rw [standby]; exact fit d (duty ▸ held), fun none => by rw [standby]; exact noDuty (duty ▸ none)⟩

/-! ### The operations of the group hold manager -/

theorem send (h : s.grouped named) (l : Link) (f : Frame) : (s.send l f).grouped named := h.kept

theorem reply (h : s.grouped named) (l : Link) (k : Kind) (r : Result) (b : Body) : (s.reply l k r b).grouped named := h.kept

theorem raise (h : s.grouped named) (a : Alert) : (s.raise a).grouped named := h.kept

theorem reorderGroup (h : s.grouped named) (g : GroupId) : (s.reorderGroup g).grouped named := h.kept rfl rfl rfl

/-- R128: TAKE goes to the standby of a group in the hold. -/
theorem sendTake (h : s.grouped named) (hold : (s.group g).state.inHold = true) (standby : (s.group g).standby = some n) :
    (s.sendTake g n).grouped named := by
  have record : (s.sendTake g n).group g = { s.group g with outstanding := true } := by simp [State.sendTake]
  have other (k : GroupId) (ne : k ≠ g) : (s.sendTake g n).group k = s.group k := by simp [ne]
  have active : (s.sendTake g n).active = s.active := by simp
  refine ⟨fun k => ?_, fun m k taking => ?_, fun k strict => ?_⟩
  · by_cases same : k = g
    · rw [same, record]
      have sound := h.records g
      exact ⟨sound.deadline, sound.point, sound.escalated, sound.duty, fun _ => hold⟩
    · rw [other k same]; exact h.records k
  · by_cases ours : k = g
    · rw [ours, record]
      refine ⟨?_, rfl⟩
      by_cases same : m = n
      · rw [same]; exact standby
      · have before : s.takes m k := by simpa [State.takes, same] using taking
        exact ours ▸ (h.takes m k before).1
    · rw [other k ours]
      refine h.takes m k ?_
      by_cases same : m = n
      · have : (s.sendTake g n).exchange n = ⟨some (.take g), .start s.active.answerTime⟩ := by simp [State.sendTake]
        rw [State.takes, same, this] at taking
        cases taking
        exact absurd rfl ours
      · simpa [State.takes, same] using taking
  · rw [active]
    refine ⟨(h.roles k strict).1, ?_⟩
    by_cases same : k = g
    · rw [same, record]
      have fit := (h.roles g (same ▸ strict)).2
      exact ⟨fit.duty, fit.noDuty⟩
    · rw [other k same]; exact (h.roles k strict).2

theorem seekTakeover (h : s.grouped named) (g : GroupId) : (s.seekTakeover g).grouped named := by
  unfold State.seekTakeover State.eligible
  split
  · next n eligible =>
    split at eligible
    · next hold =>
      refine h.sendTake (by simp_all) ?_
      simp only [Option.filter_eq_some_iff] at eligible
      exact eligible.1
    · cases eligible
  · exact h

theorem seekUndeclined (h : s.grouped named) (g : GroupId) : (s.seekUndeclined g).grouped named := by
  unfold State.seekUndeclined
  split
  exacts [h, h.seekTakeover g]

theorem standbyReachedRunning (h : s.grouped named) (g : GroupId) : (s.standbyReachedRunning g).grouped named := by
  unfold State.standbyReachedRunning
  split
  exacts [h.seekUndeclined g, h]

/-- R123: a group whose duty node has gone enters the hold. -/
theorem enterHold (h : s.grouped named) (duty : (s.group g).duty.isSome = true) (free : s.noTake g) (base : Word) :
    (s.enterHold g base).grouped named := by
  have written : (s.modGroup g (s.heldRecord g base)).grouped named := by
    refine h.modGroup ?_ (.inl free) fun strict => ⟨(h.roles g strict).2.duty, (h.roles g strict).2.noDuty⟩
    unfold State.heldRecord
    dsimp only
    split
    all_goals constructor <;> simp [GroupState.inHold, duty]
  have entered : (s.holdEntered g base).grouped named := by
    unfold State.holdEntered
    dsimp only
    split
    exacts [((written.raise _).raise _).reorderGroup g, (written.raise _).reorderGroup g]
  rw [State.enterHold_eq]
  split
  exacts [entered.seekTakeover g, entered]

/-- R124: a group leaves the hold for a state with a duty node outside it. -/
theorem leaveHold (h : s.grouped named) (duty : (s.group g).duty.isSome = true) (idle : (s.group g).outstanding = false)
    {after : GroupState} (out : after.inHold = false) (withDuty : after ≠ .vacant ∧ after ≠ .pending) :
    (s.leaveHold g after).grouped named := by
  refine State.grouped.reorderGroup (h.modGroup_kept ?_ rfl rfl rfl) g
  constructor <;> simp [out, duty, withDuty, idle]

/-- R131: a TAKE that has ended is declined. -/
theorem declineTake (h : s.grouped named) (free : s.noTake g) : (s.declineTake g).grouped named := by
  have declined : (s.modGroup g fun r => { r with outstanding := false, declined := true }).grouped named := by
    refine h.modGroup ?_ (.inl free) fun strict => ⟨(h.roles g strict).2.duty, (h.roles g strict).2.noDuty⟩
    have sound := h.records g
    exact ⟨sound.deadline, sound.point, sound.escalated, sound.duty, by simp⟩
  unfold State.declineTake
  dsimp only
  split
  · next n later =>
    split
    · next duty =>
      have told := declined.send (.node n) (.role g .duty)
      have unwaited : ((((s.modGroup g fun r => { r with outstanding := false, declined := true }).send (.node n)
          (.role g .duty))).modGroup g fun r => { r with roleLater := none }).grouped named := by
        refine told.modGroup_kept ?_ rfl rfl rfl
        have sound := told.records g
        exact ⟨sound.deadline, sound.point, sound.escalated, sound.duty, sound.outstanding⟩
      refine unwaited.leaveHold ?_ ?_ rfl ⟨by simp, by simp⟩
      · simp at duty; simp [duty]
      · simp
    · exact declined
  · exact declined

/-- R130: the standby's ACCEPT swaps the roles. -/
theorem acceptTake (h : s.grouped named) (standby : (s.group g).standby = some n) (hold : (s.group g).state.inHold = true)
    (free : s.noTake g) : (s.acceptTake g).grouped named := by
  have swapped : (s.rolesSwapped g).grouped named := by
    have written : (s.modGroup g fun r => { r with outstanding := false, duty := r.standby, standby := r.duty }).grouped named := by
      refine h.modGroup ?_ (.inl free) fun strict => ?_
      · have sound := h.records g
        refine ⟨sound.deadline, sound.point, sound.escalated, ?_, by simp⟩
        cases state : (s.group g).state <;> simp_all [GroupState.inHold]
      · obtain ⟨passes, fit⟩ := h.roles g strict
        have served : (s.group g).duty.isSome = true := (h.records g).duty.2 (by
          cases state : (s.group g).state <;> simp_all [GroupState.inHold])
        obtain ⟨d, duty⟩ := Option.isSome_iff_exists.1 served
        obtain ⟨member, other⟩ := fit.duty d duty
        rw [standby] at other
        refine ⟨fun m held => ?_, fun none => absurd (standby.symm.trans none) (by simp)⟩
        obtain rfl : n = m := Option.some.inj (standby.symm.trans held)
        exact ⟨(Plan.otherMember_spec other.symm).1, duty.trans (Plan.otherMember_symm passes member other.symm).symm⟩
    refine (written.leaveHold ?_ ?_ rfl ⟨by simp, by simp⟩).raise _
    · simp [standby]
    · simp
  rw [State.acceptTake_eq]
  split
  · split
    · refine (swapped.send _ _).modGroup_kept ?_ rfl rfl rfl
      simp only [State.send_frame, State.group_rolesSwapped]
      constructor <;> simp [standby, GroupState.inHold]
    · exact swapped
  · exact swapped

/-! ### Resolving the roles -/

/-- R121: both roles of a PENDING group are written. -/
theorem assignRoles (h : s.grouped named) (pending : (s.group g).state = .pending) {duty : NodeId} {standby : Option NodeId}
    (fit : named g → duty ∈ s.active.members g ∧ standby = s.active.otherMember g duty) :
    (s.assignRoles g duty standby).grouped named := by
  have sound := h.records g
  refine State.grouped.reorderGroup (h.modGroup ?_ (.inl ?_) fun strict => ?_) g
  · have deadline := sound.deadline
    have point := sound.point
    have escalated := sound.escalated
    have outstanding := sound.outstanding
    rw [pending] at deadline point escalated outstanding
    exact ⟨deadline, point, escalated, by simp, outstanding⟩
  · exact h.noTake_of_not_inHold (by rw [pending]; rfl)
  · exact ⟨fun d held => Option.some.inj held ▸ fit strict, fun none => by cases none⟩

theorem tellRole (h : s.grouped named) (g : GroupId) (n : Option NodeId) (r : Role) : (s.tellRole g n r).grouped named := h.kept

theorem claimDuty (h : s.grouped named) (pending : (s.group g).state = .pending) (member : s.groupOf n = some g) :
    (s.claimDuty g n).grouped named :=
  (h.assignRoles pending fun _ => ⟨(Plan.mem_members _ _ _).2 member, rfl⟩).tellRole g _ _

theorem resolveRoles (h : s.grouped named) (pending : (s.group g).state = .pending) : (s.resolveRoles g).grouped named := by
  unfold State.resolveRoles
  split
  · exact h
  · next d initial =>
    have member : d ∈ s.active.members g := List.mem_of_find?_eq_some initial
    have assigned := h.assignRoles pending (duty := d) fun _ => ⟨member, rfl⟩
    dsimp only
    split
    · exact (assigned.tellRole g _ _).tellRole g _ _
    · split
      · next o other =>
        have other' : s.active.otherMember g d = some o := (Option.filter_eq_some_iff.1 other).1
        exact (h.assignRoles pending fun strict => ⟨(Plan.otherMember_spec other').1,
          (Plan.otherMember_symm (h.roles g strict).1 member other').symm⟩).tellRole g _ _
      · refine assigned.enterHold (by simp [State.assignRoles]) (assigned.noTake_of_not_inHold ?_) _
        simp [State.assignRoles, GroupState.inHold]

theorem resolveIfKnown (h : s.grouped named) (g : GroupId) : (s.resolveIfKnown g).grouped named := by
  unfold State.resolveIfKnown
  split
  · next known => exact h.resolveRoles (by simp_all)
  · exact h

/-! ### Notices from the node sequencer and the monitor -/

theorem noteLeftUnknown (h : s.grouped named) (n : NodeId) : (s.noteLeftUnknown n).grouped named := by
  unfold State.noteLeftUnknown
  split
  exacts [h.resolveIfKnown _, h]

theorem noteAcquired (h : s.grouped named) (n : NodeId) (claim : Option Role) : (s.noteAcquired n claim).grouped named := by
  unfold State.noteAcquired
  dsimp only
  split
  · exact h
  · next g member =>
    split
    · next pending =>
      split
      exacts [h.claimDuty pending member, h.resolveIfKnown g]
    · repeat' split
      exacts [h.standbyReachedRunning _, (h.send _ _).standbyReachedRunning _, h]

theorem noteLeftService (h : s.grouped named) (n : NodeId) : (s.noteLeftService n).grouped named := by
  unfold State.noteLeftService
  split
  · exact h
  · next g _ =>
    have sound := h.records g
    dsimp only
    split
    · next duty =>
      split
      · next served =>
        refine h.enterHold (by rw [duty]; rfl) (h.noTake_of_not_inHold ?_) _
        rcases (by simpa using served : (s.group g).state = .served ∨ (s.group g).state = .takenOver) with state | state
        all_goals rw [state]; rfl
      · exact h.modGroup_kept ⟨sound.deadline, sound.point, sound.escalated, sound.duty, sound.outstanding⟩ rfl rfl rfl
    · split
      · next waits =>
        have standby : (s.group g).standby = some n := by simp_all
        exact (h.endExchange n).declineTake (h.noTake_endExchange standby)
      · exact h

theorem noteStandbyRunning (h : s.grouped named) (n : NodeId) : (s.noteStandbyRunning n).grouped named := by
  unfold State.noteStandbyRunning
  repeat' split
  exacts [h.standbyReachedRunning _, h, h]

theorem noteResumed (h : s.grouped named) (n : NodeId) : (s.noteResumed n).grouped named := by
  unfold State.noteResumed
  split
  · exact h
  · next g _ =>
    have sound := h.records g
    dsimp only
    split
    · split
      · next takenOver =>
        have deadline := sound.deadline
        have point := sound.point
        have escalated := sound.escalated
        have duty := sound.duty
        have outstanding := sound.outstanding
        rw [takenOver] at deadline point escalated duty outstanding
        exact h.modGroup_kept ⟨deadline, point, escalated, by simpa using duty, outstanding⟩ rfl rfl rfl
      · exact h
    · split
      · next duty =>
        split
        · exact h.modGroup_kept ⟨sound.deadline, sound.point, sound.escalated, sound.duty, sound.outstanding⟩ rfl rfl rfl
        · next idle => exact h.leaveHold (by rw [duty]; rfl) (by simpa using idle) rfl ⟨by simp, by simp⟩
      · exact h

theorem reportTrip (h : s.grouped named) (g : GroupId) : (s.reportTrip g).grouped named := by
  unfold State.reportTrip
  split
  · next hold =>
    have sound := h.records g
    have escalated := h.modGroup_kept (f := fun r => { r with escalated := true })
      ⟨sound.deadline, sound.point, fun _ => by simp_all, sound.duty, sound.outstanding⟩ rfl rfl rfl
    exact (escalated.reorderGroup g).seekTakeover g
  · exact h

theorem setMonitor (h : s.grouped named) (c : Fin 16) (m : MonChannel) : (s.setMonitor c m).grouped named := h.kept

theorem tripChannel (h : s.grouped named) (c : Fin 16) (m : MonChannel) : (s.tripChannel c m).grouped named := by
  unfold State.tripChannel
  dsimp only
  split
  exacts [((h.setMonitor _ _).raise _).reportTrip _, (h.setMonitor _ _).raise _]

theorem countReading (h : s.grouped named) (c : Fin 16) (m : MonChannel) (value : Nat) :
    (s.countReading c m value).grouped named := by
  unfold State.countReading
  repeat' split
  exacts [h.tripChannel c m, h.setMonitor _ _, h.setMonitor _ _]

theorem takeReading (h : s.grouped named) (r : Nat × Nat) : (s.takeReading r).grouped named := by
  unfold State.takeReading State.comparatorReading State.twoTimesReading
  dsimp only
  repeat' split
  exacts [h, h, h, h.raise _, h.setMonitor _ _, h, h.countReading _ _ _, (h.setMonitor _ _).raise _, h, h.countReading _ _ _]

theorem takeReadings (h : s.grouped named) (rs : List (Nat × Nat)) : (s.takeReadings rs).grouped named := by
  unfold State.takeReadings
  induction rs generalizing s with
  | nil => exact h
  | cons r rs ih => exact ih (h.takeReading r)

end State.grouped

end Sys2Proof.Machine

/-! PROOF. The groups under every command (O58): restores leave them, and the node sequencer tells the group hold manager. -/

namespace Sys2Proof.Machine

/-! ### Restores and the start of restarts leave the groups -/

namespace State.leavesGroups

variable {s t u : State} {n : NodeId} {c : ChanId} {b : Binding}

theorem refl (s : State) : s.leavesGroups s := ⟨rfl, rfl, fun _ _ => id⟩

theorem trans (h : s.leavesGroups t) (h' : t.leavesGroups u) : s.leavesGroups u :=
  ⟨h'.groups.trans h.groups, h'.active.trans h.active, fun n g takes => h.takes n g (h'.takes n g takes)⟩

theorem then_kept (h : s.leavesGroups t) (groups : u.groups = t.groups := by simp) (active : u.active = t.active := by simp)
    (exchanges : u.exchanges = t.exchanges := by simp) : s.leavesGroups u :=
  h.trans ⟨groups, active, fun n g => by rw [State.takes, State.takes, State.exchange, exchanges, State.exchange]; exact id⟩

theorem endExchange (h : s.leavesGroups t) (n : NodeId) : s.leavesGroups (t.endExchange n) := by
  refine h.trans ⟨by simp, by simp, fun m g takes => ?_⟩
  rw [State.takes, State.exchange_endExchange] at takes
  split at takes
  · simp [ExchangeSlot.empty] at takes
  · exact takes

theorem startData (h : s.leavesGroups t) (n : NodeId) (position index : Nat) :
    s.leavesGroups (t.startExchange n (.data position index)) := by
  refine h.trans ⟨by simp, by simp, fun m g takes => ?_⟩
  rw [State.takes, State.exchange_startExchange] at takes
  split at takes
  · cases takes
  · exact takes

theorem endData (h : s.leavesGroups t) (n : NodeId) : s.leavesGroups (t.endData n) := by
  unfold State.endData
  split
  exacts [h.endExchange n, h]

theorem send (h : s.leavesGroups t) (l : Link) (f : Frame) : s.leavesGroups (t.send l f) := h.then_kept

theorem raise (h : s.leavesGroups t) (a : Alert) : s.leavesGroups (t.raise a) := h.then_kept

theorem setChan (h : s.leavesGroups t) (c : ChanId) (b : Option Binding) : s.leavesGroups (t.setChan c b) := h.then_kept

theorem enterSettling (h : s.leavesGroups t) (n : NodeId) (m : SettleMark) : s.leavesGroups (t.enterSettling n m) := h.then_kept

theorem beginRestart (h : s.leavesGroups t) (n : NodeId) (why : DriveReason) : s.leavesGroups (t.beginRestart n why) := h.then_kept

theorem unbind (h : s.leavesGroups t) (c : ChanId) : s.leavesGroups (t.unbind c) := by
  unfold State.unbind
  split
  · exact h
  · next b _ => exact ((h.then_kept : s.leavesGroups (t.unpin b.node)).endData b.node).then_kept

theorem endForHello (h : s.leavesGroups t) : s.leavesGroups (t.endForHello n) := by
  unfold State.endForHello State.silentAbort
  repeat' split
  exacts [h.then_kept, h.then_kept, h.then_kept, h.unbind _, h, h, h, h, h, h, h]

theorem endForHalt (h : s.leavesGroups t) : s.leavesGroups (t.endForHalt n) := by
  unfold State.endForHalt State.abortForHalt
  repeat' split
  · exact h.then_kept
  · exact h.then_kept
  · exact h.then_kept
  · exact h
  · next b _ => exact (h.then_kept : s.leavesGroups (t.send (.node n) (.done .aborted (t.fullGen b)))).unbind _
  all_goals exact h

theorem secondCold (h : s.leavesGroups t) (why : ColdReason) : s.leavesGroups (t.secondCold c b why) :=
  (((h.send _ _).unbind c).enterSettling b.node .cold).raise _

theorem abortRestore (h : s.leavesGroups t) (st : DoneStatus) : s.leavesGroups (t.abortRestore c b st) :=
  ((h.send _ _).unbind c).beginRestart b.node _

theorem finishRestore (h : s.leavesGroups t) : s.leavesGroups (t.finishRestore c b) := by
  unfold State.finishRestore
  exact ((h.send _ _).unbind c).enterSettling b.node .warm

theorem fallBack (h : s.leavesGroups t) (k : Nat) (r : Record) : s.leavesGroups (t.fallBack c b k r) := by
  have discarded : s.leavesGroups ((t.discardDamaged r).raise .damaged) := h.then_kept
  unfold State.fallBack
  dsimp only
  repeat' split
  exacts [discarded.then_kept, discarded.secondCold _, discarded.then_kept, discarded.secondCold _]

theorem sendBlock (h : s.leavesGroups t) : s.leavesGroups (t.sendBlock c b) := by
  unfold State.sendBlock
  split
  · exact h.setChan c _
  · dsimp only
    split
    exacts [((h.send _ _).startData _ _ _).setChan c _, (h.send _ _).fallBack _ _]

theorem advance (h : s.leavesGroups t) : s.leavesGroups (t.advance c b) := by
  unfold State.advance
  dsimp only
  repeat' split
  exacts [h.finishRestore, h.sendBlock, h.sendBlock, h.finishRestore]

theorem ackTaken (h : s.leavesGroups t) (p : List Byte) : s.leavesGroups (t.ackTaken n p) := by
  have ended : s.leavesGroups (t.endExchange n) := h.endExchange n
  unfold State.ackTaken State.crcBad State.notReady
  dsimp only
  repeat' split
  exacts [ended, ended, ended.advance, ended.abortRestore _, ended.sendBlock, ended.then_kept, ended.abortRestore _, h]

theorem dataUnanswered (h : s.leavesGroups t) : s.leavesGroups (t.dataUnanswered n) := by
  unfold State.dataUnanswered
  repeat' split
  exacts [h, h.abortRestore _, h]

theorem verifyDone (h : s.leavesGroups t) : s.leavesGroups (t.verifyDone c b) := by
  unfold State.verifyDone
  repeat' split
  exacts [h.sendBlock, h.fallBack _ _, h]

end State.leavesGroups

/-! ### The group record after a part reset (R9) -/

namespace GroupRec

theorem sound_afterReset (members : List NodeId) : (afterReset members).sound := by
  unfold afterReset
  split <;> constructor <;> simp [atReset, GroupState.inHold]

theorem rolesFit_afterReset (members : List NodeId) (p : Plan) (g : GroupId) : (afterReset members).rolesFit p g := by
  constructor
  · intro d held
    cases held
  · exact fun _ => rfl

end GroupRec

/-! ### Frames -/

namespace State.grouped

variable {s t : State} {named : GroupId → Prop} {n : NodeId}

theorem restartFromService (h : s.grouped named) (why : DriveReason) : (s.restartFromService n why).grouped named := by
  have left : (s.leaveService n true).grouped named := h.kept
  have begun : ((s.leaveService n true).beginRestart n why).grouped named := left.kept
  exact begun.noteLeftService n

theorem unannounced (h : s.grouped named) (p : List Byte) : (s.unannounced n p).grouped named := by
  have ended : (s.endForHello n).grouped named := h.leavesGroups (State.leavesGroups.refl s).endForHello
  have taken : ((s.endForHello n).takeHello n p).grouped named := ended.kept
  have told {u : State} (hu : u.grouped named) (b : Bool) :
      ((if b then u.noteLeftService n else u).queueIfWarm n).grouped named := by
    cases b
    · exact hu.kept
    · exact (hu.noteLeftService n).kept
  unfold State.unannounced
  dsimp only
  refine told ?_ _
  split
  · have counted : (((s.endForHello n).takeHello n p).modNode n fun r => { r with attempts := r.attempts + 1 }).grouped named :=
      taken.kept
    exact counted.kept
  · have halted : (((s.endForHello n).takeHello n p).enterHalted n).grouped named := taken.kept
    exact halted.kept

theorem helloTaken (h : s.grouped named) (p : List Byte) : (s.helloTaken n p).grouped named := by
  have taken : (s.takeHello n p).grouped named := h.kept
  have given : ((s.takeHello n p).giveVerdict n).grouped named := taken.kept
  unfold State.helloTaken
  split
  case h_1 => exact (given.noteLeftUnknown n).kept
  case h_2 => exact given.kept
  case h_8 | h_9 | h_10 => exact h.kept
  all_goals exact h.unannounced p

theorem haltNode (h : s.grouped named) : (s.haltNode n).grouped named := by
  have ended : (s.endForHalt n).grouped named := h.leavesGroups (State.leavesGroups.refl s).endForHalt
  have entered : ((s.endForHalt n).enterHalted n).grouped named := ended.kept
  have halted : (((s.endForHalt n).enterHalted n).reply .supervisor .halt .ok).grouped named := entered.kept
  unfold State.haltNode
  dsimp only
  split
  exacts [halted.noteLeftService n, halted.noteLeftService n, halted.noteLeftUnknown n, halted]

theorem modNode (h : s.grouped named) (n : NodeId) (f : NodeRec → NodeRec) : (s.modNode n f).grouped named := h.kept

theorem beatTaken (h : s.grouped named) (p : List Byte) : (s.beatTaken n p).grouped named := by
  have noted : (s.noteBeat n).grouped named := h.kept
  unfold State.beatTaken
  dsimp only
  split
  case h_1 | h_2 => exact h
  case h_3 => exact ((noted.modNode n _).takeReadings _).noteAcquired n _
  case h_4 | h_5 => exact (noted.modNode n _).takeReadings _
  all_goals exact noted.takeReadings _

theorem awakeTaken (h : s.grouped named) : (s.awakeTaken n).grouped named := by
  unfold State.awakeTaken
  split
  exacts [((h.modNode n _).reply _ _ _ _).noteStandbyRunning n, h.reply _ _ _ _]

theorem askRestartTaken (h : s.grouped named) : (s.askRestartTaken n).grouped named := by
  unfold State.askRestartTaken
  repeat' split
  exacts [(h.reply _ _ _ _).restartFromService _, h.reply _ _ _ _, h.reply _ _ _ _]

theorem resumedTaken (h : s.grouped named) : (s.resumedTaken n).grouped named := by
  unfold State.resumedTaken
  dsimp only
  split
  exacts [(((h.modNode n _).noteResumed n).reply _ _ _ _).noteStandbyRunning n, h.reply _ _ _ _]

/-- R130 to R132: the TAKE that a TAKEN answers is the one of its group's standby. -/
theorem takenTaken (h : s.grouped named) (p : List Byte) : (s.takenTaken n p).grouped named := by
  unfold State.takenTaken
  dsimp only
  split
  · next g taking =>
    obtain ⟨standby, outstanding⟩ := h.takes n g taking
    have free := h.noTake_endExchange standby
    repeat' split
    · exact (h.endExchange n).acceptTake (by simpa using standby) (by simpa using (h.records g).outstanding outstanding) free
    · exact (h.endExchange n).declineTake free
    · exact h
  · exact h

theorem restartTaken (h : s.grouped named) (p : List Byte) : (s.restartTaken p).grouped named := by
  have answered (r : Result) : (s.answer .restart r).grouped named := h.kept
  unfold State.restartTaken
  repeat' split
  · unfold State.restartNode
    split
    case h_1 | h_2 => split; exacts [(answered _).restartFromService _, answered _]
    case h_3 =>
      split
      · exact ((answered .ok).kept : ((s.answer .restart .ok).beginRestart _ .commanded).grouped named)
      · exact answered _
    all_goals exact answered _
  · exact answered _
  · exact answered _

theorem haltTaken (h : s.grouped named) (p : List Byte) : (s.haltTaken p).grouped named := by
  have answered (r : Result) : (s.answer .halt r).grouped named := h.kept
  unfold State.haltTaken State.aboutNode
  dsimp only
  repeat' split
  exacts [answered _, answered _, h.haltNode, answered _]

/-! ### APPLY and the part resets -/

/-- Once the TAKE of a group has been forgotten none of it is outstanding. -/
theorem forgetTake_noTake (h : s.grouped named) (g : GroupId) : (s.forgetTake g).noTake g := by
  unfold State.forgetTake
  split
  · split
    · next n standby => exact h.noTake_endExchange standby
    · next none => exact fun n takes => by simp [(h.takes n g takes).1] at none
  · next idle => exact h.noTake_of_not_outstanding (by simpa using idle)

theorem forgetTake (h : s.grouped named) (g : GroupId) : (s.forgetTake g).grouped named := by
  unfold State.forgetTake
  repeat' split
  exacts [h.endExchange _, h, h]

/-- The law of roles is asked of fewer groups. -/
theorem weaken {fewer : GroupId → Prop} (h : s.grouped named) (imp : ∀ g, fewer g → named g) : s.grouped fewer :=
  ⟨h.records, h.takes, fun g strict => h.roles g (imp g strict)⟩

/-- The law of roles is asked of one group more. -/
theorem name (h : s.grouped named) (g : GroupId) (passes : s.active.groupFault g = none)
    (fit : (s.group g).rolesFit s.active g) : s.grouped fun k => named k ∨ k = g := by
  refine ⟨h.records, h.takes, fun k strict => ?_⟩
  rcases strict with strict | rfl
  exacts [h.roles k strict, ⟨passes, fit⟩]

/-- R168: a group whose members change starts again, and then fits the plan now active. -/
theorem regroup (h : s.grouped named) (g : GroupId) (passes : s.active.groupFault g = none) :
    (s.regroup g).grouped fun k => named k ∨ k = g := by
  let members := s.active.members g
  have walked : (members.foldl (fun s n => s.modNode n NodeRec.regrouped) (s.forgetTake g)).grouped named :=
    (h.forgetTake g).kept
  have free : (members.foldl (fun s n => s.modNode n NodeRec.regrouped) (s.forgetTake g)).noTake g := fun n takes =>
    h.forgetTake_noTake g n (by simpa [State.takes, State.exchange] using takes)
  have written : (State.modGroup _ g fun _ => .afterReset members).grouped named :=
    walked.modGroup (GroupRec.sound_afterReset members) (.inl free) fun _ => GroupRec.rolesFit_afterReset members _ g
  exact (written.name g (by simpa using passes) (by simpa using GroupRec.rolesFit_afterReset members _ g)).resolveIfKnown g

theorem regroup_all (gs : List GroupId) {s : State} {named : GroupId → Prop} (h : s.grouped named)
    (passes : ∀ g, s.active.groupFault g = none) : (gs.foldl State.regroup s).grouped fun k => named k ∨ k ∈ gs := by
  induction gs generalizing s named with
  | nil => exact h.weaken fun g strict => by simpa using strict
  | cons g rest ih =>
    exact (ih (h.regroup g (passes g)) (by simpa using passes)).weaken fun k strict => by
      simpa [or_assoc] using strict

/-- R168: the groups whose members stay fit the new plan as they fitted the old one. -/
theorem replan (h : s.grouped named) {t : State} (groups : t.groups = s.groups) (exchanges : t.exchanges = s.exchanges)
    (passes : ∀ g, t.active.groupFault g = none) :
    t.grouped fun g => named g ∧ t.active.members g = s.active.members g := by
  have group (g : GroupId) : t.group g = s.group g := by rw [State.group, groups, State.group]
  refine ⟨fun g => group g ▸ h.records g, fun n g takes => ?_, fun g ⟨strict, same⟩ => ?_⟩
  · rw [group]
    exact h.takes n g (by rwa [State.takes, State.exchange, exchanges] at takes)
  · obtain ⟨_, fit⟩ := h.roles g strict
    refine ⟨passes g, fun d held => ?_, fun none => ?_⟩
    · rw [group] at held ⊢
      rw [same, Plan.otherMember, same]
      exact fit.duty d held
    · rw [group] at none ⊢
      exact fit.noDuty none

theorem activate (h : s.grouped named) (passes : s.staged.firstFault = none) : s.activate.grouped named := by
  let moving := NodeId.all.filter fun n => (s.active.groupOf n).isSome && s.active.moves s.staged n
  have uprooted : (moving.foldl State.uproot s).grouped named := h.kept
  have fits (g : GroupId) := Plan.groupFault_of_firstFault passes g
  have replanned : State.grouped
      { moving.foldl State.uproot s with
        active := s.staged, nodes := .ofFn fun n => settleNode s.active s.staged n ((moving.foldl State.uproot s).node n) }
      fun g => named g ∧ s.staged.members g = (moving.foldl State.uproot s).active.members g :=
    uprooted.replan rfl rfl fits
  refine (regroup_all (GroupId.all.filter fun g => s.active.members g ≠ s.staged.members g) replanned fits).weaken ?_
  intro g strict
  by_cases same : s.active.members g = s.staged.members g
  · exact .inl ⟨strict, by simp [same]⟩
  · exact .inr (List.mem_filter.2 ⟨GroupId.mem_all g, by simpa using same⟩)

theorem applyTaken (h : s.grouped named) : s.applyTaken.grouped named := by
  unfold State.applyTaken
  repeat' split
  exacts [h.reply _ _ _ _, h.reply _ _ _ _, (h.activate ‹_›).reply _ _ _ _]

/-- Every part reset leaves the groups without roles and the links without exchanges. -/
theorem resetBlocks (passes : ∀ g, named g → s.active.groupFault g = none) (planFault : Bool) : (s.resetBlocks planFault).grouped named := by
  have group (g : GroupId) : (s.resetBlocks planFault).group g = .afterReset (s.active.members g) := by
    simp [State.resetBlocks, State.group]
  refine ⟨fun g => group g ▸ GroupRec.sound_afterReset _, fun n g takes => ?_, fun g strict => ?_⟩
  · simp [State.takes, State.exchange, State.resetBlocks, ExchangeSlot.empty] at takes
  · rw [group]
    exact ⟨passes g strict, GroupRec.rolesFit_afterReset _ _ g⟩

/-! ### Every command -/

theorem resyncTaken (h : s.grouped named) : s.resyncTaken.grouped named :=
  (resetBlocks (fun g strict => by simpa using (h.roles g strict).1) false : (State.resetBlocks (s.storeReset _) false).grouped named).reply _ _ _ _

theorem tick (h : s.grouped named) : s.tick.grouped named := by
  refine h.leavesGroups ⟨by simp, by simp, fun n g takes => ?_⟩
  simpa [State.takes, State.exchange, State.tick, ExchangeSlot.tick] using takes

theorem lapseNode (h : s.grouped named) (n : NodeId) : (s.lapseNode n).grouped named :=
  (h.raise .lapse).restartFromService .lapse

theorem lapseExpired (h : s.grouped named) : (s.lapseExpired n).grouped named := by
  unfold State.lapseExpired
  repeat' split
  exacts [h.lapseNode n, h.lapseNode n, h.kept, h, h, h, h, h, h, h, h]

theorem unanswered (h : s.grouped named) : (s.unanswered n).grouped named := by
  unfold State.unanswered
  split
  · exact h.endExchange n
  · exact (h.endExchange n).leavesGroups (State.leavesGroups.refl _).dataUnanswered
  · next g taking => exact (h.endExchange n).declineTake (h.noTake_endExchange (h.takes n g taking).1)

theorem acquireExpired (h : s.grouped named) : (s.acquireExpired n).grouped named :=
  (((h.raise .lapse).kept : ((s.raise .lapse).beginRestart n .lapse).grouped named)).noteLeftUnknown n

/-- R125: a group that is held is unserved from the deadline on. -/
theorem unservedFrom (h : s.grouped named) {g : GroupId} (held : (s.group g).state = .held) :
    (s.modGroup g fun r => { r with state := .unserved }).grouped named := by
  obtain ⟨deadline, point, escalated, duty, outstanding⟩ := h.records g
  rw [held] at deadline point escalated duty outstanding
  exact h.modGroup_kept ⟨deadline, point, escalated, by simpa using duty, outstanding⟩ rfl rfl rfl

theorem onlyIf (h : s.grouped named) {c : Prop} [Decidable c] (ht : c → t.grouped named) : (if c then t else s).grouped named := by
  split
  exacts [ht ‹_›, h]

theorem frameOwner (h : s.grouped named) (k : Kind) (l : Link) (p : List Byte) :
    (frameOwner k l p s).grouped named := by
  cases k with
  | restart => exact h.restartTaken p
  | halt => exact h.haltTaken p
  | apply => exact h.applyTaken
  | resync => exact h.resyncTaken
  | hello => cases l; exacts [h, h.helloTaken p]
  | beat => cases l; exacts [h, h.beatTaken p]
  | awake => cases l; exacts [h, h.awakeTaken]
  | askRestart => cases l; exacts [h, h.askRestartTaken]
  | resumed => cases l; exacts [h, h.resumedTaken]
  | ack => cases l; exacts [h, h.leavesGroups ((State.leavesGroups.refl s).ackTaken p)]
  | taken => cases l; exacts [h, h.takenTaken p]
  | release => exact (h.kept : (s.releaseTaken p).grouped named)
  | readNode => exact (h.kept : (s.readNodeTaken p).grouped named)
  | readGroup => exact (h.kept : (s.readGroupTaken p).grouped named)
  | readStore => exact h.reply _ _ _ _
  | readAlerts => exact (h.kept : s.readAlertsTaken.grouped named)
  | peekAt => exact (h.kept : (s.peekAtTaken p).grouped named)
  | peekNext => exact (h.kept : s.peekNextTaken.grouped named)
  | limit => exact (h.kept : (s.limitTaken p).grouped named)
  | mask => exact (h.kept : (s.maskTaken p).grouped named)
  | set => exact (h.kept : (s.setTaken p).grouped named)
  | save => exact (h.kept : s.saveTaken.grouped named)
  | quiet => cases l; exacts [h, (h.kept : (s.quietTaken _).grouped named)]
  | who => cases l; exacts [h, (h.kept : (s.whoTaken _).grouped named)]
  | openRecord => cases l; exacts [h, (h.kept : (s.openTaken _ p).grouped named)]
  | block => cases l; exacts [h, (h.kept : (s.blockTaken _ p).grouped named)]
  | commit => cases l; exacts [h, (h.kept : (s.commitTaken _ p).grouped named)]
  | drop => cases l; exacts [h, (h.kept : (s.dropTaken _).grouped named)]

theorem internalEvent {c : Instr} {f : State → State} (hc : internalEvent c = some f) (h : s.grouped named) :
    (f s).grouped named := by
  cases c <;> cases hc
  case clockTick => exact h.tick
  case saveComplete sum => exact h.kept
  case storageDisturbance b w d => exact h.kept
  case commitPassComplete n => exact h.kept
  case acquireExpiry n => exact h.onlyIf fun _ => h.acquireExpired
  case lapseExpiry n => exact h.onlyIf fun _ => h.lapseExpired
  case stableExpiry n => exact h.onlyIf fun _ => h.modNode n _
  case pulseExpiry n => exact h.onlyIf fun _ => h.kept
  case bootExpiry n => exact h.onlyIf fun _ => h.kept
  case settleExpiry n => exact h.onlyIf fun _ => h.kept
  case answerTimerExpiry n => exact h.onlyIf fun _ => h.unanswered
  case holdoffExpiry c =>
    dsimp only [State.holdoffEnds]
    split
    · exact h.onlyIf fun _ => h.leavesGroups (State.leavesGroups.refl s).sendBlock
    · exact h
  case verifyComplete c =>
    dsimp only [State.verifyEnds]
    split
    · exact h.onlyIf fun _ => h.leavesGroups (State.leavesGroups.refl s).verifyDone
    · exact h
  case takeoverPointReached g =>
    obtain ⟨deadline, point, escalated, duty, outstanding⟩ := h.records g
    exact h.onlyIf fun _ =>
      (h.modGroup_kept (f := fun r => { r with pointTaken := true }) ⟨deadline, point, escalated, duty, outstanding⟩
        rfl rfl rfl).seekUndeclined g
  case deadlineReached g => exact h.onlyIf fun due => (h.unservedFrom (by simp_all)).raise _

end State.grouped

theorem exec_grouped {c : Instr} {s t : State} {named : GroupId → Prop} (law : s.grouped named)
    (h : exec c s = .next t) : t.grouped named := by
  have loaded (g : GroupId) : s.array.load.1.plan.groupFault g = none :=
    Plan.groupFault_of_firstFault s.array.load_checks.2.1 g
  refine exec_keeps (P := fun u => u.grouped named) h law ?_ ?_ ?_ ?_ ?_ ?_ ?_ ?_
  · exact fun l f => law.send l f
  · exact fun l => law.kept
  · exact fun k l p _ => law.frameOwner k l p
  · exact fun f hf _ => State.grouped.internalEvent hf law
  · exact fun b => law.kept rfl rfl rfl
  · exact State.grouped.resetBlocks (fun g _ => loaded g) _
  · rw [State.pinReset_eq]
    exact State.grouped.resetBlocks (fun g _ => by simpa using loaded g) _
  · unfold State.losesSupply
    split
    · have ended : (s.endRequest .supervisor).grouped named := law.kept
      exact ended.kept rfl rfl rfl
    · exact law.kept rfl rfl rfl

theorem step_grouped {s t : State} {named : GroupId → Prop} (law : s.grouped named) (h : step s = .next t) : t.grouped named :=
  step_keeps (P := fun u => u.grouped named) (fun _ _ hu => hu.kept rfl rfl rfl) (fun _ _ _ => exec_grouped) law h

/-- Settles O58: under the plan law every group is one whose roles fit the plan, and without it the other laws of 07 are those that
ask nothing of the plan. Both are `State.grouped`, which every command keeps. -/
theorem groupsStayConsistent : Obligations.GroupsStayConsistent := by
  constructor
  · intro s t plan law h
    exact State.groupLaw_of_grouped (step_grouped (State.grouped_of_groupLaw plan.2.1 law) h)
  · intro s t law h
    exact t.grouped_iff.2 (step_grouped (s.grouped_iff.1 law) h)

end Sys2Proof.Machine

/-! PROOF. The state right after reset, and that every law holds there. -/

namespace Sys2Proof.Machine

/-! ### The records of the state after reset -/

namespace State

@[simp] theorem node_reset (n : NodeId) : reset.node n = .atReset := PerNode.get_const _ n
@[simp] theorem group_reset (g : GroupId) : reset.group g = .atReset := PerGroup.get_const _ g
@[simp] theorem exchange_reset (n : NodeId) : reset.exchange n = .empty := PerNode.get_const _ n
@[simp] theorem chan_reset (c : ChanId) : reset.chan c = none := by cases c <;> rfl
@[simp] theorem store_reset : reset.store = .empty := rfl

@[simp] theorem port_reset (l : Link) : reset.port l = .atReset := by
  cases l with
  | supervisor => rfl
  | node n => exact PerNode.get_const _ n

@[simp] theorem monitor_reset (k : Fin 16) : reset.monitor[k] = .cleared .default := by
  simp [reset]

/-! ### The laws -/

theorem uploadLaw_reset : reset.uploadLaw := by
  refine ⟨fun n i held => ?_, fun i r held => ?_, fun n => ?_⟩
  · simp [NodeRec.atReset] at held
  · rw [store_reset, Store.dir_empty] at held
    cases held
  · simp [NodeRec.atReset, Port.atReset]

theorem schedulerLaw_reset : reset.schedulerLaw := by
  have empty : reset.queue = [] := rfl
  refine ⟨⟨?_, fun n => ?_⟩, ?_, ⟨fun n => ?_, fun n c => ?_⟩, fun queued => absurd empty queued⟩
  · rw [empty]; exact .nil
  · simp [empty, NodeRec.atReset]
  · rw [State.orderLaw, empty]; exact .nil
  · simp [NodeRec.atReset]
  · simp [NodeRec.atReset]

theorem storeLaw_reset : reset.storeLaw := by
  have free (i : Slot) (r : Record) : reset.store.dir[i] ≠ some r := by
    rw [store_reset, Store.dir_empty]
    exact nofun
  refine ⟨⟨fun i r held => absurd held (free i r), fun i j r q held => absurd held (free i r)⟩, uploadLaw_reset,
    schedulerLaw_reset, fun n => ?_, fun i r b held => absurd held (free i r), fun c b bound => ?_,
    fun i r held => absurd held (free i r)⟩
  · simp
  · simp at bound

theorem groupLaw_reset : reset.groupLaw := by
  refine ⟨fun g => ?_, ⟨fun g => ?_, fun g => ?_⟩, fun n g taking => ?_, fun g => ?_⟩
  · simp [GroupRec.atReset, GroupState.inHold]
  · simp [GroupRec.atReset]
  · simp [GroupRec.atReset]
  · simp [ExchangeSlot.empty] at taking
  · simp [GroupRec.atReset]

theorem planLaw_reset : reset.planLaw := by
  obtain ⟨range, fault, _⟩ := Image.delivered_checks
  exact ⟨range, fault, range⟩

theorem monitorLaw_reset : reset.monitorLaw := by
  intro k
  rw [monitor_reset]
  exact MonChannel.lawful_cleared (by decide)

end State

/-- Settles O54: each law speaks of records that are at their reset values, of slots that hold nothing or of the plan as delivered. -/
theorem lawsHoldAtReset : Obligations.LawsHoldAtReset := by
  refine ⟨Store.wf_empty, Store.blockAccounting_empty, State.storeLaw_reset, fun n => ?attempts, State.groupLaw_reset,
    State.planLaw_reset, State.monitorLaw_reset, ⟨Nat.zero_le _, fun l => ?errors⟩, ?save⟩
  case attempts => simp [NodeRec.atReset]
  case errors => simp
  case save =>
    have idle : State.reset.saving = none := rfl
    simp [State.saveLaw, Port.atReset, idle]

end Sys2Proof.Machine

/-! PROOF. What a command sends and what it leaves, in the forms of the statements; and the requests that are answered from the state
alone (R49, R145, R151, R153, R154). -/

namespace Sys2Proof.Machine

/-! ### Equality of states, field by field -/

theorem State.eq_of_fields {s t : State} (nodes : s.nodes = t.nodes := by simp) (groups : s.groups = t.groups := by simp)
    (supervisorPort : s.supervisorPort = t.supervisorPort := by simp) (nodePorts : s.nodePorts = t.nodePorts := by simp)
    (exchanges : s.exchanges = t.exchanges := by simp) (store : s.store = t.store := by simp)
    (queue : s.queue = t.queue := by simp) (channels : s.channels = t.channels := by simp)
    (monitor : s.monitor = t.monitor := by simp) (alerts : s.alerts = t.alerts := by simp)
    (active : s.active = t.active := by simp) (staged : s.staged = t.staged := by simp)
    (array : s.array = t.array := by simp) (saving : s.saving = t.saving := by simp) (clock : s.clock = t.clock := by simp)
    (resetAsserted : s.resetAsserted = t.resetAsserted := by simp) (powered : s.powered = t.powered := by simp)
    (pending : s.pending = t.pending := by simp) : s = t := by
  cases s
  cases t
  simp_all

/-! ### Frames formed, one after another -/

theorem State.sends_send (s : State) (l : Link) (f : Frame) : s.sends (s.send l f) l [f] := by
  refine ⟨?_, fun m other => by simp [other]⟩
  cases level : s.resetAsserted with
  | false => rw [State.port_send_self s l f level]; simp
  | true => rw [State.send_of_asserted s l f level]; simp

theorem State.sends_nil {s t : State} (l : Link) (ports : ∀ m, t.port m = s.port m) : s.sends t l [] :=
  ⟨by simp [ports], fun m _ => ports m⟩

/-- Frames formed for one link in two steps. -/
theorem State.sends.append {s t u : State} {l : Link} {fs gs : List Frame} (first : s.sends t l fs) (second : t.sends u l gs)
    (level : t.resetAsserted = s.resetAsserted := by simp) : s.sends u l (fs ++ gs) := by
  obtain ⟨port, others⟩ := first
  obtain ⟨port', others'⟩ := second
  refine ⟨?_, fun m other => (others' m other).trans (others m other)⟩
  rw [port', port, level]
  split <;> simp

/-- A change beside the links, before and after a frame is formed. -/
theorem State.sends.of_ports {s t u v : State} {l : Link} {fs : List Frame} (h : t.sends u l fs)
    (before : ∀ m, t.port m = s.port m := by simp) (after : ∀ m, v.port m = u.port m := by simp)
    (level : t.resetAsserted = s.resetAsserted := by simp) : s.sends v l fs := by
  obtain ⟨port, others⟩ := h
  exact ⟨by rw [after, port, before, level], fun m other => by rw [after, others m other, before]⟩

/-- A frame formed after a change beside the links. -/
theorem State.sends_send_after {s t : State} (l : Link) (f : Frame) (ports : ∀ m, t.port m = s.port m := by simp)
    (level : t.resetAsserted = s.resetAsserted := by simp) : s.sends (t.send l f) l [f] :=
  (t.sends_send l f).of_ports ports (fun _ => rfl) level

theorem State.sends_reply_after {s t : State} (l : Link) (k : Kind) (r : Result) (b : Body)
    (ports : ∀ m, t.port m = s.port m := by simp) (level : t.resetAsserted = s.resetAsserted := by simp) :
    s.sends (t.reply l k r b) l [.reply k.code r b] :=
  State.sends_send_after l _ ports level

@[simp] theorem State.nodePorts_modPort_supervisor (s : State) (f : Port → Port) :
    (s.modPort .supervisor f).nodePorts = s.nodePorts := rfl

@[simp] theorem State.nodePorts_send_supervisor (s : State) (f : Frame) : (s.send .supervisor f).nodePorts = s.nodePorts := by
  unfold State.send
  split <;> rfl

@[simp] theorem State.nodePorts_reply_supervisor (s : State) (k : Kind) (r : Result) (b : Body) :
    (s.reply .supervisor k r b).nodePorts = s.nodePorts := s.nodePorts_send_supervisor _

@[simp] theorem State.supervisorPort_send_node (s : State) (n : NodeId) (f : Frame) :
    (s.send (.node n) f).supervisorPort = s.supervisorPort := by
  unfold State.send
  split <;> rfl

@[simp] theorem State.supervisorPort_reply_node (s : State) (n : NodeId) (k : Kind) (r : Result) (b : Body) :
    (s.reply (.node n) k r b).supervisorPort = s.supervisorPort := s.supervisorPort_send_node n _

/-! ### Requests of a node that its state refuses -/

theorem State.openEntry_eq_none {s : State} {n : NodeId} (h : (s.node n).state.inService = false ∨ (s.node n).openRec = none) :
    s.openEntry n = none := by
  unfold State.openEntry
  rcases h with idle | none
  · simp [idle]
  · simp [none]

/-- Settles O23: each request by the test that its owner makes first. -/
theorem requestsOutOfStateAreRefused : Obligations.RequestsOutOfStateAreRefused := by
  intro n p s
  refine ⟨fun passes state => ?_, fun passes state => ?_, fun passes state => ?_, fun passes state => ?_,
    fun passes state => ?_, fun idle => ?_⟩
  · rw [exec_of_passes rfl passes]
    exact congrArg _ (if_neg state)
  · rw [exec_of_passes rfl passes]
    exact congrArg _ (if_neg state)
  · rw [exec_of_passes rfl passes]
    exact congrArg _ (if_neg (by simp [state]))
  · rw [exec_of_passes rfl passes]
    rcases state with state | state <;> simp [frameOwner, onNode, State.helloTaken, state]
  · rw [exec_of_passes rfl passes]
    exact congrArg _ (State.openTaken_of_not_inService state)
  · have none := State.openEntry_eq_none idle
    refine ⟨fun passes => ?_, fun passes => ?_, fun passes => ?_⟩
    · rw [exec_of_passes rfl passes]
      simp [frameOwner, onNode, State.blockTaken, State.refuseUpload, none]
    · rw [exec_of_passes rfl passes]
      simp [frameOwner, onNode, State.commitTaken, State.refuseUpload, none]
    · rw [exec_of_passes rfl passes]
      simp [frameOwner, onNode, State.dropTaken, State.refuseUpload, none]

/-! ### Codes in a payload -/

theorem GroupId.ofNum_eq_some {k : Nat} {g : GroupId} : GroupId.ofNum k = some g ↔ k = g.num := by
  constructor
  · intro h
    exact (by simpa using List.find?_some h : g.num = k).symm
  · rintro rfl
    exact GroupId.ofNum_num g

theorem boolField_of_le {p : List Byte} {i : Nat} (h : octetAt p i ≤ 1) : boolField p i = some (decide (octetAt p i = 1)) := by
  obtain no | yes : octetAt p i = 0 ∨ octetAt p i = 1 := by omega
  · simp [boolField, no]
  · simp [boolField, yes]

theorem boolField_eq_none {p : List Byte} {i : Nat} : boolField p i = none ↔ 1 < octetAt p i := by
  constructor
  · intro h
    by_contra low
    rw [boolField_of_le (by omega)] at h
    cases h
  · intro h
    unfold boolField
    split
    · omega
    · omega
    · rfl

theorem channelOf_val (k : Fin 16) : channelOf k.val = some k := by simp [channelOf]

theorem channelOf_eq_none {k : Nat} : channelOf k = none ↔ 15 < k := by
  unfold channelOf
  split <;> simp <;> omega

theorem modeField_eq_some {p : List Byte} {i : Nat} {m : MonMode} : modeField p i = some m ↔ octetAt p i = m.code := by
  unfold modeField
  split
  · cases m <;> simp_all [MonMode.code]
  · cases m <;> simp_all [MonMode.code]
  · cases m <;> simp_all [MonMode.code]
  · cases m <;> simp_all [MonMode.code]

theorem modeField_isSome {p : List Byte} {i : Nat} : (∃ m, modeField p i = some m) ↔ octetAt p i ≤ 2 := by
  constructor
  · rintro ⟨m, h⟩
    rw [modeField_eq_some.1 h]
    cases m <;> simp [MonMode.code]
  · intro h
    obtain off | comparator | twoTimes : octetAt p i = 0 ∨ octetAt p i = 1 ∨ octetAt p i = 2 := by omega
    · exact ⟨.off, modeField_eq_some.2 off⟩
    · exact ⟨.comparator, modeField_eq_some.2 comparator⟩
    · exact ⟨.twoTimes, modeField_eq_some.2 twoTimes⟩

/-! ### LIMIT -/

theorem MonSettings.valid_iff (m : MonSettings) : m.valid = true ↔
    m.high ≤ 4095 ∧ m.hyst < m.high
      ∧ (m.faultCount = 1 ∨ m.faultCount = 2 ∨ m.faultCount = 4 ∨ m.faultCount = 6) := by
  rw [MonSettings.valid, Bool.and_eq_true, Bool.and_eq_true, decide_eq_true_eq, decide_eq_true_eq, and_assoc]
  simp [Config.maxReading]

/-- R145: the settings that a LIMIT carries, from the fields of its payload. -/
theorem limitSettings_eq {p : List Byte} {g : GroupId} {m : MonMode} (group : octetAt p 1 = g.num) (mode : octetAt p 2 = m.code)
    (escalate : octetAt p 8 ≤ 1) :
    limitSettings p =
      let settings : MonSettings := ⟨g, m, field2 p 3, field2 p 5, octetAt p 7, decide (octetAt p 8 = 1)⟩
      if settings.valid then some settings else none := by
  simp [limitSettings, GroupId.ofNum_eq_some.2 group, modeField_eq_some.2 mode, boolField_of_le escalate]

theorem exists_group {k : Nat} (low : 1 ≤ k) (high : k ≤ 4) : ∃ g : GroupId, k = g.num := by
  cases h : GroupId.ofNum k with
  | none => rw [GroupId.ofNum_eq_none] at h; omega
  | some g => exact ⟨g, GroupId.ofNum_eq_some.1 h⟩

theorem exists_node {k : Nat} (low : 1 ≤ k) (high : k ≤ 8) : ∃ n : NodeId, k = n.num := by
  cases h : NodeId.ofNum k with
  | none => rw [NodeId.ofNum_eq_none] at h; omega
  | some n => exact ⟨n, (by simpa using List.find?_some h : n.num = k).symm⟩

theorem GroupId.num_range (g : GroupId) : 1 ≤ g.num ∧ g.num ≤ 4 := by cases g <;> decide

theorem NodeId.num_range (n : NodeId) : 1 ≤ n.num ∧ n.num ≤ 8 := by cases n <;> decide

/-- R145: the ranges of the settings in a LIMIT. -/
theorem limitSettings_isSome {p : List Byte} : (∃ m, limitSettings p = some m) ↔
    1 ≤ octetAt p 1 ∧ octetAt p 1 ≤ 4 ∧ octetAt p 2 ≤ 2 ∧ field2 p 3 ≤ 4095 ∧ field2 p 5 < field2 p 3
      ∧ (octetAt p 7 = 1 ∨ octetAt p 7 = 2 ∨ octetAt p 7 = 4 ∨ octetAt p 7 = 6) ∧ octetAt p 8 ≤ 1 := by
  constructor
  · rintro ⟨settings, h⟩
    simp only [limitSettings, Option.bind_eq_bind, Option.bind_eq_some_iff] at h
    obtain ⟨g, group, m, mode, e, escalate, h⟩ := h
    have valid := (MonSettings.valid_iff _).1 (Option.ite_none_right_eq_some.1 h).1
    have range := GroupId.num_range g
    rw [GroupId.ofNum_eq_some] at group
    have flag : ¬ 1 < octetAt p 8 := fun high => by simp [boolField_eq_none.2 high] at escalate
    exact ⟨by omega, by omega, modeField_isSome.1 ⟨m, mode⟩, valid.1, valid.2.1, valid.2.2, by omega⟩
  · rintro ⟨low, high, mode, top, hyst, count, flag⟩
    obtain ⟨g, group⟩ := exists_group low high
    obtain ⟨m, mode⟩ := modeField_isSome.2 mode
    rw [limitSettings_eq group (modeField_eq_some.1 mode) flag, if_pos ((MonSettings.valid_iff _).2 ⟨top, hyst, count⟩)]
    exact ⟨_, rfl⟩

/-- Settles O49: a LIMIT names a channel and carries settings exactly when its fields lie in their ranges. -/
theorem limitReplacesTheSettings : Obligations.LimitReplacesTheSettings := by
  intro p s passes
  dsimp only
  rw [exec_of_passes rfl passes]
  refine ⟨fun invalid => ?refused, fun valid k named => ?written⟩
  case refused =>
    simp only [frameOwner, State.limitTaken]
    split
    · next c settings channel carried =>
      have inside : ¬ 15 < octetAt p 0 := fun above => by simp [channelOf_eq_none.2 above] at channel
      have ranges := limitSettings_isSome.1 ⟨settings, carried⟩
      exact absurd ⟨by omega, ranges⟩ invalid
    · rfl
  case written =>
    obtain ⟨_, low, high, mode, top, hyst, count, flag⟩ := valid
    obtain ⟨g, group⟩ := exists_group low high
    obtain ⟨m, mode⟩ := modeField_isSome.2 mode
    rw [modeField_eq_some] at mode
    have carried := limitSettings_eq group mode flag
    rw [if_pos ((MonSettings.valid_iff _).2 ⟨top, hyst, count⟩)] at carried
    refine ⟨_, rfl, ?_⟩
    simp only [frameOwner, State.limitTaken, named, channelOf_val, carried]
    refine ⟨?_, ?_, ?_, ?_, ?_, ?_, ?_, ?_, fun j other => ?_, ?_, ?_⟩
    case refine_10 => exact State.sends_reply_after _ _ _ _
    case refine_11 => exact congrArg (fun u : State => { u with monitor := s.monitor }) (State.reply_restoring_ports _ _ _ _ _)
    case refine_9 =>
      have apart : k.val ≠ j.val := fun same => other (Fin.ext same.symm)
      simp [apart]
    all_goals simp [MonChannel.cleared, group, mode]

end Sys2Proof.Machine

/-! PROOF. The reads, the peek cursor, MASK and SAVE (R73 to R76, R117, R151, R153, R154, R170). -/

namespace Sys2Proof.Machine

/-! ### The reads -/

theorem State.queueReport_of_queued {s : State} {n : NodeId} (h : (s.node n).state = .queued) :
    s.queueReport n = some ⟨s.queue.idxOf n + 1, s.keyEscalated n, s.keyDeadline n⟩ := by
  simp [State.queueReport, h, s.orderKey_escalated, s.orderKey_deadline]

theorem State.restoreReport_of_restoring {s : State} {n : NodeId} {c : ChanId} {b : Binding}
    (state : (s.node n).state = .restoring) (chan : (s.node n).channel = some c) (bound : s.chan c = some b) :
    s.restoreReport n =
      some ⟨c, b.phase, if b.phase ≠ .verify then some b.position else none, if b.phase ≠ .verify then some b.index else none,
        b.notReady, s.fullGen b⟩ := by
  simp [State.restoreReport, state, chan, bound]

theorem State.roleOf_of_no_group {s : State} {n : NodeId} (h : s.groupOf n = none) : s.roleOf n = none := by
  simp [State.roleOf, h]

/-- R76: what is reported of the record that a node has not committed. -/
theorem Store.unfinished_iff (st : Store) (n : NodeId) :
    ((st.nodeReport n).unfinished = none ↔ ∀ e ∈ st.recordsOf n, e.2.isCommitted = true)
      ∧ ∀ e, (st.nodeReport n).unfinished = some e → e ∈ st.recordsOf n ∧ e.2.isCommitted = false := by
  refine ⟨?_, fun e found => ⟨List.mem_of_find?_eq_some found, ?_⟩⟩
  · simp [Store.nodeReport]
  · simpa using List.find?_some found

/-- Settles O44: each report is a picture of the state, and only the reply changes anything. -/
theorem readsReportAndChangeNothing : Obligations.ReadsReportAndChangeNothing := by
  intro p s
  refine ⟨fun passes n named => ?node, fun passes outside => ?noNode, fun passes g named => ?group,
    fun passes outside => ?noGroup, fun passes => ?store⟩
  case node =>
    refine ⟨s.nodeReport n, ?answer, rfl, rfl, rfl, rfl, rfl, rfl, rfl, rfl, rfl, rfl, rfl, rfl, rfl, rfl,
      fun g member => State.roleOf_of_duty member,
      fun g member notDuty standby => (State.roleOf_eq_standby_iff member).2 ⟨notDuty, standby⟩,
      fun g member => State.roleOf_of_neither member, State.roleOf_of_no_group, fun idle => if_neg idle,
      fun idle => if_neg idle, fun queued => ⟨_, State.queueReport_of_queued queued, rfl, rfl, rfl⟩,
      fun c b restoring chan bound =>
        ⟨_, State.restoreReport_of_restoring restoring chan bound, rfl, rfl, rfl, rfl, fun sending => ?sending⟩⟩
    case answer => rw [exec_readNode_of_passes passes, State.readNodeTaken_of_num named]
    case sending => simp [sending]
  case noNode =>
    rw [exec_of_passes rfl passes]
    simp [frameOwner, State.readNodeTaken, State.answer, NodeId.ofNum_eq_none.2 outside]
  case group =>
    rw [exec_of_passes rfl passes]
    simp [frameOwner, State.readGroupTaken, State.answer, named, State.groupReport]
  case noGroup =>
    rw [exec_of_passes rfl passes]
    simp [frameOwner, State.readGroupTaken, State.answer, GroupId.ofNum_eq_none.2 outside]
  case store =>
    refine ⟨s.storeReport, exec_of_passes rfl passes, rfl, rfl, rfl, rfl, fun q reported => ?_⟩
    obtain ⟨n, _, rfl⟩ := List.mem_map.1 reported
    exact ⟨rfl, rfl, s.store.unfinished_iff n⟩

/-! ### MASK -/

/-- R151: a MASK that is taken. -/
theorem State.maskTaken_of_le {s : State} {p : List Byte} (enable : octetAt p 4 ≤ 1) :
    s.maskTaken p =
      { s.reply .supervisor .mask .ok (.oldMasks s.alerts.masks s.alerts.enable) with
        alerts :=
          { s.alerts with masks := (field4 p 0).setWidth 27, enable := decide (octetAt p 4 = 1) } } := by
  simp [State.maskTaken, boolField_of_le enable, State.answer]

theorem State.port_setAlerts (s : State) (a : Alerts) (l : Link) : { s with alerts := a }.port l = s.port l := by
  cases l <;> rfl

/-- Settles O46: the field written, the line that follows from it, and the two answers of the link interface. -/
theorem maskReplacesMasksAndEnable : Obligations.MaskReplacesMasksAndEnable := by
  intro p s
  refine ⟨fun passes => ⟨fun notOff notOn => ?refused, fun either => ?written⟩, fun listens length saving => ?busy,
    fun n listens length => ?nodeLink⟩
  case refused =>
    rw [exec_of_passes rfl passes]
    simp [frameOwner, State.maskTaken, State.answer, boolField_eq_none.2 (by omega : 1 < octetAt p 4)]
  case written =>
    have masks (a : Alert) : ((field4 p 0).setWidth 27).getLsbD a.bit = (field4 p 0).getLsbD a.bit := by
      simp [a.bit_lt]
    rw [exec_of_passes rfl passes]
    refine ⟨s.maskTaken p, rfl, ?_⟩
    have line := alertLineFollowsFlagsMasksAndEnable (s.maskTaken p)
    rw [State.maskTaken_of_le (by omega)] at line ⊢
    refine ⟨masks, rfl, rfl, ?_, ?_, ?_⟩
    · exact line.trans (by simp [masks, passes.1.2, State.flag])
    · exact (s.sends_reply _ .mask _ _).of_ports (fun _ => rfl) fun m => State.port_setAlerts _ _ m
    · exact congrArg (fun u : State => { u with alerts := s.alerts }) (State.reply_restoring_ports s .supervisor .mask .ok _)
  case busy =>
    exact congrArg Host.Outcome.next
      (State.receive_of_busy (l := .supervisor) listens (by rw [length]; decide) rfl rfl (by simp [Kind.lengthOk, length]) rfl saving _)
  case nodeLink =>
    exact congrArg Host.Outcome.next (State.receive_of_not_allowed listens (by rw [length]; decide) rfl rfl _)

/-! ### Damaged words -/

theorem firstDamaged_eq_none {ws : List PoolWord} : firstDamaged ws = none ↔ ∀ w ∈ ws, w.sound = true := by
  simp [firstDamaged]

theorem firstDamaged_eq_some {ws : List PoolWord} {k : Nat} {w : PoolWord} (place : ws[k]? = some w) (damaged : w.sound = false)
    (before : ∀ j x, j < k → ws[j]? = some x → x.sound = true) : firstDamaged ws = some k := by
  obtain ⟨inside, rfl⟩ := List.getElem?_eq_some_iff.1 place
  rw [firstDamaged, List.findIdx?_eq_some_iff_getElem]
  refine ⟨inside, by simp [damaged], fun j earlier => ?_⟩
  simp [before j _ earlier (List.getElem?_eq_getElem (by omega))]

/-! ### The peek cursor -/

theorem Store.committedRecord_eq_none {st : Store} {n : NodeId} {g : Word} (h : ∀ e ∈ st.committed n, e.2.gen ≠ g) :
    st.committedRecord n g = none := by
  simpa [Store.committedRecord] using h

/-- The peek cursor is not seen on the links. -/
@[simp] theorem State.setPeek_kept (s : State) (c : Option Cursor) :
    (s.setPeek c).store = { s.store with peek := c } ∧ (s.setPeek c).resetAsserted = s.resetAsserted
      ∧ ∀ l, (s.setPeek c).port l = s.port l :=
  ⟨rfl, rfl, fun l => State.port_setStore _ _ l⟩

theorem State.setPeek_reply_restoring (s : State) (c : Option Cursor) (k : Kind) (r : Result) (b : Body) :
    { (s.setPeek c).reply .supervisor k r b with
      store := s.store, supervisorPort := s.supervisorPort, nodePorts := s.nodePorts } = s :=
  congrArg (fun u : State => { u with store := s.store }) ((s.setPeek c).reply_restoring_ports .supervisor k r b)

/-- Settles O47: PEEK_AT by its checks, PEEK_NEXT by the first damaged word of what it reads. -/
theorem peekCursorReadsARecord : Obligations.PeekCursorReadsARecord := by
  intro p s
  refine ⟨fun passes => ?peekAt, fun passes => ?peekNext⟩
  case peekAt =>
    rw [exec_of_passes rfl passes]
    refine ⟨fun outside => ?_, fun n named => ⟨fun absent => ?_, fun present gone => ?_, fun r present record => ⟨?_, ?_⟩⟩⟩
    · simp [frameOwner, State.peekAtTaken, State.answer, NodeId.ofNum_eq_none.2 outside]
    · simp [frameOwner, State.peekAtTaken, State.answer, named, absent]
    · simp [frameOwner, State.peekAtTaken, State.answer, named, present, Store.committedRecord_eq_none gone]
    · intro beyond
      simp [frameOwner, State.peekAtTaken, State.answer, named, present, record, beyond]
    · intro inside
      have taken : s.peekAtTaken p =
          (s.setPeek (some ⟨n, field4 p 1, field2 p 5⟩)).reply .supervisor .peekAt .ok (.peekedAt r.kind r.declared r.time) := by
        simp [State.peekAtTaken, State.answer, named, present, record, Nat.not_le.2 inside]
      refine ⟨_, congrArg Host.Outcome.next taken, ?_, State.sends_reply_after _ _ _ _, State.setPeek_reply_restoring _ _ _ _ _⟩
      simp
  case peekNext =>
    rw [exec_of_passes rfl passes]
    refine ⟨fun none => ?_, fun c r cursor record _ => ⟨fun sound => ?_, fun k w place damaged before => ?_⟩⟩
    · simp [frameOwner, State.peekNextTaken, State.answer, none]
    · have taken : s.peekNextTaken = s.peekRead c r := by simp [State.peekNextTaken, cursor, record]
      simp only [frameOwner, taken, State.peekRead, Config.peekWords, firstDamaged_eq_none.2 sound]
      exact ⟨_, rfl, by simp [State.answer], State.sends_reply_after _ _ _ _, State.setPeek_reply_restoring _ _ _ _ _⟩
    · have taken : s.peekNextTaken = s.peekRead c r := by simp [State.peekNextTaken, cursor, record]
      simp only [frameOwner, taken, State.peekRead, Config.peekWords, firstDamaged_eq_some place damaged before]
      exact ⟨_, rfl, by simp [State.answer], State.sends_reply_after _ _ _ _, State.setPeek_reply_restoring _ _ _ _ _⟩

/-! ### SAVE -/

theorem Image.sum_checkWord (img : Image) : wordSum img.words + img.checkWord = Config.arraySum := by
  simp [Image.checkWord]

theorem State.settings_getElem (s : State) (k : Fin 16) : s.settings[k] = (s.monitor[k]).settings := by
  simp [State.settings]

/-- The end of a SAVE seen on link 0: the reply follows the end of the request. -/
theorem State.sent_saveDone (s : State) (img : Image) (sum : Word) :
    ((s.saveDone img sum).port .supervisor).sent = (s.port .supervisor).sent
      ++ (if s.resetAsserted then [] else
        [.reply 0x4D#8 (if sum = Config.arraySum then .ok else .storeError) .none]) := by
  rw [State.saveDone_eq]
  split
  · rw [(State.sends_reply _ _ _ _ _).1]; simp; rfl
  · rw [(State.sends_reply _ _ _ _ _).1]; simp; rfl

/-- A reply on link 0 is seen nowhere but there. -/
theorem State.reply_supervisor_restoring (s : State) (k : Kind) (r : Result) (b : Body) (p : Port) :
    { s.reply .supervisor k r b with supervisorPort := p } = { s with supervisorPort := p } := by
  unfold State.reply State.send
  split <;> rfl

theorem State.saveDone_restoring (s : State) (img : Image) (sum : Word) :
    { s.saveDone img sum with supervisorPort := s.supervisorPort, saving := s.saving, array := s.array } = s := by
  rw [State.saveDone_eq]
  split
  all_goals
    exact congrArg (fun u : State => { u with saving := s.saving, array := s.array })
      (State.reply_supervisor_restoring _ .save _ _ s.supervisorPort)

/-- Settles O53: SAVE by what `State.saveTaken` writes, its completion by the sum that comes with it. -/
theorem saveWritesTheArray : Obligations.SaveWritesTheArray := by
  refine ⟨fun p s passes => ?save, fun sum img s powered saving => ?complete, fun sum s idle => ?idle⟩
  case save =>
    exact ⟨s.saveTaken, exec_of_passes rfl passes, by simp, ⟨_, rfl, rfl, s.settings_getElem⟩, rfl, rfl⟩
  case complete =>
    obtain ⟨request, ended⟩ := s.saveDone_ends img sum
    refine ⟨s.saveDone img sum, ?_, ended, request, fun good => ⟨⟨img.checkWord, ?_, img.sum_checkWord⟩, ?_⟩,
      fun bad => ⟨?_, ?_⟩, s.saveDone_restoring img sum⟩
    · rw [exec_of_powered (f := fun s => s.saveEnds sum) rfl powered]
      simp [State.saveEnds, saving]
    · rw [State.saveDone_eq, if_pos (show sum = Config.arraySum from good)]; simp
    · rw [State.sent_saveDone, if_pos (show sum = Config.arraySum from good)]
    · rw [State.saveDone_eq, if_neg (show sum ≠ Config.arraySum from bad)]; simp [CommArray.load]
    · rw [State.sent_saveDone, if_neg (show sum ≠ Config.arraySum from bad)]
  case idle =>
    rw [exec_internal (f := fun s => s.saveEnds sum) rfl]
    simp [State.whenPowered, State.saveEnds, idle]

end Sys2Proof.Machine

/-! PROOF. SET and the checks of APPLY (R165 to R167). -/

namespace Sys2Proof.Machine

/-! ### Values in their ranges -/

theorem within_isSome {α : Type} {lo hi v : Nat} {a : α} : (∃ b, within lo hi v a = some b) ↔ lo ≤ v ∧ v ≤ hi := by
  simp [within]

theorem yesNoValue_isSome {v : Nat} : (∃ b, yesNoValue v = some b) ↔ v ≤ 1 := by
  match v with
  | 0 | 1 => simp [yesNoValue]
  | k + 2 => simp [yesNoValue]

theorem yesNoValue_eq {v : Nat} {b : Bool} (h : yesNoValue v = some b) : yesNo b = v := by
  unfold yesNoValue at h
  split at h <;> cases h <;> rfl

theorem roleValue_isSome {v : Nat} : (∃ r, roleValue v = some r) ↔ 1 ≤ v ∧ v ≤ 2 := by
  match v with
  | 0 | 1 | 2 => simp [roleValue]
  | k + 3 => simp [roleValue]

theorem roleValue_eq {v : Nat} {r : Role} (h : roleValue v = some r) : r.code = v := by
  unfold roleValue at h
  split at h <;> cases h <;> rfl

theorem GroupId.ofNum_isSome {v : Nat} : (∃ g, GroupId.ofNum v = some g) ↔ 1 ≤ v ∧ v ≤ 4 := by
  rw [← Option.isSome_iff_exists, ← Option.ne_none_iff_isSome, ne_eq, GroupId.ofNum_eq_none]
  omega

theorem NodeId.ofNum_isSome {v : Nat} : (∃ n, NodeId.ofNum v = some n) ↔ 1 ≤ v ∧ v ≤ 8 := by
  rw [← Option.isSome_iff_exists, ← Option.ne_none_iff_isSome, ne_eq, NodeId.ofNum_eq_none]
  omega

/-! ### The items of a node, of a group and of the part -/

/-- R165: the ranges of the node items. -/
def nodeValueRange (item v : Nat) : Prop :=
  ((item = 0 ∨ item = 4) → v ≤ 1) ∧ (item = 1 → 1 ≤ v ∧ v ≤ 4) ∧ (item = 2 → 1 ≤ v ∧ v ≤ 2)
    ∧ (item = 3 → v ≤ 7) ∧ ((5 ≤ item ∧ item ≤ 9) → 1 ≤ v ∧ v ≤ 255) ∧ (item = 10 → 1 ≤ v ∧ v ≤ 7) ∧ (item = 11 → v ≤ 255)

/-- R165: the ranges of the group items. -/
def groupValueRange (item v : Nat) : Prop :=
  (item = 16 → 1 ≤ v ∧ v ≤ 600) ∧ (item = 17 → v ≤ 600) ∧ (item = 18 → 1 ≤ v ∧ v ≤ 3600)

theorem exists_map_eq_some {α β : Type} {o : Option α} {f : α → β} : (∃ b, o.map f = some b) ↔ ∃ a, o = some a := by
  cases o <;> simp

theorem NodePlan.setItem_isSome (p : NodePlan) (item v : Nat) : (∃ q, p.setItem item v = some q) ↔
    item ≤ 11 ∧ nodeValueRange item v := by
  unfold NodePlan.setItem nodeValueRange
  split
  case h_1 => rw [exists_map_eq_some, yesNoValue_isSome]; omega
  case h_2 => rw [exists_map_eq_some, GroupId.ofNum_isSome]; omega
  case h_3 => rw [exists_map_eq_some, roleValue_isSome]; omega
  case h_5 => rw [exists_map_eq_some, yesNoValue_isSome]; omega
  case h_13 =>
    simp only [reduceCtorEq, exists_false, false_iff]
    rintro ⟨code, _⟩
    interval_cases item <;> contradiction
  all_goals rw [within_isSome]; omega

theorem GroupPlan.setItem_isSome (p : GroupPlan) (item v : Nat) : (∃ q, p.setItem item v = some q) ↔
    16 ≤ item ∧ item ≤ 18 ∧ groupValueRange item v := by
  unfold GroupPlan.setItem groupValueRange
  split
  case h_4 =>
    simp only [reduceCtorEq, exists_false, false_iff]
    rintro ⟨low, high, _⟩
    interval_cases item <;> contradiction
  all_goals rw [within_isSome]; omega

/-- R166: the item written, in the list of the node's items. -/
theorem NodePlan.setItem_values {p q : NodePlan} {item v : Nat} (h : p.setItem item v = some q) :
    q.values = p.values.set item v := by
  have range := (NodePlan.setItem_isSome p item v).1 ⟨q, h⟩
  unfold NodePlan.setItem at h
  split at h
  case h_1 | h_5 =>
    obtain ⟨b, value, rfl⟩ := Option.map_eq_some_iff.1 h
    rw [← yesNoValue_eq value]; rfl
  case h_2 =>
    obtain ⟨g, value, rfl⟩ := Option.map_eq_some_iff.1 h
    rw [GroupId.ofNum_eq_some.1 value]; rfl
  case h_3 =>
    obtain ⟨r, value, rfl⟩ := Option.map_eq_some_iff.1 h
    rw [← roleValue_eq value]; rfl
  case h_12 =>
    obtain ⟨⟨_, fits⟩, rfl⟩ := within_eq_some h
    have value : (BitVec.ofNat 8 v).toNat = v := by simp; omega
    simp [NodePlan.values, value]
  case h_13 => cases h
  all_goals
    obtain ⟨_, rfl⟩ := within_eq_some h
    rfl

theorem GroupPlan.setItem_values {p q : GroupPlan} {item v : Nat} (h : p.setItem item v = some q) :
    q.values = p.values.set (item - 16) v := by
  unfold GroupPlan.setItem at h
  split at h
  case h_4 => cases h
  all_goals
    obtain ⟨_, rfl⟩ := within_eq_some h
    rfl

/-! ### SET by the kind of item -/

theorem isGroupItem_iff {item : Nat} : isGroupItem item = true ↔ 16 ≤ item ∧ item ≤ 18 := by
  simp [isGroupItem]
  omega

theorem Plan.setItem_node (p : Plan) {n : NodeId} {item : Nat} (code : item ≤ 11) (v : Nat) :
    p.setItem item n.num v =
      ((p.nodes.get n).setItem item v).map fun q => { p with nodes := p.nodes.set n q } := by
  rw [Plan.setItem, if_neg (by simp [answerTimeItem]; omega), if_neg (by rw [isGroupItem_iff]; omega), NodeId.ofNum_num]
  rfl

theorem Plan.setItem_group (p : Plan) {g : GroupId} {item : Nat} (low : 16 ≤ item) (high : item ≤ 18) (v : Nat) :
    p.setItem item g.num v =
      ((p.groups.get g).setItem item v).map fun q => { p with groups := p.groups.set g q } := by
  rw [Plan.setItem, if_neg (by simp [answerTimeItem]; omega), if_pos (isGroupItem_iff.2 ⟨low, high⟩), GroupId.ofNum_num]
  rfl

theorem Plan.setItem_answerTime (p : Plan) (index v : Nat) :
    p.setItem 24 index v = if index = 0 then within 5 255 v { p with answerTime := v } else none := rfl

/-- R166: the items, indexes and values that a SET may carry. -/
theorem Plan.setItem_isSome (p : Plan) (item index v : Nat) : (∃ q, p.setItem item index v = some q) ↔
    ((item ≤ 11 ∧ 1 ≤ index ∧ index ≤ 8) ∧ nodeValueRange item v)
      ∨ (16 ≤ item ∧ item ≤ 18 ∧ 1 ≤ index ∧ index ≤ 4 ∧ groupValueRange item v)
      ∨ (item = 24 ∧ index = 0 ∧ 5 ≤ v ∧ v ≤ 255) := by
  constructor
  · rintro ⟨q, h⟩
    unfold Plan.setItem at h
    repeat' split at h
    · next code at_zero =>
      obtain ⟨range, _⟩ := within_eq_some h
      exact .inr (.inr ⟨code, at_zero, range⟩)
    · cases h
    · obtain ⟨g, index, h⟩ := Option.bind_eq_some_iff.1 h
      obtain ⟨r, written, _⟩ := Option.map_eq_some_iff.1 h
      obtain ⟨low, high, range⟩ := (GroupPlan.setItem_isSome _ _ _).1 ⟨r, written⟩
      have inside := GroupId.ofNum_isSome.1 ⟨g, index⟩
      exact .inr (.inl ⟨low, high, inside.1, inside.2, range⟩)
    · obtain ⟨n, index, h⟩ := Option.bind_eq_some_iff.1 h
      obtain ⟨r, written, _⟩ := Option.map_eq_some_iff.1 h
      obtain ⟨code, range⟩ := (NodePlan.setItem_isSome _ _ _).1 ⟨r, written⟩
      exact .inl ⟨⟨code, NodeId.ofNum_isSome.1 ⟨n, index⟩⟩, range⟩
  · rintro (⟨⟨code, low, high⟩, range⟩ | ⟨first, last, low, high, range⟩ | ⟨rfl, rfl, range⟩)
    · obtain ⟨n, rfl⟩ := exists_node low high
      rw [Plan.setItem_node p code, exists_map_eq_some]
      exact (NodePlan.setItem_isSome _ _ _).2 ⟨code, range⟩
    · obtain ⟨g, rfl⟩ := exists_group low high
      rw [Plan.setItem_group p first last, exists_map_eq_some]
      exact (GroupPlan.setItem_isSome _ _ _).2 ⟨first, last, range⟩
    · rw [Plan.setItem_answerTime, if_pos rfl]
      exact within_isSome.2 range

/-- The staged plan is not seen on the links. -/
theorem State.port_setStaged (s : State) (q : Plan) (l : Link) : { s with staged := q }.port l = s.port l := by
  cases l <;> rfl

/-- Settles O50: `Plan.setItem` gives a plan exactly within the ranges, and writes one item of one table. -/
theorem setWritesTheStagedPlan : Obligations.SetWritesTheStagedPlan := by
  intro p s passes
  dsimp only
  rw [exec_of_passes rfl passes]
  have accepted := Plan.setItem_isSome s.staged (octetAt p 0) (octetAt p 1) (field4 p 2).toNat
  simp only [frameOwner, State.setTaken]
  generalize octetAt p 0 = item at *
  generalize octetAt p 1 = index at *
  generalize (field4 p 2).toNat = v at *
  refine ⟨fun outside => ?refused, fun inside => ?written⟩
  case refused =>
    split
    · rfl
    · next q written => exact absurd (accepted.1 ⟨q, written⟩) outside
  case written =>
    obtain ⟨q, written⟩ := accepted.2 inside
    simp only [written]
    refine ⟨_, rfl, ?_, ?_, fun n code named => ?node, fun g low high named => ?group, fun code => ?answerTime⟩
    · exact (s.sends_reply _ .set _ _).of_ports (fun _ => rfl) fun m => State.port_setStaged _ _ m
    · exact congrArg (fun u : State => { u with staged := s.staged }) (State.reply_restoring_ports s .supervisor .set .ok _)
    case node =>
      rw [named, Plan.setItem_node _ code.1] at written
      obtain ⟨r, values, rfl⟩ := Option.map_eq_some_iff.1 written
      exact ⟨by simp [NodePlan.setItem_values values], fun m other => by simp [other], rfl, rfl⟩
    case group =>
      rw [named, Plan.setItem_group _ low high] at written
      obtain ⟨r, values, rfl⟩ := Option.map_eq_some_iff.1 written
      exact ⟨by simp [GroupPlan.setItem_values values], fun m other => by simp [other], rfl, rfl⟩
    case answerTime =>
      rw [code, Plan.setItem_answerTime] at written
      obtain ⟨_, written⟩ := Option.ite_none_right_eq_some.1 written
      exact (within_eq_some written).2

end Sys2Proof.Machine

/-! PROOF. The plan lock and the plan checks of APPLY (R167). -/

namespace Sys2Proof.Machine

/-! ### The lock -/

theorem NodeState.restarting_iff (st : NodeState) : st.restarting = true ↔
    st = .reset ∨ st = .boot ∨ st = .queued ∨ st = .restoring ∨ st = .settling := by
  cases st <;> simp [NodeState.restarting]

theorem State.groupLocks_iff (s : State) (g : GroupId) : s.groupLocks g = true ↔
    (s.group g).state.inHold = true ∧ ∀ n, (s.group g).duty = some n → (s.node n).state ≠ .halted := by
  cases duty : (s.group g).duty <;> simp [State.groupLocks, duty]

theorem State.planLocked_iff (s : State) : s.planLocked = true ↔
    (∃ g, (s.group g).state.inHold = true ∧ ∀ n, (s.group g).duty = some n → (s.node n).state ≠ .halted)
      ∨ s.chan .c0 ≠ none ∨ s.chan .c1 ≠ none
      ∨ ∃ n, (s.node n).state = .reset ∨ (s.node n).state = .boot ∨ (s.node n).state = .queued
          ∨ (s.node n).state = .restoring ∨ (s.node n).state = .settling := by
  simp only [State.planLocked, Bool.or_eq_true, or_assoc, List.any_eq_true, s.groupLocks_iff, NodeState.restarting_iff,
    NodeId.mem_all, GroupId.mem_all, true_and, ← Option.ne_none_iff_isSome]
  rfl

/-! ### The two checks of a group -/

/-- The members of a group whose initial role is DUTY. -/
def Plan.duties (p : Plan) (g : GroupId) : List NodeId := (p.members g).filter fun n => (p.nodes.get n).role = .duty

section
variable {p : Plan} {g : GroupId}

theorem Plan.groupFault_of_third {third : NodeId} (h : (p.members g)[2]? = some third) : p.groupFault g = some (1, third.num) := by
  unfold Plan.groupFault
  dsimp only
  split
  · next empty => simp [empty] at h
  · simp_all
  · simp_all
  · simp_all
  · simp_all

theorem Plan.third_eq_none (h : (p.members g).length ≤ 2) : (p.members g)[2]? = none := List.getElem?_eq_none h

theorem Plan.groupFault_of_no_duty {lowest : NodeId} {rest : List NodeId} (members : p.members g = lowest :: rest)
    (few : rest.length ≤ 1) (duties : p.duties g = []) : p.groupFault g = some (2, lowest.num) := by
  have third := Plan.third_eq_none (p := p) (g := g) (by simp [members]; omega)
  unfold Plan.duties at duties
  unfold Plan.groupFault
  dsimp only
  rw [duties, third, members]

theorem Plan.groupFault_of_two_duties {first second : NodeId} {rest : List NodeId} (few : (p.members g).length ≤ 2)
    (duties : p.duties g = first :: second :: rest) : p.groupFault g = some (2, second.num) := by
  have third := Plan.third_eq_none few
  unfold Plan.duties at duties
  unfold Plan.groupFault
  dsimp only
  rw [duties, third]
  cases members : p.members g with
  | nil => simp [members] at duties
  | cons lowest others => rfl

theorem Plan.groupFault_eq_none : p.groupFault g = none ↔
    p.members g = [] ∨ ((p.members g).length ≤ 2 ∧ (p.duties g).length = 1) := by
  cases members : p.members g with
  | nil => simp [Plan.groupFault, members]
  | cons lowest rest =>
    rw [← members]
    by_cases few : (p.members g).length ≤ 2
    · have third := Plan.third_eq_none few
      match duties : p.duties g with
      | [] =>
        rw [Plan.groupFault_of_no_duty members (by simpa [members] using few) duties]
        simp [members]
      | [only] =>
        have sole : (p.members g).filter (fun n => (p.nodes.get n).role = .duty) = [only] := duties
        have passes : p.groupFault g = none := by
          unfold Plan.groupFault
          dsimp only
          rw [sole, third, members]
        exact ⟨fun _ => .inr ⟨few, rfl⟩, fun _ => passes⟩
      | first :: second :: others =>
        rw [Plan.groupFault_of_two_duties few duties]
        simp [members]
    · have inside : 2 < (p.members g).length := by omega
      rw [Plan.groupFault_of_third (List.getElem?_eq_getElem inside)]
      simp [members] at few ⊢
      omega

/-- R167: the fault that is reported is that of the lowest group that has one. -/
theorem Plan.firstFault_of_lowest {fault : Nat × Nat} (lower : ∀ k : GroupId, k.num < g.num → p.groupFault k = none)
    (h : p.groupFault g = some fault) : p.firstFault = some fault := by
  unfold Plan.firstFault
  cases g with
  | g1 => simp [GroupId.all, h]
  | g2 => simp [GroupId.all, lower .g1 (by decide), h]
  | g3 => simp [GroupId.all, lower .g1 (by decide), lower .g2 (by decide), h]
  | g4 => simp [GroupId.all, lower .g1 (by decide), lower .g2 (by decide), lower .g3 (by decide), h]

end

/-! ### APPLY refused -/

theorem State.applyTaken_of_locked {s : State} (h : s.planLocked = true) :
    s.applyTaken = s.reply .supervisor .apply .planLocked := if_pos h

theorem State.applyTaken_of_fault {s : State} {item index : Nat} (unlocked : s.planLocked = false)
    (fault : s.staged.firstFault = some (item, index)) :
    s.applyTaken = s.reply .supervisor .apply .planInvalid (.planItem item index) := by
  simp [State.applyTaken, unlocked, fault]

/-- Settles O51: the lock by its three causes, then the fault of the lowest group that has one. -/
theorem applyIsLockedOrChecked : Obligations.ApplyIsLockedOrChecked := by
  intro p s passes
  dsimp only
  rw [exec_of_passes rfl passes]
  simp only [frameOwner]
  refine ⟨fun locked => ?_, fun unlocked g lower => ?_, fun k => Plan.groupFault_eq_none⟩
  · rw [State.applyTaken_of_locked (s.planLocked_iff.2 locked)]
  · have free : s.planLocked = false := Bool.eq_false_iff.2 fun locked => unlocked (s.planLocked_iff.1 locked)
    have refused {item index : Nat} (fault : s.staged.groupFault g = some (item, index)) :
        s.applyTaken = s.reply .supervisor .apply .planInvalid (.planItem item index) :=
      State.applyTaken_of_fault free (Plan.firstFault_of_lowest lower fault)
    exact ⟨fun third place => congrArg _ (refused (Plan.groupFault_of_third place)),
      fun lowest rest members few duties => congrArg _ (refused (Plan.groupFault_of_no_duty members few duties)),
      fun first second rest few duties => congrArg _ (refused (Plan.groupFault_of_two_duties few duties))⟩

end Sys2Proof.Machine

/-! PROOF. The receiver of the links, the checks of the link interface, and the timers (R14, R157, R159, R160, R162, R163). -/

namespace Sys2Proof.Machine

/-! ### The octets of a frame -/

theorem octet_pair {k : Nat} (h : k < 65536) : (octet k).toNat + 256 * (octet (k / 256)).toNat = k := by
  simp [octet]
  omega

/-- The frame after its SYNC octet. -/
def frameBody (code : Byte) (p : List Byte) : List Byte := frameHead code p ++ le2 (crc (frameHead code p)).toNat

theorem frameBody_cons (code : Byte) (p : List Byte) : frameBody code p =
    code :: octet p.length :: octet (p.length / 256) :: (p ++ le2 (crc (frameHead code p)).toNat) := rfl

@[simp] theorem length_frameBody (code : Byte) (p : List Byte) : (frameBody code p).length = 5 + p.length := by
  simp [frameBody_cons, le2]
  omega

/-- LEN reads the same as soon as the first three octets of the frame have come. -/
theorem gatheredLen_prefix {code : Byte} {p bs rest : List Byte} (fits : p.length ≤ 264) (whole : bs ++ rest = frameBody code p)
    (came : 3 ≤ bs.length) : gatheredLen bs = p.length := by
  have place (i : Nat) (inside : i < 3) : bs.getD i 0#8 = (frameBody code p).getD i 0#8 := by
    rw [← whole, List.getD_append _ _ _ _ (by omega)]
  rw [gatheredLen, place 1 (by omega), place 2 (by omega), frameBody_cons]
  exact octet_pair (by omega)

/-- A frame that has come whole is intact. -/
theorem judgeFrame_frameBody {code : Byte} {p : List Byte} (fits : p.length ≤ 264) :
    judgeFrame (frameBody code p) = .intact code p := by
  have len := gatheredLen_prefix (code := code) fits (List.append_nil _) (by simp; omega)
  have head : (frameHead code p).length = 3 + p.length := by simp [frameHead, le2]; omega
  have whole : frameBody code p = frameHead code p ++ le2 (crc (frameHead code p)).toNat := rfl
  have payload : (frameHead code p).drop 3 = p := by simp [frameHead, le2]
  rw [judgeFrame, len, ← head]
  rw [whole, List.take_left, List.drop_left, if_pos rfl, payload]
  rfl

/-! ### The receiver -/

/-- The receiver gathers what is left of a frame. -/
theorem Receiver.run_gathering {code : Byte} {p : List Byte} (fits : p.length ≤ 264) (rest bs : List Byte)
    (whole : bs ++ rest = frameBody code p) (more : rest ≠ []) :
    Receiver.run (.gathering bs) (rest.map fun b => .octet b true) = (.hunting, [.intact code p]) := by
  induction rest generalizing bs with
  | nil => exact absurd rfl more
  | cons b rest ih =>
    have whole' : (bs ++ [b]) ++ rest = frameBody code p := by simpa using whole
    have total : (bs ++ [b]).length + rest.length = 5 + p.length := by
      rw [← List.length_append, whole', length_frameBody]
    have len := gatheredLen_prefix fits whole'
    have notLong : ¬ ((bs ++ [b]).length = 3 ∧ Config.maxPayload < gatheredLen (bs ++ [b])) := by
      rintro ⟨three, long⟩
      rw [len (by omega)] at long
      exact absurd fits (Nat.not_le.2 long)
    rw [List.map_cons, Receiver.run, Receiver.take]
    simp only [Bool.not_true, Bool.false_eq_true, if_false, if_neg notLong]
    cases rest with
    | nil =>
      have last : bs ++ [b] = frameBody code p := by simpa using whole'
      rw [if_pos ⟨by rw [last]; simp; omega, by rw [len (by rw [last]; simp; omega)]; simpa using total⟩, last,
        judgeFrame_frameBody fits]
      rfl
    | cons c rest =>
      rw [if_neg]
      · simpa using ih (bs ++ [b]) whole' (List.cons_ne_nil _ _)
      · rintro ⟨three, done⟩
        rw [len three] at done
        simp only [List.length_cons] at total
        omega

/-- Settles O12: SYNC begins the gathering, which ends with the last octet of the CRC. -/
theorem receiverReadsWhatTheLayoutWrites : Obligations.ReceiverReadsWhatTheLayoutWrites := by
  refine ⟨fun code p fits => ?octets, fun c k l p frame => ?command⟩
  case octets =>
    have gathered := Receiver.run_gathering (code := code) fits (frameBody code p) [] rfl (by simp [frameBody_cons])
    exact congrArg (fun x : Receiver × List Received => (x.1, x.2)) gathered
  case command =>
    cases c <;> cases frame <;> rfl

/-! ### The checks of an intact frame -/

theorem State.judge_of_listens {s : State} {k : Kind} {l : Link} {p : List Byte} (listens : s.listens) (fits : p.length ≤ 264) :
    s.judge k l p =
      if k.allowedOn l = false then failedCheck k .badKind
      else if s.linkPresent l = false then failedCheck k .notPresent
      else if k.lengthOk p = false then failedCheck k .badLength
      else if (s.port l).inProgress ≠ none ∧ k.alwaysTaken = false then .refused .busy
      else .accepted := by
  have short : ¬ Config.maxPayload < p.length := Nat.not_lt.2 fits
  simp [State.judge, State.receiving_of_listens listens, short, ← Option.ne_none_iff_isSome]

/-- R159, R162: the answer to a frame that fails a check. -/
theorem State.receive_of_failedCheck {s : State} {k : Kind} {l : Link} {p : List Byte} {r : Result} (owner : State → State)
    (h : s.judge k l p = failedCheck k r) : s.receive k l p owner = if k.silent then s else s.reply l k r := by
  rw [State.receive, h]
  cases silent : k.silent <;> simp [failedCheck, silent]

theorem Kind.ofCode_eq_some {c : Byte} {k : Kind} (h : Kind.ofCode c = some k) : k.code = c := by
  simpa using List.find?_some h

/-- R162: the KIND octets of the three kinds that are never answered. -/
theorem silentCode_iff (c : Byte) : silentCode c = true ↔ c = 0x11#8 ∨ c = 0x1C#8 ∨ c = 0x1D#8 := by
  constructor
  · intro silent
    unfold silentCode at silent
    split at silent
    · next k kind =>
      rw [← Kind.ofCode_eq_some kind]
      cases k <;> simp_all [Kind.silent, Kind.code]
    · cases silent
  · rintro (rfl | rfl | rfl) <;> rfl

/-- Settles O10: the checks in the order of `State.judge_of_listens`, the KIND octets that are never answered, and the frame that is
too long to be intact. -/
theorem linkInterfaceJudgesFrames : Obligations.LinkInterfaceJudgesFrames := by
  refine ⟨⟨fun c k l p s frame listens fits => ?checks, fun s l k r b released => ?reply⟩, fun l c s listens => ?badKind,
    fun c k l p s frame listens long => ?long⟩
  case checks =>
    rw [exec_frame frame]
    have judged := State.judge_of_listens (k := k) (l := l) listens fits
    refine ⟨fun other => ?_, fun allowed absent => ?_, fun allowed present length => ?_,
      fun allowed present length busy waits => ?_⟩
    · exact congrArg _ (State.receive_of_failedCheck _ (by simp [judged, other]))
    · exact congrArg _ (State.receive_of_failedCheck _ (by simp [judged, allowed, absent]))
    · exact congrArg _ (State.receive_of_failedCheck _ (by simp [judged, allowed, present, length]))
    · simp [State.receive, judged, allowed, present, length, busy, waits]
  case reply => exact ⟨s.sends_reply l k r b, s.reply_restoring_ports l k r b⟩
  case badKind =>
    have taken : exec (.badKindFrame l c) s = .next (s.badKind l c) := rfl
    have listening := State.receiving_of_listens listens
    refine ⟨_, taken, ?_, fun other beat ack takenKind => ?_, fun silent => ?_⟩
    · unfold State.badKind State.send
      split
      · rfl
      · split
        · rfl
        · exact s.modPort_restoring_ports l _
    · have answered : silentCode c = false := Bool.eq_false_iff.2 fun silent => by
        rcases (silentCode_iff c).1 silent with h | h | h <;> contradiction
      have formed : s.badKind l c = s.send l (.reply c .badKind .none) := by
        simp [State.badKind, listening, other, answered]
      rw [formed]
      exact s.sends_send l _
    · have ignored : kindAccepted l c = true ∨ silentCode c = true := by
        rw [silentCode_iff]
        tauto
      rcases ignored with h | h <;> simp [State.badKind, h]
  case long =>
    rw [exec_frame frame, exec_frameDamaged_of_listens l listens]
    have beyond : Config.maxPayload < p.length := long
    simp [State.receive, State.judge, State.receiving_of_listens listens, beyond]

/-! ### Timers and points in time -/

theorem Timer.tick_iterate (k m : Nat) : Timer.tick^[k] (some m) = some (m - k) := by
  induction k with
  | zero => rfl
  | succ k ih =>
    rw [Function.iterate_succ_apply', ih]
    simp [Timer.tick, Nat.sub_sub]

theorem reached_add (start : Word) {d k : Nat} (hd : d < 2 ^ 31) (hk : k < 2 ^ 31) :
    reached (start + BitVec.ofNat 32 d) (start + BitVec.ofNat 32 k) = decide (d ≤ k) := by
  have distance : (start + BitVec.ofNat 32 k - (start + BitVec.ofNat 32 d)).toNat = (2 ^ 32 + k - d) % 2 ^ 32 := by
    simp [BitVec.toNat_sub]
    omega
  rw [reached, distance, decide_eq_decide]
  omega

/-- The queue put in order again holds the same nodes. -/
theorem State.foldl_placed_perm (s : State) (moved q : List NodeId) : (moved.foldl s.placed q).Perm (moved ++ q) := by
  induction moved generalizing q with
  | nil => exact .refl q
  | cons n moved ih => exact (ih _).trans (((s.placed_perm q n).append_left moved).trans List.perm_middle)

theorem State.resortQueue_perm (s : State) : s.resortQueue.queue.Perm s.queue := by
  have perm := s.foldl_placed_perm s.queue []
  rwa [List.append_nil] at perm

theorem State.queue_tick_perm (s : State) : s.tick.queue.Perm s.queue := State.resortQueue_perm _

@[simp] theorem State.node_tick (s : State) (n : NodeId) : s.tick.node n = (s.node n).tick := PerNode.get_ofFn _ n

@[simp] theorem State.exchange_tick (s : State) (n : NodeId) : s.tick.exchange n = (s.exchange n).tick := PerNode.get_ofFn _ n

@[simp] theorem State.chan_tick (s : State) (c : ChanId) : s.tick.chan c = (s.chan c).map Binding.tick := by
  cases c <;> rfl

/-- Settles O9: a timer after k advances, two points compared by their distance, and the fields that an advance changes. -/
theorem timersAndPointsCountAdvances : Obligations.TimersAndPointsCountAdvances := by
  refine ⟨fun d k => ?due, fun start d k hd hk => reached_add start hd hk, fun s time k bound sec => ?age, fun s powered => ?tick⟩
  case due =>
    rw [Timer.start, Timer.tick_iterate, Bool.eq_iff_iff]
    simp [Timer.due]
    omega
  case age =>
    rw [State.age, sec]
    simp
    omega
  case tick =>
    exact ⟨s.tick, exec_clockTick_of_powered powered, fun n => s.node_tick n, fun n => s.exchange_tick n, fun c => s.chan_tick c,
      s.queue_tick_perm, rfl⟩

end Sys2Proof.Machine

/-! PROOF. What the part resets load and leave (R164, R169, R171), and the events of the surroundings (R58, R150, R164, R170). -/

namespace Sys2Proof.Machine

/-! ### What every part reset leaves -/

@[simp] theorem State.group_resetBlocks (s : State) (planFault : Bool) (g : GroupId) :
    (s.resetBlocks planFault).group g = .afterReset (s.active.members g) := PerGroup.get_ofFn _ g

@[simp] theorem State.exchange_resetBlocks (s : State) (planFault : Bool) (n : NodeId) :
    (s.resetBlocks planFault).exchange n = .empty := PerNode.get_const _ n

@[simp] theorem State.chan_resetBlocks (s : State) (planFault : Bool) (c : ChanId) : (s.resetBlocks planFault).chan c = none := by
  cases c <;> rfl

/-- R164: the channels keep their settings, and nothing else of a channel is kept. -/
theorem State.monitor_resetBlocks (s : State) (planFault : Bool) (k : Fin 16) :
    (s.resetBlocks planFault).monitor[k] = .cleared (s.monitor[k]).settings := by
  simp [State.resetBlocks]

theorem State.fresh_resetBlocks {s : State} (planFault : Bool) (peek : s.store.peek = none) : (s.resetBlocks planFault).fresh := by
  refine ⟨fun n => ?nodes, fun g => ?groups, fun n => ?ports, fun n => ?exchanges, rfl, rfl, rfl, rfl, fun c => ?channels,
    fun k => ?monitor, rfl, rfl, ?peek⟩
  case nodes => rw [State.node_resetBlocks]; rfl
  case groups => rw [State.group_resetBlocks]; rfl
  case ports => simp
  case exchanges => simp
  case channels => simp
  case monitor => rw [State.monitor_resetBlocks]; exact ⟨rfl, rfl⟩
  case peek => simpa using peek

theorem State.flag_resetBlocks (s : State) (planFault : Bool) (a : Alert) :
    (s.resetBlocks planFault).flag a = (planFault && decide (a = .planFault)) := by
  cases planFault
  · simp [State.flag, State.resetBlocks, Alerts.afterReset]
  · simp [State.flag, State.resetBlocks, Alerts.afterReset, Alert.getLsbD_mark, eq_comm]

@[simp] theorem State.peek_storeReset (s : State) (keep : NodeId → Bool) : (s.storeReset keep).store.peek = none := rfl

/-! ### The load -/

theorem CommArray.load_of_good {img : Image} {check : Word} (h : img.good check = true) :
    (CommArray.image img check).load = (img, false) := by simp [CommArray.load, h]

/-- R169: the array holds no good image. -/
def CommArray.bad (a : CommArray) : Prop :=
  a = .torn ∨ ∃ img check, a = .image img check ∧ img.good check = false

theorem CommArray.load_of_bad {a : CommArray} (h : a.bad) : a.load = (.delivered, true) := by
  rcases h with rfl | ⟨img, check, rfl, bad⟩
  · rfl
  · simp [CommArray.load, bad]

/-- R169: an image is not good when one of the four checks fails. -/
theorem Image.good_eq_false {img : Image} {check : Word} (h : wordSum img.words + check ≠ Config.arraySum
    ∨ img.plan.inRange = false ∨ (∃ k : Fin 16, (img.settings[k]).valid = false) ∨ img.plan.firstFault ≠ none) :
    img.good check = false := by
  refine Bool.eq_false_iff.2 fun good => ?_
  obtain ⟨sum, range, settings, fault⟩ := (img.good_iff check).1 good
  rcases h with h | h | ⟨k, h⟩ | h
  · exact h sum
  · simp [h] at range
  · rw [settings k] at h; cases h
  · exact h fault

/-- The plan, the settings and the PLAN_FAULT that a reset with this load leaves. -/
structure State.loads (t : State) (load : Image × Bool) : Prop where
  active : t.active = load.1.plan
  staged : t.staged = load.1.plan
  settings : ∀ k : Fin 16, (t.monitor[k]).settings = load.1.settings[k]
  flags : ∀ a, t.flag a = (load.2 && decide (a = .planFault))

theorem State.loads_resetBlocks {s : State} {load : Image × Bool} (active : s.active = load.1.plan)
    (staged : s.staged = load.1.plan) (settings : ∀ k : Fin 16, (s.monitor[k]).settings = load.1.settings[k]) :
    (s.resetBlocks load.2).loads load := by
  refine ⟨by simpa using active, by simpa using staged, fun k => ?_, s.flag_resetBlocks load.2⟩
  rw [State.monitor_resetBlocks]
  exact settings k

theorem State.powerOnReset_loads (s : State) : s.powerOnReset.loads s.array.load :=
  State.loads_resetBlocks rfl rfl fun k => loadImage_settings s s.array.load.1 k

theorem State.pinReset_loads (s : State) : s.pinReset.loads s.array.load := by
  rw [State.pinReset_eq]
  refine State.loads_resetBlocks (by simp) (by simp) fun k => ?_
  simp only [State.storeReset_frame]
  exact loadImage_settings _ s.array.load.1 k

theorem State.flags_eq_zero {t : State} (h : ∀ a, t.flag a = false) : t.alerts.flags = 0#27 := by
  by_contra nonzero
  obtain ⟨a, set⟩ := (Alert.field_ne_zero_iff _).1 nonzero
  exact absurd set (by simpa [State.flag] using h a)

/-- What `resetLoadsTheArray` asks of the plan, the settings and the flags. -/
theorem State.loads.cases {a : CommArray} {t : State} (h : t.loads a.load) :
    (∀ img check, a = .image img check → wordSum img.words + check = 0x4B5A4160#32 → img.plan.inRange = true →
          (∀ k : Fin 16, (img.settings[k]).valid = true) → img.plan.firstFault = none →
          t.active = img.plan ∧ (∀ k : Fin 16, (t.monitor[k]).settings = img.settings[k]) ∧ t.alerts.flags = 0#27)
        ∧ (a = .torn
            ∨ (∃ img check, a = .image img check ∧ (wordSum img.words + check ≠ 0x4B5A4160#32
                ∨ img.plan.inRange = false ∨ (∃ k : Fin 16, (img.settings[k]).valid = false)
                ∨ img.plan.firstFault ≠ none)) →
          t.active = Plan.empty ∧ (∀ k : Fin 16, (t.monitor[k]).settings = MonSettings.default)
            ∧ t.flag .planFault = true ∧ ∀ a, a ≠ .planFault → t.flag a = false) := by
  obtain ⟨active, staged, settings, flags⟩ := h
  constructor
  · rintro img check rfl sum range valid fault
    rw [CommArray.load_of_good ((img.good_iff check).2 ⟨sum, range, valid, fault⟩)] at active settings flags
    exact ⟨active, settings, State.flags_eq_zero flags⟩
  · intro h
    have bad : a.bad := h.imp id fun ⟨img, check, held, fails⟩ => ⟨img, check, held, Image.good_eq_false fails⟩
    rw [CommArray.load_of_bad bad] at active settings flags
    refine ⟨active, fun k => (settings k).trans ?_, by simp [flags], fun a other => by simp [flags, other]⟩
    simp [Image.delivered]

/-- Settles O4: both resets load the array and end in the common reset of the blocks; a resync loads nothing. -/
theorem resetLoadsTheArray : Obligations.ResetLoadsTheArray := by
  constructor
  · rintro c s t (rfl | ⟨rfl, powered⟩) h
    · obtain rfl := Host.Outcome.next.inj ((exec_powerOnReset s).symm.trans h)
      have loads := s.powerOnReset_loads
      refine ⟨loads.cases.1, loads.cases.2, loads.staged.trans loads.active.symm, ?_, State.fresh_resetBlocks _ rfl, ?_, ?_, ?_, ?_⟩
      · simp [State.powerOnReset]
      · exact State.port_resetBlocks _ _ _
      · simp [State.powerOnReset]
      · simp [State.powerOnReset]
      · simp [State.powerOnReset]
    · obtain rfl := Host.Outcome.next.inj ((exec_pinReset_of_powered powered).symm.trans h)
      have loads := State.pinReset_loads { s with resetAsserted := false }
      refine ⟨loads.cases.1, loads.cases.2, loads.staged.trans loads.active.symm, ?_, State.fresh_resetBlocks _ rfl,
        State.port_pinReset _ _, ?_, ?_, ?_⟩
      · simp
      · simp [State.pinReset]
      · simpa using powered
      · simp
  · intro p s t passes h
    obtain rfl := Host.Outcome.next.inj ((exec_resync_of_passes passes).symm.trans h)
    refine ⟨by simp, by simp, by simp, fun k => ?_⟩
    have kept : s.resyncTaken.monitor = ((s.storeReset fun _ => true).resetBlocks false).monitor := by simp [State.resyncTaken]
    rw [kept, State.monitor_resetBlocks]
    simp [MonChannel.cleared]

end Sys2Proof.Machine

/-! PROOF. The events of the surroundings: the RESET input, the loss of the supply, and a disturbance of the storage (O7). -/

namespace Sys2Proof.Machine

/-! ### The RESET input and the supply -/

theorem State.receiving_eq_false {s : State} (h : s.resetAsserted = true ∨ s.powered = false) : s.receiving = false := by
  rcases h with h | h <;> simp [State.receiving, h]

/-- R164: nothing that arrives on a link is taken. -/
theorem exec_of_not_receiving {c : Instr} {s : State} (arrives : arrivesOnLink c = true) (h : s.receiving = false) :
    exec c s = .next s := by
  cases frame : frameOf c with
  | some f =>
    obtain ⟨k, l, p⟩ := f
    rw [exec_frame frame]
    simp [State.receive, State.judge, h]
  | none =>
    match c, arrives with
    | .frameDamaged l, _ =>
      have lost : exec (.frameDamaged l) s = .next (if s.receiving then s.discardFrame l else s) := rfl
      rw [lost, if_neg (by simp [h])]
    | .badKindFrame l k, _ =>
      have lost : exec (.badKindFrame l k) s = .next (s.badKind l k) := rfl
      simp [lost, State.badKind, h]

/-- Log entry 7: with the supply absent only the RESET input and the return of the supply act. -/
theorem exec_of_not_powered {c : Instr} {s : State} (h : s.powered = false) (saving : s.saving = none) :
    c = .powerOnReset ∨ c = .resetAssert ∨ c = .pinReset ∨ exec c s = .next s := by
  cases hi : internalEvent c with
  | some f => exact .inr (.inr (.inr (by simp [exec_internal hi, State.whenPowered, h])))
  | none =>
    cases arrives : arrivesOnLink c with
    | true => exact .inr (.inr (.inr (exec_of_not_receiving arrives (State.receiving_eq_false (.inr h)))))
    | false =>
      match c, hi, arrives with
      | .powerOnReset, _, _ => exact .inl rfl
      | .resetAssert, _, _ => exact .inr (.inl rfl)
      | .pinReset, _, _ => exact .inr (.inr (.inl rfl))
      | .supplyLoss, _, _ =>
        have absent : s.losesSupply = s := by
          cases s
          simp_all [State.losesSupply]
        exact .inr (.inr (.inr (absent ▸ exec_supplyLoss s)))

/-! ### A disturbance -/

/-- R58: what a pass that reads `order` reads of each of these words after the word at address a has been disturbed. -/
theorem Pool.readAs_disturbed {s : State} (a : Nat) (d : Disturbance) (canonical : Memory.wf s.store.pool) (order : List Nat)
    (seen : SeenWords) {k : Nat} (reads : k ∈ order) :
    (k = a → ¬ (d.read = true ∨ ∃ e ∈ seen, order.idxOf a ≤ order.idxOf e.1) →
        (s.disturb a d).store.pool.readAs (seen.note order a (s.store.pool.read a) d.read) k = ⟨d.left, false⟩)
      ∧ ((k = a → d.read = true ∨ ∃ e ∈ seen, order.idxOf a ≤ order.idxOf e.1) →
        (s.disturb a d).store.pool.readAs (seen.note order a (s.store.pool.read a) d.read) k = s.store.pool.readAs seen k) := by
  constructor
  · rintro rfl unread
    rw [Pool.readAs_note_unread seen _ unread, State.read_disturb s _ _ d canonical, if_pos rfl]
  · intro read
    by_cases same : k = a
    · subst same
      exact Pool.readAs_note_read seen reads (read rfl)
    · rw [Pool.readAs_note_other seen order _ _ same]
      refine Pool.readAs_congr seen ?_
      rw [State.read_disturb s _ _ d canonical, if_neg same]

theorem State.disturb_restoring (s : State) (a : Nat) (d : Disturbance) :
    { s.disturb a d with
      store := { (s.disturb a d).store with pool := s.store.pool, dir := s.store.dir }, channels := s.channels } = s := rfl

/-- Settles O7: the RESET input by what reads its level, the supply by what needs it, a disturbance by `State.disturb`. -/
theorem outsideEventsHaveTheirEffect : Obligations.OutsideEventsHaveTheirEffect := by
  refine ⟨⟨fun s => ?assert, fun c s arrives h => exec_of_not_receiving arrives (State.receiving_eq_false h)⟩, fun s => ?loss,
    fun b w d s powered canonical => ?disturb⟩
  case assert =>
    exact ⟨{ s with resetAsserted := true }, rfl, rfl, rfl, rfl, fun l f => State.send_of_asserted _ l f rfl⟩
  case loss =>
    have kept := s.losesSupply_kept
    refine ⟨s.losesSupply, exec_supplyLoss s, rfl, rfl, fun saving => ?_, fun idle => ?_, ?_,
      fun c => exec_of_not_powered rfl rfl⟩
    · simp [kept, saving]
    · simp [kept, idle]
    · unfold State.losesSupply
      split <;> rfl
  case disturb =>
    refine ⟨s.disturb (wordAddr b w) d, exec_of_powered (c := .storageDisturbance b w d) rfl powered, ?_, fun k other => ?_,
      fun i => ?_, fun c => s.chan_disturb _ d c,
      fun order seen k reads => Pool.readAs_disturbed (wordAddr b w) d canonical order seen reads, s.disturb_restoring _ d⟩
    · rw [State.read_disturb s _ _ d canonical, if_pos rfl]
    · rw [State.read_disturb s _ _ d canonical, if_neg other]
    · rw [State.dir_disturb]
      refine congrFun (congrArg _ (funext fun r => ?_)) _
      unfold Record.disturbed
      cases r.status <;> rfl

end Sys2Proof.Machine

/-! PROOF. The search for a standby to take over (R126 to R129), and the expiries and points that act on one record (R24, R30, R36,
R125). -/

namespace Sys2Proof.Machine

/-! ### What a command leaves of the setup -/

/-- A frame leaves the plans, the array, a SAVE under way, the clock, the supply and the commands that wait, but for the four kinds
that act on them. -/
theorem State.sameSetup_frameOwner (s : State) (k : Kind) (l : Link) (p : List Byte) (notSave : k ≠ .save := by decide)
    (notResync : k ≠ .resync := by decide) (notSet : k ≠ .set := by decide) (notApply : k ≠ .apply := by decide) :
    s.sameSetup (frameOwner k l p s) := by
  obtain ⟨active, staged⟩ := frameOwner_plans notSet notApply l p s
  exact ⟨active, staged, (State.updates.refl.frameOwner notSave notResync l p).setup⟩

/-- So does an event of the part, but for the clock, the end of a SAVE and a disturbance. -/
theorem State.sameSetup_internalEvent {c : Instr} {f : State → State} (s : State) (h : internalEvent c = some f)
    (notTick : c ≠ .clockTick := by simp) (notSave : ∀ sum, c ≠ .saveComplete sum := by simp)
    (notDisturbance : ∀ b w d, c ≠ .storageDisturbance b w d := by simp) : s.sameSetup (f s) := by
  obtain ⟨_, active, staged, _⟩ := internalEvent_frame h s
  exact ⟨active, staged, (State.updates.refl.internalEvent h notTick notSave notDisturbance).setup⟩

/-! ### Commands that do nothing, and timers that are due -/

/-- An event of the part that finds nothing to do changes nothing, with the supply and without it. -/
theorem exec_of_idle {c : Instr} {f : State → State} {s : State} (h : internalEvent c = some f) (idle : f s = s) :
    exec c s = .next s := by
  rw [exec_internal h, State.whenPowered, idle, ite_self]

@[simp] theorem Timer.due_zero : Timer.due (some 0) = true := rfl

theorem Timer.due_of_ne {t : Timer} (h : t ≠ some 0) : Timer.due t = false := by
  simpa [Timer.due] using h

/-! ### The TAKE sent -/

section
variable (s : State) (g : GroupId) (n : NodeId)

@[simp] theorem State.group_sendTake : (s.sendTake g n).group g = { s.group g with outstanding := true } := by
  simp [State.sendTake]

@[simp] theorem State.exchange_sendTake : (s.sendTake g n).exchange n = ⟨some (.take g), .start s.active.answerTime⟩ := by
  simp [State.sendTake]

theorem State.sends_sendTake : s.sends (s.sendTake g n) (.node n) [.take g] :=
  (s.sends_send (.node n) (.take g)).of_ports (fun _ => rfl) fun m => by simp [State.sendTake]

end

/-! ### The eligible standby -/

section
variable {s : State} {g : GroupId} {n : NodeId}

/-- R128: a RUNNING standby of a group in the hold without a TAKE outstanding is sent one. -/
theorem State.seekTakeover_of_running (hold : (s.group g).state.inHold = true) (free : (s.group g).outstanding = false)
    (standby : (s.group g).standby = some n) (running : (s.node n).state = .running) : s.seekTakeover g = s.sendTake g n := by
  simp [State.seekTakeover, State.eligible, hold, free, standby, running, Option.filter]

theorem State.seekTakeover_of_none
    (h : (s.group g).outstanding = true ∨ ∀ m, (s.group g).standby = some m → (s.node m).state ≠ .running) :
    s.seekTakeover g = s := by
  have noneEligible : s.eligible g = none := by
    unfold State.eligible
    rcases h with taking | idle
    · simp [taking]
    · split
      · simpa [Option.filter_eq_none_iff] using idle
      · rfl
  simp [State.seekTakeover, noneEligible]

/-- R129: a standby that reaches RUNNING is sent TAKE: the group is in the hold and past its takeover point or escalated, no TAKE is
outstanding and none was declined in this hold. -/
def State.seeks (s : State) (g : GroupId) : Prop :=
  (s.group g).state.inHold = true ∧ (s.group g).outstanding = false ∧ (s.group g).declined = false
    ∧ (s.pointPassed g = true ∨ (s.group g).escalated = true)

theorem State.seeks_congr {t : State} (group : t.group g = s.group g) (clock : t.clock = s.clock) : t.seeks g ↔ s.seeks g := by
  simp only [State.seeks, State.pointPassed, group, clock]

theorem State.standbyReachedRunning_of_seeks (standby : (s.group g).standby = some n) (running : (s.node n).state = .running)
    (seeks : s.seeks g) : s.standbyReachedRunning g = s.sendTake g n := by
  obtain ⟨hold, free, undeclined, trigger⟩ := seeks
  rw [State.standbyReachedRunning, if_pos (by simpa using trigger), State.seekUndeclined, if_neg (by simp [undeclined]),
    State.seekTakeover_of_running hold free standby running]

theorem State.standbyReachedRunning_of_not_seeks (seeks : ¬ s.seeks g) : s.standbyReachedRunning g = s := by
  unfold State.standbyReachedRunning State.seekUndeclined
  split
  · next trigger =>
    split
    · rfl
    · next undeclined =>
      have blocked : (s.eligible g) = none := by
        refine if_neg fun free => seeks ?_
        simp only [Bool.and_eq_true, Bool.not_eq_true'] at free
        exact ⟨free.1, free.2, by simpa using undeclined, by simpa using trigger⟩
      simp [State.seekTakeover, blocked]
  · rfl

theorem State.noteStandbyRunning_of_standby (member : s.groupOf n = some g) (standby : (s.group g).standby = some n) :
    s.noteStandbyRunning n = s.standbyReachedRunning g := by
  simp [State.noteStandbyRunning, member, standby]

theorem State.noteStandbyRunning_of_not_standby (member : s.groupOf n = some g) (standby : (s.group g).standby ≠ some n) :
    s.noteStandbyRunning n = s := by
  simp [State.noteStandbyRunning, member, standby]

end

/-! ### The points of the hold -/

theorem pointReached_iff {point : Option Word} {now : Word} :
    pointReached point now = true ↔ ∃ t, point = some t ∧ (now - t).toNat < 2 ^ 31 := by
  cases point <;> simp [pointReached, reached]

theorem pointReached_eq_false {point : Option Word} {now : Word} (h : ∀ t, point = some t → ¬ (now - t).toNat < 2 ^ 31) :
    pointReached point now = false :=
  Bool.eq_false_iff.2 fun reached => by
    obtain ⟨t, set, past⟩ := pointReached_iff.1 reached
    exact h t set past

@[simp] theorem State.flag_modGroup (s : State) (g : GroupId) (f : GroupRec → GroupRec) (a : Alert) :
    (s.modGroup g f).flag a = s.flag a := by
  simp [State.flag]

/-- Settles O33: the two points by what their commands test; the search for a standby is that of R128. -/
theorem pointsOfTheHoldAreReached : Obligations.PointsOfTheHoldAreReached := by
  intro g s powered
  refine ⟨fun point set hold past untaken => ?takeover, fun idle => ?noTakeover, fun deadline set held past => ?deadline,
    fun idle => ?noDeadline⟩
  case takeover =>
    let u := s.modGroup g fun r => { r with pointTaken := true }
    have group : u.group g = { s.group g with pointTaken := true } := State.group_modGroup_self _ _ _
    have taken : exec (.takeoverPointReached g) s = .next (u.seekUndeclined g) := by
      rw [exec_of_powered (c := .takeoverPointReached g) rfl powered]
      simp only [hold, untaken, set, pointReached_iff.2 ⟨point, rfl, past⟩]
      rfl
    refine ⟨u.seekUndeclined g, taken, fun m standby running free undeclined => ?_, fun idle => ?_, fun k other => by simp [u, other]⟩
    · have sought : u.seekUndeclined g = u.sendTake g m := by
        rw [State.seekUndeclined, if_neg (by simp [group, undeclined]), State.seekTakeover_of_running (n := m)]
        · rw [group]; exact hold
        · rw [group]; exact free
        · rw [group]; exact standby
        · simpa [u] using running
      rw [sought]
      refine ⟨by simp [group], by simp [u], ?_⟩
      exact (u.sends_sendTake g m).of_ports (by simp [u]) (fun _ => rfl) (by simp [u])
    · have still : u.seekUndeclined g = u := by
        unfold State.seekUndeclined
        split
        · rfl
        · next undeclined =>
          refine State.seekTakeover_of_none ?_
          rw [group] at undeclined ⊢
          rcases idle with taking | declined | notRunning
          · exact .inl taking
          · exact absurd declined undeclined
          · exact .inr (by simpa [u] using notRunning)
      rw [still]
      exact ⟨group, rfl⟩
  case noTakeover =>
    refine exec_of_idle (c := .takeoverPointReached g) rfl (if_neg ?_)
    rcases idle with out | taken | ahead
    · simp [out]
    · simp [taken]
    · simp [pointReached_eq_false ahead]
  case deadline =>
    refine ⟨_, (exec_of_powered (c := .deadlineReached g) rfl powered).trans (congrArg _ (if_pos ?_)), by simp,
      fun k other => by simp [other], by simp, fun a other => ?_, rfl⟩
    · simp [held, set, pointReached_iff.2 ⟨deadline, rfl, past⟩]
    · simp [State.flag_raise, other.symm]
  case noDeadline =>
    refine exec_of_idle (c := .deadlineReached g) rfl (if_neg ?_)
    rcases idle with out | ahead
    · simp [out]
    · simp [pointReached_eq_false ahead]

/-! ### Expiries of one node -/

/-- Settles O29: the end of a pulse by the two ways into BOOT, and the expiries that find nothing due. -/
theorem pulseStableAndNudgeExpiries : Obligations.PulseStableAndNudgeExpiries := by
  refine ⟨fun n s powered => ⟨fun state due => ?pulse, fun due => ?stable, fun state unsent due => ?nudge⟩, fun n s => ?idle⟩
  case pulse =>
    have taken : exec (.pulseExpiry n) s = .next (s.enterBoot n) :=
      (exec_of_powered (c := .pulseExpiry n) rfl powered).trans (congrArg _ (if_pos (by simp [state, due])))
    have rest : { s.enterBoot n with nodes := s.nodes, alerts := s.alerts } = s := State.eq_of_fields
    refine ⟨s.enterBoot n, taken, ?_⟩
    by_cases below : (s.node n).attempts < (s.nodePlan n).attemptLimit
    · rw [State.enterBoot_of_below s n below] at rest ⊢
      refine ⟨by simp [NodeRec.stopTimers], by simp [NodeRec.stopTimers], fun m other => by simp [other], rest,
        fun _ => by simp [NodeRec.stopTimers], fun limit => absurd below (Nat.not_lt.2 limit)⟩
    · rw [State.enterBoot_of_limit s n (Nat.not_lt.1 below)] at rest ⊢
      refine ⟨by simp [NodeRec.stopTimers], by simp [NodeRec.stopTimers], fun m other => by simp [other], rest,
        fun under => absurd under below, fun _ => by simp [NodeRec.stopTimers, State.enterHalted]⟩
  case stable =>
    refine ⟨_, (exec_of_powered (c := .stableExpiry n) rfl powered).trans (congrArg _ (if_pos (by simp [due]))), by simp,
      fun m other => by simp [other], rfl⟩
  case nudge =>
    let u := s.send (.node n) .nudge
    have taken : exec (.lapseExpiry n) s = .next (s.nudge n) :=
      (exec_of_powered (c := .lapseExpiry n) rfl powered).trans
        (congrArg _ (by simp [due, State.lapseExpired, state, unsent]))
    refine ⟨s.nudge n, taken, by simp [State.nudge], fun m other => by simp [other], ?_, ?_⟩
    · exact (s.sends_send (.node n) .nudge).of_ports (fun _ => rfl) fun m => by simp [State.nudge]
    · exact State.eq_of_fields
  case idle =>
    refine ⟨fun notDue => ?_, fun notDue => ?_, fun notDue => ?_, fun notDue => ?_, fun notDue => ?_, fun notDue => ?_,
      fun notDue => ?_, fun c notDue => ?_⟩
    · exact exec_of_idle (c := .acquireExpiry n) rfl (if_neg (by simp [Timer.due_of_ne notDue]))
    · exact exec_of_idle (c := .lapseExpiry n) rfl (if_neg (by simp [Timer.due_of_ne notDue]))
    · exact exec_of_idle (c := .stableExpiry n) rfl (if_neg (by simp [Timer.due_of_ne notDue]))
    · exact exec_of_idle (c := .pulseExpiry n) rfl (if_neg (by simp [Timer.due_of_ne notDue]))
    · exact exec_of_idle (c := .bootExpiry n) rfl (if_neg (by simp [Timer.due_of_ne notDue]))
    · exact exec_of_idle (c := .settleExpiry n) rfl (if_neg (by simp [Timer.due_of_ne notDue]))
    · exact exec_of_idle (c := .answerTimerExpiry n) rfl (if_neg (by simp [Timer.due_of_ne notDue]))
    · refine exec_of_idle (c := .holdoffExpiry c) rfl ?_
      unfold State.holdoffEnds
      split
      · next b chan =>
        refine if_neg fun due => ?_
        simp only [Bool.and_eq_true, decide_eq_true_eq] at due
        rw [Timer.due_of_ne (notDue b chan due.1)] at due
        exact absurd due.2 (by simp)
      · rfl

end Sys2Proof.Machine

/-! PROOF. AWAKE, the beats of a node in a known state, and the readings that a beat carries (R18, R23, R127, R139 to R143). -/

namespace Sys2Proof.Machine

/-! ### AWAKE -/

/-- R23: an AWAKE that is taken, up to the trigger of the group. -/
def State.awoken (s : State) (n : NodeId) : State :=
  (s.modNode n fun r => { r with state := .running, nudgeSent := false }).reply (.node n) .awake .ok

/-- The fields that an AWAKE does not touch. -/
theorem State.awoken_kept (s : State) (n : NodeId) : s.sameSetup (s.awoken n)
    ∧ (s.awoken n).groups = s.groups ∧ (s.awoken n).exchanges = s.exchanges ∧ (s.awoken n).store = s.store
    ∧ (s.awoken n).queue = s.queue ∧ (s.awoken n).channels = s.channels ∧ (s.awoken n).monitor = s.monitor
    ∧ (s.awoken n).alerts = s.alerts ∧ ∀ m, m ≠ n → (s.awoken n).node m = s.node m := by
  simp +contextual [State.sameSetup, State.awoken]

theorem State.node_awoken (s : State) (n : NodeId) :
    (s.awoken n).node n = { s.node n with state := .running, nudgeSent := false } := by
  simp [State.awoken]

/-- Settles O20: the node returns to RUNNING and is answered, and is then a standby that has reached RUNNING. -/
theorem awakeReturnsToRunning : Obligations.AwakeReturnsToRunning := by
  intro n p s g passes state member
  dsimp only
  have taken : exec (.awake (.node n) p) s = .next ((s.awoken n).noteStandbyRunning n) :=
    (exec_of_passes rfl passes).trans (congrArg _ (if_pos state))
  obtain ⟨setup, groups, exchanges, store, queue, channels, monitor, alerts, others⟩ := s.awoken_kept n
  have member' : (s.awoken n).groupOf n = some g := by rw [State.groupOf, setup.1]; exact member
  have group (k : GroupId) : (s.awoken n).group k = s.group k := by rw [State.group, groups, State.group]
  have exchange (m : NodeId) : (s.awoken n).exchange m = s.exchange m := by rw [State.exchange, exchanges, State.exchange]
  have clock : (s.awoken n).clock = s.clock := by simp [State.awoken]
  have seeks : (s.awoken n).seeks g ↔ s.seeks g := State.seeks_congr (group g) clock
  have running : ((s.awoken n).node n).state = .running := by rw [State.node_awoken]
  have replied : s.sends (s.awoken n) (.node n) [.reply 0x13#8 .ok .none] := s.sends_modNode_reply n _ _ _ _ _
  by_cases takes : (s.group g).standby = some n ∧ s.seeks g
  · obtain ⟨standby, sought⟩ := takes
    have ended : (s.awoken n).noteStandbyRunning n = (s.awoken n).sendTake g n := by
      rw [State.noteStandbyRunning_of_standby member' (by rwa [group]),
        State.standbyReachedRunning_of_seeks (by rwa [group]) running (seeks.2 sought)]
    rw [ended] at taken
    refine ⟨_, taken, by simp [State.node_awoken], fun m other => by simp [others m other], fun k other => by simp [other, group],
      fun m other => by simp [other, exchange], by simp [store], by simp [queue], by simp [channels], by simp [monitor],
      by simp [alerts], ?_, fun _ => ⟨by simp [group], by simp [setup.1], ?_⟩, fun no => absurd ⟨standby, sought⟩ no⟩
    · simpa [State.sameSetup] using setup
    · exact replied.append ((s.awoken n).sends_sendTake g n) (by rw [setup.2.2.2.2.2.1])
  · have ended : (s.awoken n).noteStandbyRunning n = s.awoken n := by
      by_cases standby : (s.group g).standby = some n
      · rw [State.noteStandbyRunning_of_standby member' (by rwa [group]),
          State.standbyReachedRunning_of_not_seeks fun sought => takes ⟨standby, seeks.1 sought⟩]
      · exact State.noteStandbyRunning_of_not_standby member' (by rwa [group])
    rw [ended] at taken
    exact ⟨_, taken, s.node_awoken n, others, fun k _ => group k, fun m _ => exchange m, store, queue, channels, monitor, alerts,
      setup, fun yes => absurd yes takes, fun _ => ⟨group g, exchange n, replied⟩⟩

/-! ### BEAT in a known state -/

theorem readings_of_zero {p : List Byte} (h : octetAt p 1 = 0) : readings p = [] := by simp [readings, h]

theorem readings_of_one {p : List Byte} (h : octetAt p 1 = 1) : readings p = [(octetAt p 2, field2 p 3)] := by
  simp [readings, h]

/-- R18: the node record that a BEAT leaves. -/
def NodeRec.beaten (r : NodeRec) (p : NodePlan) (now : Word) : NodeRec :=
  { r with
    lastBeat := some now
    beatSincePending := true
    lapse := if r.state.inService then Timer.start p.lapseMs else r.lapse
    nudgeSent := if r.state = .quiet then false else r.nudgeSent }

/-! ### Two changes of one node record -/

theorem State.modNode_modNode (s : State) (n : NodeId) (f f' : NodeRec → NodeRec) :
    (s.modNode n f).modNode n f' = s.modNode n (f' ∘ f) := by
  refine State.eq_of_fields (nodes := PerNode.ext_get fun m => ?_)
  show ((s.modNode n f).modNode n f').node m = (s.modNode n (f' ∘ f)).node m
  by_cases same : m = n
  · simp [same]
  · simp [same]

theorem State.modNode_congr (s : State) (n : NodeId) {f f' : NodeRec → NodeRec} (h : f (s.node n) = f' (s.node n)) :
    s.modNode n f = s.modNode n f' := by
  simp only [State.modNode, h]

/-- R18: a BEAT in every state that takes one but UNKNOWN. -/
theorem State.beatTaken_of_known {s : State} {n : NodeId} (p : List Byte) (halted : (s.node n).state ≠ .halted)
    (offline : (s.node n).state ≠ .offline) (unknown : (s.node n).state ≠ .unknown) :
    s.beatTaken n p =
      (s.modNode n fun r => r.beaten (s.nodePlan n) s.clock.ms).takeReadings (readings p) := by
  unfold State.beatTaken State.noteBeat
  dsimp only
  split
  case h_1 | h_2 | h_3 => contradiction
  case h_4 state | h_5 state =>
    rw [State.modNode_modNode]
    rw [s.modNode_congr n (f' := fun r => r.beaten (s.nodePlan n) s.clock.ms)]
    simp [NodeRec.beaten, state, NodeState.inService]
  all_goals
    next state =>
    rw [s.modNode_congr n (f' := fun r => r.beaten (s.nodePlan n) s.clock.ms)]
    simp [NodeRec.beaten, state, NodeState.inService]

/-- Settles O14: a BEAT by the node's state; without readings nothing but the node record changes. -/
theorem beatIsTakenByNodeState : Obligations.BeatIsTakenByNodeState := by
  intro n p s passes
  rw [exec_of_passes rfl passes]
  refine ⟨fun out => congrArg Host.Outcome.next ?_, fun halted offline unknown => ⟨_, congrArg _ (State.beatTaken_of_known p halted offline unknown),
    by simp [NodeRec.beaten], fun m other => by simp [other], by simp, by simp, by simp [State.sameSetup], fun none => ?_⟩⟩
  · rcases out with state | state <;> simp [frameOwner, onNode, State.beatTaken, state]
  · rw [readings_of_zero none]
    rfl

end Sys2Proof.Machine

/-! PROOF. One reading at a monitor channel, and the trip that escalates a group (R127, R128, R139 to R143, R146). -/

namespace Sys2Proof.Machine

/-! ### The flags that the group hold manager sets -/

theorem State.flag_of_alerts {s t : State} (h : t.alerts = s.alerts) (a : Alert) : t.flag a = s.flag a := by
  rw [State.flag, h, State.flag]

section
variable (s : State) (g : GroupId) {a : Alert} (notHeld : a ≠ .held) (notUnserved : a ≠ .unserved)
include notHeld notUnserved

/-- R123: an entry into the hold raises HELD and UNSERVED alone. -/
theorem State.flag_enterHold (base : Word) : (s.enterHold g base).flag a = s.flag a := by
  have entered : (s.holdEntered g base).flag a = s.flag a := by
    have held : ((s.modGroup g (s.heldRecord g base)).raise .held).flag a = s.flag a := by
      simp [State.flag_raise, notHeld.symm]
    refine (State.flag_of_alerts (State.reorderGroup_frame _ g).2.2.2.2.2.2.2.2.1 a).trans ?_
    split
    · rw [State.flag_raise, held]
      simp [notUnserved.symm]
    · exact held
  rw [State.enterHold_eq]
  split
  · exact (State.flag_of_alerts (by simp) a : (State.seekTakeover _ g).flag a = _).trans entered
  · exact entered

theorem State.flag_resolveIfKnown : (s.resolveIfKnown g).flag a = s.flag a := by
  have assigned (d : NodeId) (o : Option NodeId) : (s.assignRoles g d o).flag a = s.flag a := State.flag_of_alerts (by simp) a
  unfold State.resolveIfKnown State.resolveRoles
  dsimp only
  repeat' split
  · rfl
  · exact State.flag_of_alerts (by simp) a
  · exact State.flag_of_alerts (by simp) a
  · exact (State.flag_enterHold _ g notHeld notUnserved _).trans (assigned _ _)
  · rfl

theorem State.flag_noteAcquired (n : NodeId) (claim : Option Role) : (s.noteAcquired n claim).flag a = s.flag a := by
  unfold State.noteAcquired
  dsimp only
  repeat' split
  · rfl
  · exact State.flag_of_alerts (by simp) a
  · exact s.flag_resolveIfKnown _ notHeld notUnserved
  all_goals exact State.flag_of_alerts (by simp) a

end

/-! ### One reading -/

/-- R141: a reading at a channel in CLEAR or COUNTING: the channel afterwards, and whether its flag is set. -/
def MonChannel.counted (m : MonChannel) (v : Nat) : MonChannel × Bool :=
  if m.settings.high < v then
    if m.run + 1 = m.settings.faultCount then ({ m with state := .tripped, run := m.settings.faultCount }, true)
    else ({ m with state := .counting, run := m.run + 1 }, false)
  else ({ m with state := .clear, run := 0 }, false)

/-- R139 to R143: a reading at a channel. -/
def MonChannel.reading (m : MonChannel) (v : Nat) : MonChannel × Bool :=
  if 4095 < v then (m, false)
  else
    match m.settings.mode with
    | .off => (m, false)
    | .comparator =>
      if m.state = .tripped then
        if m.settings.high < v then (m, true)
        else if v < m.settings.hyst then ({ m with state := .clear, run := 0 }, false) else (m, false)
      else m.counted v
    | .twoTimes =>
      if m.state = .tripped then
        if v < m.settings.hyst then ({ m with state := .clear, run := 0 }, true) else (m, false)
      else m.counted v

theorem MonChannel.reading_settings (m : MonChannel) (v : Nat) : (m.reading v).1.settings = m.settings := by
  unfold MonChannel.reading MonChannel.counted
  repeat' split
  all_goals rfl

section
variable {m : MonChannel} {v : Nat}

theorem MonChannel.reading_of_unread (h : m.settings.mode = .off ∨ 4095 < v) : m.reading v = (m, false) := by
  rcases h with off | beyond
  · simp [MonChannel.reading, off]
  · simp [MonChannel.reading, beyond]

theorem MonChannel.reading_of_untripped (on : m.settings.mode ≠ .off) (fits : v ≤ 4095) (untripped : m.state ≠ .tripped) :
    m.reading v = m.counted v := by
  cases mode : m.settings.mode with
  | off => exact absurd mode on
  | comparator => simp [MonChannel.reading, mode, Nat.not_lt.2 fits, untripped]
  | twoTimes => simp [MonChannel.reading, mode, Nat.not_lt.2 fits, untripped]

/-- R142, R143: a reading above high at a channel in TRIPPED leaves it; only a COMPARATOR sets its flag again. -/
theorem MonChannel.reading_of_tripped_high (on : m.settings.mode ≠ .off) (fits : v ≤ 4095) (tripped : m.state = .tripped)
    (below : m.settings.hyst < m.settings.high) (high : m.settings.high < v) :
    m.reading v = (m, decide (m.settings.mode = .comparator)) := by
  cases mode : m.settings.mode with
  | off => exact absurd mode on
  | comparator => simp [MonChannel.reading, mode, Nat.not_lt.2 fits, tripped, high]
  | twoTimes => simp [MonChannel.reading, mode, Nat.not_lt.2 fits, tripped, Nat.not_lt.2 (by omega : m.settings.hyst ≤ v)]

theorem MonChannel.reading_of_tripped_between (fits : v ≤ 4095) (tripped : m.state = .tripped) (notLow : m.settings.hyst ≤ v)
    (notHigh : v ≤ m.settings.high) : m.reading v = (m, false) := by
  cases mode : m.settings.mode with
  | off => exact MonChannel.reading_of_unread (.inl mode)
  | comparator => simp [MonChannel.reading, mode, Nat.not_lt.2 fits, tripped, Nat.not_lt.2 notHigh, Nat.not_lt.2 notLow]
  | twoTimes => simp [MonChannel.reading, mode, Nat.not_lt.2 fits, tripped, Nat.not_lt.2 notLow]

/-- R142, R143: a reading below the hysteresis clears a channel in TRIPPED; only a TWO_TIMES sets its flag again. -/
theorem MonChannel.reading_of_tripped_low (on : m.settings.mode ≠ .off) (fits : v ≤ 4095) (tripped : m.state = .tripped)
    (below : m.settings.hyst < m.settings.high) (low : v < m.settings.hyst) :
    m.reading v = ({ m with state := .clear, run := 0 }, decide (m.settings.mode = .twoTimes)) := by
  cases mode : m.settings.mode with
  | off => exact absurd mode on
  | comparator =>
    simp [MonChannel.reading, mode, Nat.not_lt.2 fits, tripped, Nat.not_lt.2 (by omega : v ≤ m.settings.high), low]
  | twoTimes => simp [MonChannel.reading, mode, Nat.not_lt.2 fits, tripped, low]

end

/-- State t comes from s by what a reading does to channel k, seen at the channels and their flags. -/
structure State.reads (s t : State) (k : Fin 16) (result : MonChannel × Bool) : Prop where
  monitor : t.monitor = s.monitor.set k result.1
  flag : ∀ j, t.flag (.channel j) = (s.flag (.channel j) || (result.2 && decide (k = j)))

theorem State.reads_of_unchanged (s : State) (k : Fin 16) : s.reads s k (s.monitor[k], false) := by
  refine ⟨?_, fun j => by simp⟩
  simp

theorem State.reads_of_raise {s t : State} {k : Fin 16} {m : MonChannel} (monitor : t.monitor = s.monitor.set k m)
    (alerts : t.alerts = (s.raise (.channel k)).alerts) : s.reads t k (m, true) := by
  refine ⟨monitor, fun j => ?_⟩
  rw [State.flag_of_alerts alerts, State.flag_raise]
  simp

theorem State.reads_of_setMonitor (s : State) (k : Fin 16) (m : MonChannel) : s.reads (s.setMonitor k m) k (m, false) :=
  ⟨rfl, fun j => by simp [State.flag]⟩

@[simp] theorem State.reportTrip_alerts (s : State) (g : GroupId) : (s.reportTrip g).alerts = s.alerts := by
  unfold State.reportTrip
  split <;> simp

theorem State.reads_tripChannel (s : State) (k : Fin 16) (m : MonChannel) :
    s.reads (s.tripChannel k m) k ({ m with state := .tripped, run := m.settings.faultCount }, true) := by
  refine State.reads_of_raise (s.tripChannel_monitor k m) ?_
  unfold State.tripChannel
  dsimp only
  split <;> simp

theorem State.reads_countReading (s : State) (k : Fin 16) (m : MonChannel) (v : Nat) :
    s.reads (s.countReading k m v) k (m.counted v) := by
  unfold State.countReading MonChannel.counted
  repeat' split
  exacts [s.reads_tripChannel k m, s.reads_of_setMonitor k _, s.reads_of_setMonitor k _]

theorem State.reads_takeReading (s : State) (k : Fin 16) (v : Nat) :
    s.reads (s.takeReading (k.val, v)) k ((s.monitor[k]).reading v) := by
  unfold State.takeReading MonChannel.reading
  simp only [channelOf_val, Config.maxReading]
  by_cases above : 4095 < v
  · simp only [if_pos above]
    exact s.reads_of_unchanged k
  · simp only [if_neg above]
    cases (s.monitor[k]).settings.mode with
    | off => exact s.reads_of_unchanged k
    | comparator =>
      by_cases tripped : (s.monitor[k]).state = .tripped
      · simp only [if_pos tripped, State.comparatorReading]
        repeat' split
        exacts [State.reads_of_raise (by simp) rfl, s.reads_of_setMonitor k _, s.reads_of_unchanged k]
      · simp only [if_neg tripped]
        exact s.reads_countReading k _ v
    | twoTimes =>
      by_cases tripped : (s.monitor[k]).state = .tripped
      · simp only [if_pos tripped, State.twoTimesReading]
        split
        exacts [State.reads_of_raise rfl rfl, s.reads_of_unchanged k]
      · simp only [if_neg tripped]
        exact s.reads_countReading k _ v

theorem State.reads.of_flags {s t u : State} {k : Fin 16} {r : MonChannel × Bool} (h : s.reads t k r)
    (monitor : u.monitor = t.monitor) (flag : ∀ j, u.flag (.channel j) = t.flag (.channel j)) : s.reads u k r :=
  ⟨monitor.trans h.monitor, fun j => (flag j).trans (h.flag j)⟩

/-- A reading taken after a change beside the monitor and the alert unit. -/
theorem State.reads_takeReading_after {s t : State} (k : Fin 16) (v : Nat) (monitor : t.monitor = s.monitor)
    (alerts : t.alerts = s.alerts) : s.reads (t.takeReading (k.val, v)) k ((s.monitor[k]).reading v) := by
  have h := t.reads_takeReading k v
  rw [monitor] at h
  exact ⟨h.monitor.trans (by rw [monitor]), fun j => (h.flag j).trans (by rw [State.flag_of_alerts alerts])⟩

/-- R139: a BEAT with one reading. The node and its group do not bear on the channels. -/
theorem State.beatTaken_reads {s : State} {n : NodeId} {p : List Byte} {k : Fin 16} (halted : (s.node n).state ≠ .halted)
    (offline : (s.node n).state ≠ .offline) (one : octetAt p 1 = 1) (channel : octetAt p 2 = k.val) :
    s.reads (s.beatTaken n p) k ((s.monitor[k]).reading (field2 p 3)) := by
  have payload : readings p = [(k.val, field2 p 3)] := by rw [readings_of_one one, channel]
  by_cases unknown : (s.node n).state = .unknown
  · have taken : s.beatTaken n p =
        ((((s.noteBeat n).modNode n fun r => r.enterRunning (s.nodePlan n) s.clock.ms).takeReadings (readings p)).noteAcquired n
          (roleClaim p)) := by
      simp [State.beatTaken, unknown]
    rw [taken, payload]
    refine (State.reads_takeReading_after k _ (by simp) (by simp) :
      s.reads (State.takeReading (State.modNode _ n _) (k.val, field2 p 3)) k _).of_flags (by simp [State.takeReadings])
      fun j => State.flag_noteAcquired _ (by simp) (by simp) n _
  · rw [State.beatTaken_of_known p halted offline unknown, payload]
    exact State.reads_takeReading_after k _ (by simp) (by simp)

/-- Settles O17: the channel and its flag after the reading are those of `MonChannel.reading`, case by case. -/
theorem readingStepsTheChannel : Obligations.ReadingStepsTheChannel := by
  intro n p k s passes halted offline one channel valid
  dsimp only
  obtain ⟨_, below, _⟩ := (MonSettings.valid_iff _).1 valid
  obtain ⟨monitor, flags⟩ := State.beatTaken_reads (p := p) halted offline one channel
  refine ⟨s.beatTaken n p, exec_of_passes rfl passes, ?_⟩
  have at_k : (s.beatTaken n p).monitor[k] = ((s.monitor[k]).reading (field2 p 3)).1 := by simp [monitor]
  have flag := flags k
  rw [at_k, flag]
  refine ⟨fun j other => ?others, fun j other => by simp [flags, other.symm], ?_⟩
  case others =>
    have apart : k.val ≠ j.val := fun same => other (Fin.ext same.symm)
    simp [monitor, apart]
  generalize s.monitor[k] = m at below ⊢
  generalize field2 p 3 = v
  refine ⟨m.reading_settings v, fun unread => ?_, fun on fits untripped => ?_,
    fun on fits tripped => ⟨fun high => ?_, fun notLow notHigh => ?_, fun low => ?_⟩⟩
  · simp [MonChannel.reading_of_unread unread]
  · rw [MonChannel.reading_of_untripped on fits untripped]
    refine ⟨fun high last => ?_, fun high more => ?_, fun low => ?_⟩
    · simp [MonChannel.counted, high, last]
    · simp [MonChannel.counted, high, more]
    · simp [MonChannel.counted, Nat.not_lt.2 low]
  · simp [MonChannel.reading_of_tripped_high on fits tripped below high]
  · simp [MonChannel.reading_of_tripped_between fits tripped notLow notHigh]
  · simp [MonChannel.reading_of_tripped_low on fits tripped below low]

/-! ### The trip that escalates a group -/

/-- R127: a group in the hold is escalated, and a RUNNING standby is sent TAKE. -/
def State.escalate (s : State) (g : GroupId) : State := (s.modGroup g fun r => { r with escalated := true }).reorderGroup g

theorem State.reportTrip_of_held {s : State} {g : GroupId} (hold : (s.group g).state.inHold = true)
    (calm : (s.group g).escalated = false) : s.reportTrip g = (s.escalate g).seekTakeover g := by
  simp [State.reportTrip, State.escalate, hold, calm]

theorem State.group_escalate (s : State) (g : GroupId) : (s.escalate g).group g = { s.group g with escalated := true } := by
  simp [State.escalate]

/-- The state in which a BEAT with one reading, which trips channel k, has told the group hold manager. -/
def State.tripTold (s : State) (n : NodeId) (k : Fin 16) (g : GroupId) : State :=
  (((s.modNode n fun r => r.beaten (s.nodePlan n) s.clock.ms).setMonitor k
    { s.monitor[k] with state := .tripped, run := (s.monitor[k]).settings.faultCount }).raise (.channel k)).escalate g

/-- What the trip leaves as it was, before the search for a standby. -/
theorem State.tripTold_kept (s : State) (n : NodeId) (k : Fin 16) (g : GroupId) : (s.tripTold n k g).exchanges = s.exchanges
    ∧ (s.tripTold n k g).store = s.store ∧ (s.tripTold n k g).channels = s.channels
    ∧ (s.tripTold n k g).active = s.active ∧ (s.tripTold n k g).resetAsserted = s.resetAsserted
    ∧ (∀ l, (s.tripTold n k g).port l = s.port l) ∧ ∀ x, x ≠ g → (s.tripTold n k g).group x = s.group x := by
  simp +contextual [State.tripTold, State.escalate]

theorem State.group_tripTold (s : State) (n : NodeId) (k : Fin 16) (g : GroupId) :
    (s.tripTold n k g).group g = { s.group g with escalated := true } := by
  simp [State.tripTold, State.escalate]

theorem State.node_state_tripTold (s : State) (n : NodeId) (k : Fin 16) (g : GroupId) (m : NodeId) :
    ((s.tripTold n k g).node m).state = (s.node m).state := by
  by_cases same : m = n
  · simp [State.tripTold, State.escalate, same, NodeRec.beaten]
  · simp [State.tripTold, State.escalate, same]

theorem State.takeReading_of_trip {s : State} {k : Fin 16} {v : Nat} (fits : v ≤ 4095) (on : (s.monitor[k]).settings.mode ≠ .off)
    (untripped : (s.monitor[k]).state ≠ .tripped) (high : (s.monitor[k]).settings.high < v)
    (last : (s.monitor[k]).run + 1 = (s.monitor[k]).settings.faultCount) :
    s.takeReading (k.val, v) = s.tripChannel k s.monitor[k] := by
  have counted : s.countReading k s.monitor[k] v = s.tripChannel k s.monitor[k] := by
    rw [State.countReading, if_pos high, if_pos last]
  unfold State.takeReading
  simp only [channelOf_val, Config.maxReading, Nat.not_lt.2 fits, if_neg untripped, counted]
  cases mode : (s.monitor[k]).settings.mode with
  | off => exact absurd mode on
  | comparator => simp
  | twoTimes => simp

/-- Settles O18: the reading trips its channel, whose group is in the hold; the search for a standby is then that of R128. -/
theorem tripEscalatesAHeldGroup : Obligations.TripEscalatesAHeldGroup := by
  intro n p k g s passes halted offline unknown one channel fits high on untripped last escalates named hold calm
  obtain ⟨exchanges, store, channels, active, level, ports, others⟩ := s.tripTold_kept n k g
  have group := s.group_tripTold n k g
  have states := s.node_state_tripTold n k g
  have taken : s.beatTaken n p = (s.tripTold n k g).seekTakeover g := by
    rw [State.beatTaken_of_known p halted offline unknown, readings_of_one one, channel, State.takeReadings, List.foldl_cons,
      List.foldl_nil, State.takeReading_of_trip fits (by simpa using on) (by simpa using untripped) (by simpa using high)
        (by simpa using last)]
    simp only [State.tripChannel, State.modNode_frame, escalates, named, if_true]
    exact State.reportTrip_of_held (by rw [← hold]; simp) (by rw [← calm]; simp)
  have setup : s.sameSetup (s.beatTaken n p) := s.sameSetup_frameOwner .beat (.node n) p
  have exchange (x : NodeId) : (s.tripTold n k g).exchange x = s.exchange x := by
    rw [State.exchange, exchanges, State.exchange]
  refine ⟨s.beatTaken n p, exec_of_passes rfl passes, fun x other => ?_, ?_, ?_, setup, fun m standby running free => ?_,
    fun idle => ?_⟩
  · rw [taken]; simp [other, others]
  · rw [taken]; simp [store]
  · rw [taken]; simp [channels]
  · have sought := State.seekTakeover_of_running (s := s.tripTold n k g) (g := g) (n := m) (by rw [group]; exact hold)
      (by rw [group]; exact free) (by rw [group]; exact standby) ((states m).trans running)
    rw [taken, sought]
    exact ⟨by simp [group], by simp [active], fun x other => by simp [other, exchange],
      ((s.tripTold n k g).sends_sendTake g m).of_ports ports (fun _ => rfl) level⟩
  · have still := State.seekTakeover_of_none (s := s.tripTold n k g) (g := g)
      (by rw [group]; exact idle.imp id fun none m standby => by rw [states]; exact none m standby)
    rw [taken, still]
    exact ⟨group, exchanges, ports⟩

end Sys2Proof.Machine

/-! PROOF. The node record across a HELLO: what the queue, the channels and the store leave of it, and the cause that it is given
(R40, R41, R45, O25). -/

namespace Sys2Proof.Machine

/-! ### What the queue and the channels leave of a node record -/

/-- A node record but for its state and its channel, the fields that the queue and the channels write. -/
def NodeRec.core (r : NodeRec) : NodeRec := { r with state := .offline, channel := none }

section
variable (s : State) (x : NodeId)

/-- R102: a binding writes the state and the channel of the node bound. -/
theorem State.core_bindHead (c : ChanId) : ((s.bindHead c).node x).core = (s.node x).core := by
  unfold State.bindHead
  split
  · rw [State.node_modNode]
    split
    · next same => rw [same]; simp [NodeRec.core]
    · simp
  · rfl

theorem State.core_arbiter : (s.arbiter.node x).core = (s.node x).core :=
  ((s.bindHead .c0).core_bindHead x .c1).trans (s.core_bindHead x .c0)

/-- R103: an unbinding writes the channel of the node bound, and the arbiter runs. -/
theorem State.core_unbind (c : ChanId) : ((s.unbind c).node x).core = (s.node x).core := by
  unfold State.unbind
  split
  · rfl
  · rw [State.core_arbiter, State.node_modNode]
    split
    · next same => rw [same]; simp [NodeRec.core]
    · simp

theorem State.core_queueIfWarm (n : NodeId) : ((s.queueIfWarm n).node x).core = (s.node x).core := by
  unfold State.queueIfWarm
  split
  · rw [State.core_arbiter]
    rfl
  · rfl

/-! ### What a removal leaves of a node record -/

/-- A node record but for its open record field. -/
def NodeRec.unopened (r : NodeRec) : NodeRec := { r with openRec := none }

/-- R66: a removal clears the open record field that names the record. -/
theorem State.unopened_removeRecord (i : Slot) : ((s.removeRecord i).node x).unopened = (s.node x).unopened := by
  unfold State.removeRecord
  split
  · rfl
  · rw [State.node_modNode]
    split
    · next same => rw [same]; rfl
    · rfl

theorem State.unopened_dropOpenRecord (n : NodeId) (answered : Bool) :
    ((s.dropOpenRecord n answered).node x).unopened = (s.node x).unopened := by
  unfold State.dropOpenRecord
  dsimp only
  repeat' split
  · rfl
  · simp [State.unopened_removeRecord]
  · simp [State.unopened_removeRecord]
  · exact s.unopened_removeRecord x _

end

/-! ### What the group hold manager and the links leave -/

theorem State.node_noteLeftService (s : State) (n x : NodeId) : (s.noteLeftService n).node x = s.node x := by simp

theorem State.node_noteLeftUnknown (s : State) (n x : NodeId) : (s.noteLeftUnknown n).node x = s.node x := by simp

theorem State.node_reply (s : State) (l : Link) (k : Kind) (r : Result) (b : Body) (x : NodeId) :
    (s.reply l k r b).node x = s.node x := by simp

/-! ### The cause, the drive reason and the warm capable flag -/

/-- What a HELLO writes (R40): cause, drive reason and warm capable. -/
def NodeRec.hello (r : NodeRec) : Option Cause × Option DriveReason × Bool := (r.cause, r.drive, r.warmCapable)

section
variable (s : State) (n : NodeId) (p : List Byte)

/-- What the HELLO of node n writes. -/
def State.helloWrites : Option Cause × Option DriveReason × Bool :=
  (some (classify (bootReason p) (s.node n).drive (s.nodePlan n).resetDrive), none, warmCapable p)

theorem State.hello_takeHello : ((s.takeHello n p).node n).hello = s.helloWrites n p := by
  rw [State.node_takeHello]
  rfl

theorem State.hello_giveVerdict : ((s.giveVerdict n).node n).hello = (s.node n).hello := by
  rw [State.node_giveVerdict]
  split <;> rfl

theorem State.hello_queueIfWarm : ((s.queueIfWarm n).node n).hello = (s.node n).hello :=
  congrArg (fun r => (r.cause, r.drive, r.warmCapable)) (s.core_queueIfWarm n n)

/-- R45: what an unannounced HELLO ends leaves the drive reason, by which it is classified. -/
theorem State.drive_endForHello : ((s.endForHello n).node n).drive = (s.node n).drive := by
  have left : ((s.leaveService n false).node n).drive = (s.node n).drive :=
    (congrArg NodeRec.drive (State.unopened_dropOpenRecord _ n n false)).trans (by simp [NodeRec.unopened])
  have unbound (c : ChanId) : ((s.unbind c).node n).drive = (s.node n).drive :=
    congrArg (fun r => r.drive) (s.core_unbind n c)
  unfold State.endForHello
  split
  case h_1 | h_2 => exact left
  case h_4 =>
    unfold State.silentAbort
    split
    exacts [unbound _, rfl]
  all_goals rfl

theorem State.helloWrites_endForHello : (s.endForHello n).helloWrites n p = s.helloWrites n p := by
  simp [State.helloWrites, State.drive_endForHello, State.nodePlan]

/-- R45: an unannounced HELLO writes what any HELLO does. -/
theorem State.hello_unannounced : ((s.unannounced n p).node n).hello = s.helloWrites n p := by
  have taken : (((s.endForHello n).takeHello n p).node n).hello = s.helloWrites n p := by
    rw [State.hello_takeHello, State.helloWrites_endForHello]
  unfold State.unannounced
  dsimp only
  rw [State.hello_queueIfWarm, apply_ite (fun t : State => t.node n), 
    State.node_noteLeftService, ite_self]
  split
  · rw [State.hello_giveVerdict, State.node_modNode_self]
    exact taken
  · rw [State.node_reply, State.node_enterHalted]
    exact taken

/-- R40: what a HELLO that is taken writes, in every state that takes one. -/
theorem State.hello_helloTaken (reset : (s.node n).state ≠ .reset) (halted : (s.node n).state ≠ .halted)
    (offline : (s.node n).state ≠ .offline) : ((s.helloTaken n p).node n).hello = s.helloWrites n p := by
  have given : (((s.takeHello n p).giveVerdict n).node n).hello = s.helloWrites n p := by
    rw [State.hello_giveVerdict, State.hello_takeHello]
  unfold State.helloTaken
  split
  case h_1 =>
    rw [State.hello_queueIfWarm, State.node_noteLeftUnknown]
    exact given
  case h_2 =>
    rw [State.hello_queueIfWarm]
    exact given
  case h_3 | h_4 | h_5 | h_6 | h_7 => exact s.hello_unannounced n p
  all_goals contradiction

end

/-- Settles O25: the record after a HELLO, and the table of R41. -/
theorem helloClassifiesTheRestart : Obligations.HelloClassifiesTheRestart := by
  intro n p s passes reset halted offline
  have written := s.hello_helloTaken n p reset halted offline
  obtain ⟨cause, drive, capable⟩ : _ ∧ _ ∧ _ := by simpa [NodeRec.hello, State.helloWrites] using written
  refine ⟨s.helloTaken n p, exec_of_passes rfl passes, drive, capable, ?_⟩
  simp only [cause, Option.some.injEq]
  refine ⟨fun boot => ?_, fun boot held => ?_, fun boot held => ?_, fun boot held => ?_, fun boot held => ?_, fun boot held => ?_,
    fun boot => ?_, fun boot held drives => ?_, fun boot held drives => ?_, fun boot held drives => ?_, fun boot other => ?software⟩
  case software =>
    rw [boot]
    rcases other with lapse | drives | none
    · rw [lapse]; rfl
    · rw [drives]; rcases (s.node n).drive with _ | (_ | _ | _ | _) <;> rfl
    · rw [none]; rfl
  all_goals simp [classify, *]

end Sys2Proof.Machine

/-! PROOF. The committed list and the sets, as read from the directory (R63, R64). -/

namespace Sys2Proof.Machine

/-! ### Sorting and filtering commute -/

section
variable {α : Type} {r : α → α → Prop} [DecidableRel r]

theorem filter_orderedInsert [IsTrans α r] {l : List α} (sorted : l.Pairwise r) (p : α → Bool) (a : α) :
    (l.orderedInsert r a).filter p = if p a then (l.filter p).orderedInsert r a else l.filter p := by
  induction l with
  | nil => cases h : p a <;> simp [h]
  | cons b l ih =>
    obtain ⟨below, rest⟩ := List.pairwise_cons.1 sorted
    by_cases before : r a b
    · have first : ∀ x ∈ (b :: l).filter p, r a x := fun x hx => by
        obtain same | later := List.mem_cons.1 (List.mem_filter.1 hx).1
        · exact same ▸ before
        · exact IsTrans.trans a b x before (below x later)
      have placed : ((b :: l).filter p).orderedInsert r a = a :: (b :: l).filter p := by
        cases h : (b :: l).filter p with
        | nil => rfl
        | cons c l' => exact List.orderedInsert_cons_of_le r l' (first c (by simp [h]))
      rw [List.orderedInsert_cons_of_le r l before, placed, List.filter_cons]
    · rw [List.orderedInsert_of_not_le r l before, List.filter_cons, ih rest]
      cases hb : p b <;> cases ha : p a <;> simp [hb, before]

theorem filter_insertionSort [IsTrans α r] [Std.Total r] (p : α → Bool) (l : List α) :
    (l.insertionSort r).filter p = (l.filter p).insertionSort r := by
  induction l with
  | nil => rfl
  | cons a l ih =>
    rw [List.insertionSort_cons, filter_orderedInsert (List.pairwise_insertionSort r l), ih, List.filter_cons]
    split <;> rfl

end

/-- The order of the committed list is that of the generations, whatever else is picked from it. -/
theorem filter_byGeneration (p : Entry → Bool) (l : List Entry) : (byGeneration l).filter p = byGeneration (l.filter p) := by
  let byGen (x y : Entry) : Prop := x.2.gen.toNat ≤ y.2.gen.toNat
  have trans : IsTrans Entry byGen := ⟨fun _ _ _ => Nat.le_trans⟩
  have total : Std.Total byGen := ⟨fun x y => Nat.le_total x.2.gen.toNat y.2.gen.toNat⟩
  exact filter_insertionSort (r := byGen) p l

theorem byGeneration_perm (l : List Entry) : (byGeneration l).Perm l := List.perm_insertionSort _ _

/-! ### The entries of the directory -/

/-- The entries that satisfy a test, slot by slot. -/
theorem Store.filter_entries (st : Store) (p : Record → Bool) :
    (st.entries.filter fun e => p e.2) = (List.finRange 40).filterMap fun i => ((st.dir[i]).filter p).map fun r => (i, r) := by
  rw [Store.entries, List.filter_filterMap]
  congr 1
  funext i
  cases st.dir[i] with
  | none => rfl
  | some r => cases h : p r <;> simp [Option.filter, h]

theorem Store.mem_entries {st : Store} {e : Entry} : e ∈ st.entries ↔ st.dir[e.1] = some e.2 := by
  obtain ⟨i, r⟩ := e
  simp [Store.entries, -Fin.getElem_fin]

theorem Store.nodup_entries (st : Store) : (st.entries.map Prod.fst).Nodup := by
  have slots : (st.entries.map Prod.fst).Sublist (List.finRange 40) := by
    unfold Store.entries
    rw [List.map_filterMap]
    induction List.finRange 40 with
    | nil => exact .slnil
    | cons i l ih => cases h : st.dir[i] <;> simp_all [-Fin.getElem_fin]
  exact slots.nodup (List.nodup_finRange 40)

/-! ### The committed list -/

/-- A committed record of node n. -/
def Record.committedOf (n : NodeId) (r : Record) : Bool := r.node = n && r.isCommitted

theorem Store.committed_eq (st : Store) (n : NodeId) :
    st.committed n =
      byGeneration ((List.finRange 40).filterMap fun i => ((st.dir[i]).filter (Record.committedOf n)).map fun r => (i, r)) := by
  rw [← Store.filter_entries, Store.committed, Store.recordsOf, filter_byGeneration, List.filter_filter]
  congr 2
  funext e
  rw [Bool.and_comm]
  rfl

/-- The committed list of a node depends on its committed records alone. -/
theorem Store.committed_congr {st new : Store} {n : NodeId}
    (h : ∀ i : Slot, (new.dir[i]).filter (Record.committedOf n) = (st.dir[i]).filter (Record.committedOf n)) :
    new.committed n = st.committed n := by
  simp only [Store.committed_eq, h]

theorem Store.mem_committed {st : Store} {n : NodeId} {e : Entry} :
    e ∈ st.committed n ↔ st.dir[e.1] = some e.2 ∧ e.2.node = n ∧ e.2.isCommitted = true := by
  rw [Store.committed, List.mem_filter, Store.recordsOf, (byGeneration_perm _).mem_iff, List.mem_filter, Store.mem_entries]
  simp [and_assoc]

theorem Store.nodup_committed (st : Store) (n : NodeId) : ((st.committed n).map Prod.fst).Nodup := by
  have slots : ((byGeneration (st.entries.filter fun e => e.2.node = n)).map Prod.fst).Nodup :=
    ((byGeneration_perm _).map Prod.fst).nodup_iff.2 (st.nodup_entries.sublist (List.filter_sublist.map Prod.fst))
  exact slots.sublist (List.filter_sublist.map Prod.fst)

/-- The newest committed generation depends on the committed list alone. -/
theorem Store.newestGen_congr {st new : Store} {n : NodeId} (h : new.committed n = st.committed n) :
    new.newestGen n = st.newestGen n := by
  rw [Store.newestGen, h, Store.newestGen]

/-- R66: a record that is not committed is in no committed list, so its removal leaves them all. -/
theorem State.committed_removeRecord {s : State} {i : Slot} (uncommitted : ∀ r, s.store.dir[i] = some r → r.isCommitted = false)
    (n : NodeId) : (s.removeRecord i).store.committed n = s.store.committed n := by
  refine Store.committed_congr fun j => ?_
  rw [State.dir_removeRecord]
  split
  · next same =>
    subst same
    cases h : s.store.dir[j] with
    | none => rfl
    | some r => simp [Option.filter, Record.committedOf, uncommitted r h]
  · rfl

/-! ### Sets -/

theorem Store.mem_setOf {st : Store} {n : NodeId} {g : Word} {e : Entry} :
    e ∈ st.setOf n g ↔ (st.dir[e.1] = some e.2 ∧ e.2.node = n ∧ e.2.isCommitted = true) ∧ e.2.inSetOf g = true := by
  rw [Store.setOf, List.mem_filter, Store.mem_committed]

theorem Store.nodup_setOf (st : Store) (n : NodeId) (g : Word) : ((st.setOf n g).map Prod.fst).Nodup :=
  (st.nodup_committed n).sublist (List.filter_sublist.map Prod.fst)

end Sys2Proof.Machine

/-! PROOF. Leaving service: the open record is removed and its pass ends (R31, R66, R67, R91), and a restart begins (R34, R35). -/

namespace Sys2Proof.Machine

/-! ### The open record of one node -/

/-- R66: what a removal writes in the node records. -/
theorem State.node_removeRecord {s : State} {i : Slot} {r : Record} (held : s.store.dir[i] = some r) (x : NodeId) :
    (s.removeRecord i).node x =
      if x = r.node then
        { s.node x with openRec := if (s.node x).openRec = some i then none else (s.node x).openRec }
      else s.node x := by
  simp only [State.removeRecord, held]
  rw [State.node_modNode]
  split
  · next same => rw [same]; rfl
  · rfl

/-- R67, R90, R160, for node n: its open record field names a record of its own that is not committed, and a COMMIT is in progress
on its link exactly while that record is VERIFYING. -/
structure State.uploads (s : State) (n : NodeId) : Prop where
  held : ∀ i, (s.node n).openRec = some i → ∃ r, s.store.dir[i] = some r ∧ r.node = n ∧ r.isCommitted = false
  request : (s.port (.node n)).inProgress =
    if ((s.node n).openRec.bind fun i => s.store.dir[i]).any Record.isVerifying then some .commit else none

theorem State.uploads_of_uploadLaw {s : State} (law : s.uploadLaw) (n : NodeId) : s.uploads n :=
  ⟨fun i names => (law.1 n i names).2, law.2.2 n⟩

theorem State.uploads.congr {s t : State} {n : NodeId} (h : s.uploads n)
    (openRec : (t.node n).openRec = (s.node n).openRec := by simp)
    (store : t.store = s.store := by simp)
    (port : (t.port (.node n)).inProgress = (s.port (.node n)).inProgress := by simp) : t.uploads n :=
  ⟨fun i names => by rw [store]; exact h.held i (openRec ▸ names), by rw [port, openRec, store]; exact h.request⟩

section
variable {s : State} {n : NodeId} {i : Slot} {r : Record} (answered : Bool)

theorem State.dropOpenRecord_of_none (none : (s.node n).openRec = none) : s.dropOpenRecord n answered = s := by
  simp [State.dropOpenRecord, none]

theorem State.dropOpenRecord_of_opened (names : (s.node n).openRec = some i) (held : s.store.dir[i] = some r)
    (opened : r.isVerifying = false) : s.dropOpenRecord n answered = s.removeRecord i := by
  simp only [State.dropOpenRecord, names, held, Option.any_some, opened]
  rfl

theorem State.dropOpenRecord_of_verifying (names : (s.node n).openRec = some i) (held : s.store.dir[i] = some r)
    (verifying : r.isVerifying = true) :
    s.dropOpenRecord n answered =
      if answered then
        ((s.removeRecord i).endRequest (.node n)).reply (.node n) .commit .badState
          (.newest ((s.removeRecord i).store.newestGen n))
      else (s.removeRecord i).endRequest (.node n) := by
  simp only [State.dropOpenRecord, names, held, Option.any_some, verifying, if_true]
  simp

/-- A node without an open record is left alone; that of a node with one is removed, and with it a request that waits for it. -/
theorem State.dropOpenRecord_cases (h : s.uploads n) :
    (s.node n).openRec = none ∧ (s.port (.node n)).inProgress = none ∧ s.dropOpenRecord n answered = s
      ∨ ∃ i r, (s.node n).openRec = some i ∧ s.store.dir[i] = some r ∧ r.node = n ∧ r.isCommitted = false
          ∧ (((s.port (.node n)).inProgress = none ∧ s.dropOpenRecord n answered = s.removeRecord i)
            ∨ ((s.port (.node n)).inProgress = some .commit
                ∧ s.dropOpenRecord n answered =
                  if answered then
                    ((s.removeRecord i).endRequest (.node n)).reply (.node n) .commit .badState
                      (.newest ((s.removeRecord i).store.newestGen n))
                  else (s.removeRecord i).endRequest (.node n))) := by
  have request := h.request
  cases names : (s.node n).openRec with
  | none =>
    rw [names] at request
    exact .inl ⟨rfl, request, State.dropOpenRecord_of_none answered names⟩
  | some i =>
    obtain ⟨r, held, own, uncommitted⟩ := h.held i names
    rw [names, Option.bind_some, held, Option.any_some] at request
    refine .inr ⟨i, r, rfl, held, own, uncommitted, ?_⟩
    cases verifying : r.isVerifying with
    | false =>
      rw [verifying] at request
      exact .inl ⟨request, State.dropOpenRecord_of_opened answered names held verifying⟩
    | true =>
      rw [verifying] at request
      exact .inr ⟨request, State.dropOpenRecord_of_verifying answered names held verifying⟩

/-- R67: the open record field is cleared, and nothing else in the node records. -/
theorem State.node_dropOpenRecord (h : s.uploads n) (x : NodeId) :
    (s.dropOpenRecord n answered).node x = if x = n then { s.node n with openRec := none } else s.node x := by
  have cleared {i : Slot} {r : Record} (names : (s.node n).openRec = some i) (held : s.store.dir[i] = some r)
      (own : r.node = n) : (s.removeRecord i).node x = if x = n then { s.node n with openRec := none } else s.node x := by
    rw [State.node_removeRecord held, own]
    split
    · next same => rw [same, if_pos names]
    · rfl
  obtain ⟨none, _, same⟩ | ⟨i, r, names, held, own, _, ⟨_, removed⟩ | ⟨_, removed⟩⟩ := State.dropOpenRecord_cases answered h
  · rw [same]
    split
    · next here => rw [here, ← none]
    · rfl
  · rw [removed, cleared names held own]
  · rw [removed]
    split
    · simpa using cleared names held own
    · simpa using cleared names held own

/-- R67: the record that is removed is in no committed list. -/
theorem State.committed_dropOpenRecord (h : s.uploads n) (m : NodeId) :
    (s.dropOpenRecord n answered).store.committed m = s.store.committed m := by
  have kept {i : Slot} {r : Record} (held : s.store.dir[i] = some r) (uncommitted : r.isCommitted = false) :
      (s.removeRecord i).store.committed m = s.store.committed m :=
    State.committed_removeRecord (fun q same => by rw [held] at same; cases same; exact uncommitted) m
  obtain ⟨_, _, same⟩ | ⟨i, r, _, held, _, uncommitted, ⟨_, removed⟩ | ⟨_, removed⟩⟩ := State.dropOpenRecord_cases answered h
  · rw [same]
  · rw [removed, kept held uncommitted]
  · rw [removed]
    split
    · simpa using kept held uncommitted
    · simpa using kept held uncommitted

/-- R91: an event that answers ends the pass with BAD_STATE, and the link is free. -/
theorem State.endsPass_dropOpenRecord (h : s.uploads n) : s.endsPass (s.dropOpenRecord n true) n := by
  obtain ⟨_, free, same⟩ | ⟨i, r, _, held, own, uncommitted, ⟨free, removed⟩ | ⟨waiting, removed⟩⟩ :=
    State.dropOpenRecord_cases true h
  · simp [State.endsPass, free, same]
  · simp [State.endsPass, free, removed]
  · have newest : (s.removeRecord i).store.newestGen n = s.store.newestGen n :=
      Store.newestGen_congr (State.committed_removeRecord
        (fun q same => by rw [held] at same; cases same; exact uncommitted) n)
    rw [State.endsPass, if_pos waiting, removed, if_pos rfl, (State.sends_reply _ _ _ _ _).1, newest]
    simp
    rfl

/-- R91: an event that sends no answer frees the link all the same. -/
theorem State.port_dropOpenRecord_unanswered (h : s.uploads n) :
    (s.dropOpenRecord n false).port (.node n) = { s.port (.node n) with inProgress := none } := by
  obtain ⟨_, free, same⟩ | ⟨i, r, _, _, _, _, ⟨free, removed⟩ | ⟨waiting, removed⟩⟩ := State.dropOpenRecord_cases false h
  · rw [same, ← free]
  · rw [removed, ← free]
    simp
  · rw [removed]
    simp

end

/-! ### Leaving service -/

/-- A node record out of service: the lapse and stable timers are stopped, and the open record field is cleared. -/
def NodeRec.unserved (r : NodeRec) : NodeRec := { r with lapse := none, stable := none, nudgeSent := false, openRec := none }

section
variable {s : State} {n : NodeId} (h : s.uploads n)
include h

theorem State.uploads.timersStopped :
    (s.modNode n fun r => { r with lapse := none, stable := none, nudgeSent := false }).uploads n := h.congr

theorem State.node_leaveService (answered : Bool) (x : NodeId) :
    (s.leaveService n answered).node x = if x = n then (s.node n).unserved else s.node x := by
  rw [State.leaveService, State.node_dropOpenRecord answered h.timersStopped]
  split
  · rw [State.node_modNode_self]; rfl
  · next other => rw [State.node_modNode, if_neg other]

theorem State.committed_leaveService (answered : Bool) (m : NodeId) :
    (s.leaveService n answered).store.committed m = s.store.committed m := by
  rw [State.leaveService, State.committed_dropOpenRecord answered h.timersStopped]
  simp

theorem State.endsPass_leaveService : s.endsPass (s.leaveService n true) n := by
  simpa [State.endsPass, State.leaveService] using State.endsPass_dropOpenRecord h.timersStopped

theorem State.port_leaveService_unanswered :
    (s.leaveService n false).port (.node n) = { s.port (.node n) with inProgress := none } := by
  rw [State.leaveService, State.port_dropOpenRecord_unanswered h.timersStopped]
  simp

end

/-! ### The beginning of a restart -/

/-- R34, R35, R54: the record after the beginning of a restart. -/
theorem State.beginsRestart_beginRestart (s : State) (n : NodeId) (why : DriveReason) :
    (s.node n).beginsRestart ((s.beginRestart n why).node n) (s.nodePlan n) why := by
  rw [State.node_beginRestart, NodeRec.beginsRestart]
  split
  · simp [NodeRec.stopTimers]
  · split <;> simp [NodeRec.stopTimers]

@[simp] theorem State.openRec_beginRestart (s : State) (n x : NodeId) (why : DriveReason) :
    ((s.beginRestart n why).node x).openRec = (s.node x).openRec := by
  by_cases same : x = n
  · subst same
    rw [State.node_beginRestart]
    repeat' split
    all_goals rfl
  · simp [same]

@[simp] theorem State.nudgeSent_beginRestart (s : State) (n x : NodeId) (why : DriveReason) :
    ((s.beginRestart n why).node x).nudgeSent = (s.node x).nudgeSent := by
  by_cases same : x = n
  · subst same
    rw [State.node_beginRestart]
    repeat' split
    all_goals rfl
  · simp [same]

section
variable {s : State} {n : NodeId} (h : s.uploads n) (why : DriveReason)
include h

/-- R31, R34: a restart that takes the node out of service begins as any other. -/
theorem State.beginsRestart_restartFromService :
    (s.node n).beginsRestart ((s.restartFromService n why).node n) (s.nodePlan n) why := by
  have begins := (s.leaveService n true).beginsRestart_beginRestart n why
  have plan : (s.leaveService n true).nodePlan n = s.nodePlan n := by simp [State.nodePlan]
  rw [State.node_leaveService h, if_pos rfl, plan] at begins
  rw [State.restartFromService, State.node_noteLeftService]
  exact begins

theorem State.node_restartFromService {m : NodeId} (other : m ≠ n) : (s.restartFromService n why).node m = s.node m := by
  simp [State.restartFromService, State.node_leaveService h, other]

theorem State.openRec_restartFromService : ((s.restartFromService n why).node n).openRec = none := by
  rw [State.restartFromService, State.node_noteLeftService, State.openRec_beginRestart, State.node_leaveService h, if_pos rfl]
  rfl

theorem State.nudgeSent_restartFromService : ((s.restartFromService n why).node n).nudgeSent = false := by
  rw [State.restartFromService, State.node_noteLeftService, State.nudgeSent_beginRestart, State.node_leaveService h, if_pos rfl]
  rfl

theorem State.committed_restartFromService (m : NodeId) :
    (s.restartFromService n why).store.committed m = s.store.committed m := by
  simp [State.restartFromService, State.committed_leaveService h]

end

/-! ### Frames stay formed -/

/-- What a command forms follows what was formed before. -/
theorem State.updates.sent_prefix {s t : State} (h : s.updates t) (l : Link) : (s.port l).sent <+: (t.port l).sent := by
  induction h with
  | refl => exact List.prefix_rfl
  | @send t _ m f ih =>
    refine ih.trans ?_
    by_cases same : l = m
    · subst same
      rw [(t.sends_send l f).1]
      exact List.prefix_append _ _
    · rw [(t.sends_send m f).2 l same]
  | @request t _ n k ih =>
    by_cases same : l = .node n
    · subst same; simpa using ih
    · simpa [same] using ih
  | alerts _ a ih => exact ih
  | plans _ active staged nodes ih => exact ih
  | _ => rename_i ih; simpa using ih

/-! ### ASK_RESTART -/

/-- R50: the partner check. -/
theorem State.partnerPasses_iff {s : State} {n : NodeId} : s.partnerPasses n = true ↔ s.partnerServes n := by
  unfold State.partnerPasses State.partnerServes
  cases s.partner n <;> simp

/-- Settles O21: the partner's state decides; the restart is one that leaves service, after the REPLY. -/
theorem askRestartChecksThePartner : Obligations.AskRestartChecksThePartner := by
  intro n p s law passes inService
  have uploads : (s.reply (.node n) .askRestart .ok).uploads n :=
    (State.uploads_of_uploadLaw law n).congr (port := by simp [(s.sends_reply (.node n) .askRestart .ok .none).1])
  refine ⟨fun served => ?_, fun ⟨m, partner, out⟩ => ?_⟩
  · have partnerPasses : s.partnerPasses n = true := State.partnerPasses_iff.2 served
    let t := (s.reply (.node n) .askRestart .ok).restartFromService n .requested
    have taken : exec (.askRestart (.node n) p) s = .next t := by
      rw [exec_of_passes rfl passes]
      simp [frameOwner, onNode, State.askRestartTaken, inService, partnerPasses, t]
    obtain ⟨rest, sent⟩ : ((s.reply (.node n) .askRestart .ok).port (.node n)).sent <+: (t.port (.node n)).sent :=
      (State.updates.refl.restartFromService n _).sent_prefix (.node n)
    rw [(s.sends_reply (.node n) .askRestart .ok .none).1, if_neg (by simp [passes.1.2])] at sent
    have begins := State.beginsRestart_restartFromService uploads .requested
    refine ⟨t, rest, taken, ?_, State.openRec_restartFromService uploads _, State.nudgeSent_restartFromService uploads _,
      fun m other => ?_, ?_, by simp [t], by simp [t], fun m => ?_, by simp [t], by simp [t], by simp [t, State.sameSetup]⟩
    · simpa [State.nodePlan] using begins
    · simpa using State.node_restartFromService uploads .requested other
    · rw [← sent]
      simp
      rfl
    · simpa using State.committed_restartFromService uploads .requested m
  · have refused : s.partnerPasses n = false :=
      Bool.eq_false_iff.2 fun passes => by simpa [out] using State.partnerPasses_iff.1 passes m partner
    rw [exec_of_passes rfl passes]
    simp [frameOwner, onNode, State.askRestartTaken, inService, refused]

end Sys2Proof.Machine

/-! PROOF. The entry into the hold, and what the group hold manager does when a node leaves service (R120, R123, R126, R128). -/

namespace Sys2Proof.Machine

/-! ### Points in time and trips -/

theorem State.isReached_iff {s : State} {point : Word} : s.isReached point ↔ reached point s.clock.ms = true := by
  simp [State.isReached, reached]

/-- R146. -/
theorem State.escalatingTripped_iff {s : State} {g : GroupId} : s.escalatingTripped g = true ↔ s.tripped g := by
  simp only [State.escalatingTripped, State.tripped, List.any_eq_true, Vector.mem_toList_iff, Vector.mem_iff_getElem]
  constructor
  · rintro ⟨m, ⟨k, bound, rfl⟩, trips⟩
    exact ⟨⟨k, bound⟩, by simpa [and_assoc] using trips⟩
  · rintro ⟨k, trips⟩
    exact ⟨_, ⟨k.val, k.isLt, rfl⟩, by simpa [and_assoc] using trips⟩

theorem State.holdPoint_eq (s : State) (g : GroupId) (base : Word) : s.holdPoint g base = (s.groupPlan g).pointFrom base := rfl

/-- What the entry into the hold is measured against: the time and the monitor. -/
theorem State.entersHold_congr {s u t : State} {g : GroupId} {p : GroupPlan} {duty : NodeId} {standby : Option NodeId} {base : Word}
    (clock : u.clock = s.clock) (monitor : u.monitor = s.monitor) (h : u.entersHold t g p duty standby base) :
    s.entersHold t g p duty standby base := by
  simpa only [State.entersHold, State.isReached, State.tripped, clock, monitor] using h

/-! ### The entry into the hold -/

section
variable (s : State) (g : GroupId) (base : Word)

@[simp] theorem State.holdEntered_kept : (s.holdEntered g base).nodes = s.nodes ∧ (s.holdEntered g base).exchanges = s.exchanges
    ∧ (s.holdEntered g base).active = s.active ∧ (s.holdEntered g base).clock = s.clock
    ∧ (s.holdEntered g base).resetAsserted = s.resetAsserted ∧ (∀ l, (s.holdEntered g base).port l = s.port l)
    ∧ (∀ n, (s.holdEntered g base).node n = s.node n) ∧ (∀ n, (s.holdEntered g base).exchange n = s.exchange n)
    ∧ ∀ k, k ≠ g → (s.holdEntered g base).group k = s.group k := by
  unfold State.holdEntered
  dsimp only
  split <;> simp +contextual

theorem State.group_holdEntered : (s.holdEntered g base).group g = s.heldRecord g base (s.group g) := by
  unfold State.holdEntered
  dsimp only
  split <;> simp

theorem State.flag_reorderGroup (a : Alert) : (s.reorderGroup g).flag a = s.flag a := rfl

/-- R123, R125: HELD is raised, and UNSERVED with a deadline that is already reached. -/
theorem State.flag_holdEntered (a : Alert) :
    (s.holdEntered g base).flag a =
      (s.flag a || decide (a = .held)
        || (decide (a = .unserved) && reached ((s.groupPlan g).deadlineFrom base) s.clock.ms)) := by
  unfold State.holdEntered
  dsimp only
  rw [State.flag_reorderGroup]
  split
  · next past =>
    have past : reached ((s.groupPlan g).deadlineFrom base) s.clock.ms = true := past
    simp [State.flag_raise, past, eq_comm]
  · next ahead =>
    have ahead : reached ((s.groupPlan g).deadlineFrom base) s.clock.ms = false := Bool.eq_false_iff.2 ahead
    simp [State.flag_raise, ahead, eq_comm]

/-- R123: a TAKE is sought at once when the takeover point is reached or the group is escalated. -/
def State.seeksAtEntry : Prop := s.isReached ((s.groupPlan g).pointFrom base) ∨ s.tripped g

end

section
variable {s : State} {g : GroupId} {base : Word}

theorem State.enterHold_of_seeking {m : NodeId} (seeks : s.seeksAtEntry g base) (standby : (s.group g).standby = some m)
    (running : (s.node m).state = .running) : s.enterHold g base = (s.holdEntered g base).sendTake g m := by
  have trigger : reached (s.holdPoint g base) s.clock.ms = true ∨ s.escalatingTripped g = true :=
    seeks.imp State.isReached_iff.1 State.escalatingTripped_iff.2
  rw [State.enterHold_eq, if_pos (by simpa using trigger)]
  have group := s.group_holdEntered g base
  refine State.seekTakeover_of_running (n := m) ?_ (by rw [group]; rfl) (by rw [group]; exact standby) (by simpa using running)
  rw [group]
  simp only [State.heldRecord]
  split <;> rfl

theorem State.enterHold_of_idle
    (idle : ¬ s.seeksAtEntry g base ∨ ∀ m, (s.group g).standby = some m → (s.node m).state ≠ .running) :
    s.enterHold g base = s.holdEntered g base := by
  rw [State.enterHold_eq]
  split
  · next trigger =>
    have seeks : s.seeksAtEntry g base := by
      simpa [State.isReached_iff, State.escalatingTripped_iff, State.seeksAtEntry, State.holdPoint_eq] using trigger
    refine State.seekTakeover_of_none (.inr ?_)
    rw [State.group_holdEntered]
    intro m standby
    simpa using idle.resolve_left (not_not_intro seeks) m standby
  · rfl

/-- R8, R123: what the entry writes. -/
theorem State.entersHold_holdEntered {d : NodeId} {o : Option NodeId} (duty : (s.group g).duty = some d)
    (standby : (s.group g).standby = o) : s.entersHold (s.holdEntered g base) g (s.groupPlan g) d o base := by
  have group := s.group_holdEntered g base
  refine ⟨by rw [group]; rfl, by rw [group]; rfl, by rw [group]; exact duty, by rw [group]; exact standby, by rw [group]; rfl,
    by rw [group]; rfl, by rw [group]; exact State.escalatingTripped_iff, by simp [State.flag_holdEntered], fun past => ?_,
    fun ahead => ?_⟩
  · have past := State.isReached_iff.1 past
    refine ⟨?_, by simp [State.flag_holdEntered, past]⟩
    rw [group]
    exact if_pos past
  · rw [group]
    exact if_neg fun past => ahead (State.isReached_iff.2 past)

theorem State.entersHold.sendTake {t : State} {p : GroupPlan} {d : NodeId} {o : Option NodeId} (h : s.entersHold t g p d o base)
    (m : NodeId) : s.entersHold (t.sendTake g m) g p d o base := by
  have flag (a : Alert) : (t.sendTake g m).flag a = t.flag a := State.flag_of_alerts (by simp) a
  simpa [State.entersHold, flag] using h

end

/-! ### A node that leaves service -/

section
variable {s : State} {n : NodeId} {g : GroupId} (member : s.groupOf n = some g)
include member

/-- R123: the duty node of a group that is served leaves service. -/
theorem State.noteLeftService_of_serving (duty : (s.group g).duty = some n)
    (serving : (s.group g).state = .served ∨ (s.group g).state = .takenOver) :
    s.noteLeftService n = s.enterHold g ((s.node n).lastBeat.getD s.clock.ms) := by
  simp [State.noteLeftService, member, duty, serving]

/-- R135: the duty node of a group in the hold leaves service again, and waits on LATER no longer. -/
theorem State.noteLeftService_of_held (duty : (s.group g).duty = some n) (hold : (s.group g).state.inHold = true) :
    s.noteLeftService n = s.modGroup g fun q => { q with roleLater := if q.roleLater = some n then none else q.roleLater } := by
  have idle : ¬((s.group g).state = .served ∨ (s.group g).state = .takenOver) := by
    rintro (state | state) <;> simp [state, GroupState.inHold] at hold
  simp [State.noteLeftService, member, duty, idle]

/-- R131: the standby leaves service with a TAKE outstanding. -/
theorem State.noteLeftService_of_taking (duty : (s.group g).duty ≠ some n) (standby : (s.group g).standby = some n)
    (taking : (s.group g).outstanding = true) : s.noteLeftService n = (s.endExchange n).declineTake g := by
  simp [State.noteLeftService, member, duty, standby, taking]

theorem State.noteLeftService_of_idle (duty : (s.group g).duty ≠ some n)
    (idle : (s.group g).standby ≠ some n ∨ (s.group g).outstanding = false) : s.noteLeftService n = s := by
  rcases idle with standby | free
  · simp [State.noteLeftService, member, duty, standby]
  · simp [State.noteLeftService, member, duty, free]

end

section
variable (s : State) (n : NodeId) {a : Alert}

/-- R120: the group hold manager raises HELD and UNSERVED alone when a node leaves service. -/
theorem State.flag_noteLeftService (notHeld : a ≠ .held) (notUnserved : a ≠ .unserved) :
    (s.noteLeftService n).flag a = s.flag a := by
  unfold State.noteLeftService
  dsimp only
  repeat' split
  · rfl
  · exact s.flag_enterHold _ notHeld notUnserved _
  all_goals exact State.flag_of_alerts (by simp) a

theorem State.flag_noteLeftUnknown (notHeld : a ≠ .held) (notUnserved : a ≠ .unserved) :
    (s.noteLeftUnknown n).flag a = s.flag a := by
  unfold State.noteLeftUnknown
  split
  exacts [s.flag_resolveIfKnown _ notHeld notUnserved, rfl]

theorem State.flag_enterHalted (other : a ≠ .halted) : (s.enterHalted n).flag a = s.flag a := by
  simp [State.enterHalted, State.flag_raise, other.symm, State.flag_of_alerts (s := s)]

@[simp] theorem State.flag_modNode (f : NodeRec → NodeRec) : (s.modNode n f).flag a = s.flag a :=
  State.flag_of_alerts (by simp) a

/-- R54: a restart raises HALTED alone. -/
theorem State.flag_beginRestart (other : a ≠ .halted) (why : DriveReason) : (s.beginRestart n why).flag a = s.flag a := by
  cases drives : (s.nodePlan n).resetDrive with
  | true => simp [State.beginRestart_of_drive s n why drives, State.driveWritten]
  | false =>
    rw [State.beginRestart_of_noDrive s n why drives, State.enterBoot]
    dsimp only
    split
    · simp [State.driveWritten]
    · simp [State.flag_enterHalted _ n other, State.driveWritten]

end

/-! ### The end of a TAKE as a decline -/

section
variable {s : State} {g : GroupId}

/-- R131: a decline is noted. -/
def State.declined (s : State) (g : GroupId) : State := s.modGroup g fun r => { r with outstanding := false, declined := true }

/-- R135: a duty node that waits on LATER is told ROLE DUTY, and the hold ends. -/
def State.dutyRestored (s : State) (g : GroupId) (m : NodeId) : State :=
  (((s.declined g).send (.node m) (.role g .duty)).modGroup g fun r => { r with roleLater := none }).leaveHold g .served

theorem State.declineTake_of_waiting {m : NodeId} (later : (s.group g).roleLater = some m) (duty : (s.group g).duty = some m) :
    s.declineTake g = s.dutyRestored g m := by
  simp [State.declineTake, later, duty, State.dutyRestored, State.declined]

theorem State.declineTake_of_not_waiting (h : ∀ m, (s.group g).roleLater = some m → (s.group g).duty ≠ some m) :
    s.declineTake g = s.declined g := by
  unfold State.declineTake
  dsimp only
  split
  · next m later => simp [h m later, State.declined]
  · rfl

theorem State.group_declined : (s.declined g).group g = { s.group g with outstanding := false, declined := true } := by
  simp [State.declined]

theorem State.group_dutyRestored (m : NodeId) :
    (s.dutyRestored g m).group g =
      { s.group g with
        state := .served, deadline := none, point := none, pointTaken := false, outstanding := false
        declined := false, escalated := false, roleLater := none } := by
  simp [State.dutyRestored, State.group_leaveHold, State.declined]

theorem State.sends_dutyRestored (m : NodeId) : s.sends (s.dutyRestored g m) (.node m) [.role g .duty] :=
  ((s.declined g).sends_send (.node m) (.role g .duty)).of_ports (by simp [State.declined]) (by simp [State.dutyRestored])
    (by simp [State.declined])

/-- R131, R135: what a decline leaves. -/
theorem State.declinesTake_declineTake (s : State) (g : GroupId) : s.declinesTake (s.declineTake g) g := by
  refine ⟨fun later => ?_, fun m later duty => ?_⟩
  · rw [State.declineTake_of_not_waiting (by simp [later]), State.group_declined]
  · rw [State.declineTake_of_waiting later duty]
    exact ⟨State.group_dutyRestored m, by rw [(State.sends_dutyRestored m).1]⟩

/-- A decline tells the duty node alone. -/
theorem State.port_declineTake_other {n : NodeId} (other : (s.group g).duty ≠ some n) :
    (s.declineTake g).port (.node n) = s.port (.node n) := by
  by_cases waiting : ∃ m, (s.group g).roleLater = some m ∧ (s.group g).duty = some m
  · obtain ⟨m, later, duty⟩ := waiting
    rw [State.declineTake_of_waiting later duty]
    exact (State.sends_dutyRestored m).2 _ fun same => other (by cases same; exact duty)
  · rw [State.declineTake_of_not_waiting fun m later duty => waiting ⟨m, later, duty⟩]
    simp [State.declined]

end

/-- R128: no frame goes to a node because it has left service. -/
theorem State.port_noteLeftService_self {s : State} {n : NodeId} (left : (s.node n).state ≠ .running) :
    (s.noteLeftService n).port (.node n) = s.port (.node n) := by
  have held (g : GroupId) (base : Word) : (s.enterHold g base).port (.node n) = s.port (.node n) := by
    by_cases seeks : s.seeksAtEntry g base ∧ ∃ m, (s.group g).standby = some m ∧ (s.node m).state = .running
    · obtain ⟨trigger, m, standby, running⟩ := seeks
      rw [State.enterHold_of_seeking trigger standby running,
        (State.sends_sendTake _ g m).2 _ fun same => left (by cases same; exact running)]
      simp
    · rw [State.enterHold_of_idle]
      · simp
      · by_cases trigger : s.seeksAtEntry g base
        · exact .inr fun m standby running => seeks ⟨trigger, m, standby, running⟩
        · exact .inl trigger
  unfold State.noteLeftService
  dsimp only
  repeat' split
  · rfl
  · exact held _ _
  · simp
  · next duty _ => rw [State.port_declineTake_other (by simpa using duty)]; simp
  · rfl

end Sys2Proof.Machine

/-! PROOF. The expiries that begin a restart (R20, R29, R38, R48), and the events that take a node out of service or out of UNKNOWN, as
its group sees them (R31, R120). -/

namespace Sys2Proof.Machine

/-! ### States outside service -/

/-- A node outside service whose state is known. -/
def NodeState.gone (st : NodeState) : Prop := st.inService = false ∧ st ≠ .unknown

theorem NodeState.gone.not_running {st : NodeState} (h : st.gone) : st ≠ .running := by
  rintro rfl
  cases h.1

section
variable (s : State) (n : NodeId)

theorem State.gone_enterHalted : ((s.enterHalted n).node n).state.gone := by
  rw [State.node_enterHalted]
  simp [NodeState.gone, NodeState.inService]

theorem State.gone_beginRestart (why : DriveReason) : ((s.beginRestart n why).node n).state.gone := by
  rw [State.node_beginRestart]
  repeat' split
  all_goals simp [NodeState.gone, NodeState.inService]

theorem State.gone_giveVerdict : ((s.giveVerdict n).node n).state.gone := by
  rw [State.node_giveVerdict]
  split <;> simp [NodeState.gone, NodeState.inService]

/-- A binding only ever brings a node into RESTORING. -/
theorem State.state_bindHead_or (c : ChanId) (x : NodeId) :
    ((s.bindHead c).node x).state = (s.node x).state ∨ ((s.bindHead c).node x).state = .restoring := by
  unfold State.bindHead
  split
  · rw [State.node_modNode]
    split
    · exact .inr rfl
    · exact .inl (by simp)
  · exact .inl rfl

theorem State.gone_bindHead {x : NodeId} (h : (s.node x).state.gone) (c : ChanId) : ((s.bindHead c).node x).state.gone := by
  obtain same | restoring := s.state_bindHead_or c x
  · rwa [same]
  · simp [restoring, NodeState.gone, NodeState.inService]

theorem State.gone_queueIfWarm {x : NodeId} (h : (s.node x).state.gone) : ((s.queueIfWarm n).node x).state.gone := by
  unfold State.queueIfWarm
  split
  · exact State.gone_bindHead _ (State.gone_bindHead (s.enqueue n) h .c0) .c1
  · exact h

end

/-! ### The expiries that begin a restart -/

/-- R91: the pass that a restart from service ends. -/
theorem State.endsPass_restartFromService {s : State} {n : NodeId} (h : s.uploads n) (why : DriveReason) :
    s.endsPass (s.restartFromService n why) n := by
  have left : (((s.leaveService n true).beginRestart n why).node n).state ≠ .running := (State.gone_beginRestart _ n why).not_running
  rw [State.endsPass, State.restartFromService, State.port_noteLeftService_self left, ← State.endsPass_leaveService h]
  simp

/-- R39: the two tables of drive reasons are one. -/
theorem reasonFromCause_eq (cause : Option Cause) : reasonFromCause cause = reasonAfter cause := by
  rcases cause with _ | (_ | _ | _ | _ | _ | _ | _ | _) <;> rfl

/-- Settles O28: each expiry begins a restart; one that leaves service ends the pass first. -/
theorem silenceBeginsARestart : Obligations.SilenceBeginsARestart := by
  intro n s law powered
  have alone (why : DriveReason) : { s.beginRestart n why with nodes := s.nodes, alerts := s.alerts } = s := State.eq_of_fields
  have others (why : DriveReason) : ∀ m, m ≠ n → (s.beginRestart n why).node m = s.node m := fun m other => by simp [other]
  refine ⟨fun state due => ?acquire, fun state due => ?lapse, fun state due => ?boot, fun state due => ?settle⟩
  case acquire =>
    have taken : exec (.acquireExpiry n) s = .next (s.acquireExpired n) :=
      (exec_of_powered (c := .acquireExpiry n) rfl powered).trans (congrArg _ (if_pos (by simp [state, due])))
    refine ⟨_, taken, ?_, ?_, fun m other => ?_, ?_, ?_, ?_, ?_⟩
    · rw [State.acquireExpired, State.node_noteLeftUnknown]
      simpa [State.nodePlan] using (s.raise .lapse).beginsRestart_beginRestart n .lapse
    · rw [State.acquireExpired, State.flag_noteLeftUnknown _ n (by decide) (by decide), State.flag_beginRestart _ n (by decide)]
      simp
    all_goals simp [State.acquireExpired, State.sameSetup, *]
  case lapse =>
    have taken : exec (.lapseExpiry n) s = .next (s.lapseNode n) := by
      refine (exec_of_powered (c := .lapseExpiry n) rfl powered).trans (congrArg Host.Outcome.next ?_)
      rcases state with running | ⟨quiet, nudged⟩
      · simp [due, State.lapseExpired, running]
      · simp [due, State.lapseExpired, quiet, nudged]
    have uploads : (s.raise .lapse).uploads n := (State.uploads_of_uploadLaw law n).congr
    refine ⟨s.lapseNode n, taken, ?_, State.openRec_restartFromService uploads _, State.nudgeSent_restartFromService uploads _, ?_,
      ?_, fun m other => ?_, by simp, by simp, by simp, fun m => ?_, by simp, by simp [State.sameSetup]⟩
    · simpa [State.nodePlan, State.lapseNode] using State.beginsRestart_restartFromService uploads .lapse
    · exact State.endsPass_restartFromService uploads .lapse
    · rw [State.lapseNode, State.restartFromService, State.flag_noteLeftService _ n (by decide) (by decide),
        State.flag_beginRestart _ n (by decide), State.flag_of_alerts (State.leaveService_frame _ n true).2.2.2.2.2.1]
      simp
    · simpa [State.lapseNode] using State.node_restartFromService uploads .lapse other
    · simpa [State.lapseNode] using State.committed_restartFromService uploads .lapse m
  case boot =>
    have taken : exec (.bootExpiry n) s = .next (s.bootExpired n) :=
      (exec_of_powered (c := .bootExpiry n) rfl powered).trans (congrArg _ (if_pos (by simp [state, due])))
    refine ⟨s.bootExpired n, taken, fun why drive => ?_, State.flag_beginRestart s n (by decide) _, alone _, others _⟩
    rw [State.bootExpired, drive]
    exact s.beginsRestart_beginRestart n why
  case settle =>
    have taken : exec (.settleExpiry n) s = .next (s.failedAfterHello n) :=
      (exec_of_powered (c := .settleExpiry n) rfl powered).trans (congrArg _ (if_pos (by simp [state, due])))
    refine ⟨s.failedAfterHello n, taken, ?_, State.flag_beginRestart s n (by decide) _, alone _, others _⟩
    rw [reasonFromCause_eq]
    exact s.beginsRestart_beginRestart n _

/-! ### A node moves, and its group is not told yet -/

/-- State u is s with node n in another state: what the group hold manager reads and writes is as it was, but for that node. -/
structure State.moves (s u : State) (n : NodeId) : Prop where
  groups : u.groups = s.groups
  exchanges : u.exchanges = s.exchanges
  active : u.active = s.active
  clock : u.clock = s.clock
  monitor : u.monitor = s.monitor
  level : u.resetAsserted = s.resetAsserted
  unserved : u.flag .unserved = s.flag .unserved
  state : ∀ m, m ≠ n → (u.node m).state = (s.node m).state
  beats : ∀ m, (u.node m).lastBeat = (s.node m).lastBeat ∧ (u.node m).beatSincePending = (s.node m).beatSincePending
  ports : ∀ m, m ≠ n → u.port (.node m) = s.port (.node m)

theorem NodeRec.beats_of_unopened {r q : NodeRec} (h : r.unopened = q.unopened) :
    r.lastBeat = q.lastBeat ∧ r.beatSincePending = q.beatSincePending :=
  ⟨congrArg (fun x => x.lastBeat) h, congrArg (fun x => x.beatSincePending) h⟩

namespace State.moves

variable {s t u : State} {n : NodeId}

theorem refl (s : State) (n : NodeId) : s.moves s n := ⟨rfl, rfl, rfl, rfl, rfl, rfl, rfl, fun _ _ => rfl, fun _ => ⟨rfl, rfl⟩, fun _ _ => rfl⟩

theorem then_kept (h : s.moves t n) (groups : u.groups = t.groups := by simp) (exchanges : u.exchanges = t.exchanges := by simp)
    (active : u.active = t.active := by simp) (clock : u.clock = t.clock := by simp) (monitor : u.monitor = t.monitor := by simp)
    (level : u.resetAsserted = t.resetAsserted := by simp) (unserved : u.flag .unserved = t.flag .unserved := by simp)
    (state : ∀ m, m ≠ n → (u.node m).state = (t.node m).state := by simp +contextual)
    (beats : ∀ m, (u.node m).lastBeat = (t.node m).lastBeat ∧ (u.node m).beatSincePending = (t.node m).beatSincePending := by simp)
    (ports : ∀ m, m ≠ n → u.port (.node m) = t.port (.node m) := by simp +contextual) : s.moves u n :=
  ⟨groups.trans h.groups, exchanges.trans h.exchanges, active.trans h.active, clock.trans h.clock, monitor.trans h.monitor,
    level.trans h.level, unserved.trans h.unserved, fun m other => (state m other).trans (h.state m other),
    fun m => ⟨(beats m).1.trans (h.beats m).1, (beats m).2.trans (h.beats m).2⟩,
    fun m other => (ports m other).trans (h.ports m other)⟩

theorem modNode (h : s.moves t n) {f : NodeRec → NodeRec} (beat : ∀ r, (f r).lastBeat = r.lastBeat := by intro; rfl)
    (since : ∀ r, (f r).beatSincePending = r.beatSincePending := by intro; rfl) : s.moves (t.modNode n f) n := by
  refine h.then_kept (beats := fun m => ?_)
  rw [State.node_modNode]
  split
  · next same => rw [same, beat, since]; exact ⟨rfl, rfl⟩
  · exact ⟨rfl, rfl⟩

theorem reply (h : s.moves t n) (k : Kind) (r : Result) (b : Body) : s.moves (t.reply (.node n) k r b) n :=
  h.then_kept (unserved := State.flag_of_alerts (by simp) _)

theorem answer (h : s.moves t n) (k : Kind) (r : Result) (b : Body) : s.moves (t.reply .supervisor k r b) n :=
  h.then_kept (unserved := State.flag_of_alerts (by simp) _)

theorem raise (h : s.moves t n) {a : Alert} (other : a ≠ .unserved) : s.moves (t.raise a) n :=
  h.then_kept (unserved := by simp [State.flag_raise, other])

theorem enterHalted (h : s.moves t n) : s.moves (t.enterHalted n) n := (h.modNode).raise (by decide)

theorem enterSettling (h : s.moves t n) (m : SettleMark) : s.moves (t.enterSettling n m) n := by
  unfold State.enterSettling
  exact h.modNode

theorem takeHello (h : s.moves t n) (p : List Byte) : s.moves (t.takeHello n p) n := by
  unfold State.takeHello
  exact h.modNode

theorem giveVerdict (h : s.moves t n) : s.moves (t.giveVerdict n) n := by
  unfold State.giveVerdict
  dsimp only
  split
  · exact (h.reply _ _ _).modNode
  · exact ((h.reply _ _ _).enterSettling _).raise (by decide)

theorem beginRestart (h : s.moves t n) (why : DriveReason) : s.moves (t.beginRestart n why) n := by
  unfold State.beginRestart State.enterBoot
  dsimp only
  repeat' split
  exacts [h.modNode.modNode, h.modNode.modNode, h.modNode.enterHalted]

theorem leaveService (h : s.moves t n) (answered : Bool) : s.moves (t.leaveService n answered) n := by
  have stopped := (State.moves.refl t n).modNode (f := fun r => { r with lapse := none, stable := none, nudgeSent := false })
  refine h.then_kept (unserved := State.flag_of_alerts (by simp) _) (beats := fun m => ?_)
  obtain ⟨beat, since⟩ := NodeRec.beats_of_unopened (State.unopened_dropOpenRecord _ m n answered)
  exact ⟨beat.trans (stopped.beats m).1, since.trans (stopped.beats m).2⟩

end State.moves

/-! ### The events that take a node out of service, or out of UNKNOWN -/

/-- State t has the groups, the exchanges, the flags and the ports of state v. -/
structure State.agrees (v t : State) : Prop where
  groups : t.groups = v.groups
  exchanges : t.exchanges = v.exchanges
  alerts : t.alerts = v.alerts
  ports : ∀ l, t.port l = v.port l

theorem State.agrees.refl (v : State) : v.agrees v := ⟨rfl, rfl, rfl, fun _ => rfl⟩

theorem State.agrees_queueIfWarm (v : State) (n : NodeId) : v.agrees (v.queueIfWarm n) := ⟨by simp, by simp, by simp, by simp⟩

/-- Node n is out of service, its group is told, and state t agrees with what comes of that. -/
def State.leftService (s t : State) (n : NodeId) : Prop :=
  ∃ u, s.moves u n ∧ (u.node n).state.gone ∧ (u.noteLeftService n).agrees t

theorem State.leftService_restartFromService {s t : State} {n : NodeId} (h : s.moves t n) (why : DriveReason) :
    s.leftService (t.restartFromService n why) n :=
  ⟨_, (h.leaveService true).beginRestart why, State.gone_beginRestart _ n why, .refl _⟩

theorem NodeState.inService_iff {st : NodeState} : st.inService = true ↔ st = .running ∨ st = .quiet := by
  cases st <;> simp [NodeState.inService]

/-- R45: the node record and the frames of an unannounced HELLO, before its group is told. -/
def State.restartNoticed (s : State) (n : NodeId) (p : List Byte) : State :=
  let t := (s.endForHello n).takeHello n p
  if (t.node n).attempts < (t.nodePlan n).attemptLimit then
    (t.modNode n fun r => { r with attempts := r.attempts + 1 }).giveVerdict n
  else (t.enterHalted n).reply (.node n) .hello .badState

theorem State.unannounced_eq (s : State) (n : NodeId) (p : List Byte) :
    s.unannounced n p =
      (if (s.node n).state.inService then (s.restartNoticed n p).noteLeftService n else s.restartNoticed n p).queueIfWarm n := rfl

theorem State.gone_restartNoticed (s : State) (n : NodeId) (p : List Byte) : ((s.restartNoticed n p).node n).state.gone := by
  unfold State.restartNoticed
  dsimp only
  split
  · exact State.gone_giveVerdict _ n
  · rw [State.node_reply]
    exact State.gone_enterHalted _ n

theorem State.moves.restartNoticed {s : State} {n : NodeId} (inService : (s.node n).state.inService = true) (p : List Byte) :
    s.moves (s.restartNoticed n p) n := by
  have ended : s.endForHello n = s.leaveService n false := by
    unfold State.endForHello
    obtain state | state := NodeState.inService_iff.1 inService <;> rw [state]
  have taken := ((State.moves.refl s n).leaveService false).takeHello p
  unfold State.restartNoticed
  dsimp only
  rw [ended]
  split
  · exact taken.modNode.giveVerdict
  · exact taken.enterHalted.reply _ _ _

theorem exec_endsService {s : State} {n : NodeId} {c : Instr} (h : s.endsService n c) :
    ∃ t, exec c s = .next t ∧ s.leftService t n := by
  obtain ⟨inService, h⟩ := h
  have states := NodeState.inService_iff.1 inService
  split at h
  case h_1 m =>
    obtain ⟨rfl, powered, due, nudged⟩ := h
    refine ⟨s.lapseNode m, ?_, State.leftService_restartFromService ((State.moves.refl s m).raise (by decide)) _⟩
    refine (exec_of_powered (c := .lapseExpiry m) rfl powered).trans (congrArg Host.Outcome.next ?_)
    obtain state | state := states
    · simp [due, State.lapseExpired, state]
    · simp [due, State.lapseExpired, state, nudged state]
  case h_2 l p =>
    obtain ⟨rfl, passes⟩ := h
    have taken : exec (.hello (.node n) p) s = .next (s.unannounced n p) := by
      rw [exec_of_passes rfl passes]
      obtain state | state := states <;> simp [frameOwner, onNode, State.helloTaken, state]
    refine ⟨_, taken, s.restartNoticed n p, .restartNoticed inService p, s.gone_restartNoticed n p, ?_⟩
    rw [State.unannounced_eq, if_pos inService]
    exact State.agrees_queueIfWarm _ n
  case h_3 l p =>
    obtain ⟨rfl, passes, partner⟩ := h
    refine ⟨_, ?_, State.leftService_restartFromService ((State.moves.refl s n).reply .askRestart .ok .none) .requested⟩
    rw [exec_of_passes rfl passes]
    simp [frameOwner, onNode, State.askRestartTaken, inService, State.partnerPasses_iff.2 partner]
  case h_4 l p =>
    obtain ⟨passes, number, present, force⟩ := h
    refine ⟨_, ?_, State.leftService_restartFromService ((State.moves.refl s n).answer .restart .ok .none) .commanded⟩
    have value : boolField p 1 = some (decide (octetAt p 1 = 1)) := boolField_of_le (by omega)
    have allowed : decide (octetAt p 1 = 1) || s.partnerPasses n := by
      obtain yes | ⟨_, partner⟩ := force
      · simp [yes]
      · simp [State.partnerPasses_iff.2 partner]
    rw [exec_of_passes rfl passes]
    obtain state | state := states <;>
      simp [frameOwner, State.restartTaken, number, value, present, State.restartNode, state, allowed, State.answer]
  case h_5 l p =>
    obtain ⟨passes, number, present⟩ := h
    have ended : s.endForHalt n = s.leaveService n true := by
      unfold State.endForHalt
      obtain state | state := states <;> rw [state]
    have moved := (((State.moves.refl s n).leaveService true).enterHalted).answer .halt .ok .none
    refine ⟨_, ?_, _, moved, by simpa using (s.leaveService n true).gone_enterHalted n, .refl _⟩
    rw [exec_of_passes rfl passes]
    obtain state | state := states <;>
      simp [frameOwner, State.haltTaken, State.aboutNode, number, present, State.haltNode, ended, state]
  case h_6 => exact h.elim

/-- Node n is in a known state outside service, its group is told, and state t agrees with what comes of that. -/
def State.leftUnknown (s t : State) (n : NodeId) : Prop :=
  ∃ u, s.moves u n ∧ (u.node n).state.gone ∧ (u.noteLeftUnknown n).agrees t

theorem exec_leavesUnknown {s : State} {n : NodeId} {c : Instr} (h : s.leavesUnknown n c) :
    ∃ t, exec c s = .next t ∧ (t.node n).state.gone ∧ s.leftUnknown t n := by
  obtain ⟨state, h⟩ := h
  split at h
  case h_1 m =>
    obtain ⟨rfl, powered, due⟩ := h
    have gone := (s.raise .lapse).gone_beginRestart m .lapse
    refine ⟨s.acquireExpired m, ?_, ?_, _, ((State.moves.refl s m).raise (by decide)).beginRestart .lapse, gone, .refl _⟩
    · exact (exec_of_powered (c := .acquireExpiry m) rfl powered).trans (congrArg _ (if_pos (by simp [state, due])))
    · rwa [State.acquireExpired, State.node_noteLeftUnknown]
  case h_2 l p =>
    obtain ⟨rfl, passes⟩ := h
    have gone := (s.takeHello n p).gone_giveVerdict n
    have moved := ((State.moves.refl s n).takeHello p).giveVerdict
    refine ⟨_, ?_, ?_, _, moved, gone, State.agrees_queueIfWarm _ n⟩
    · rw [exec_of_passes rfl passes]
      simp [frameOwner, onNode, State.helloTaken, state]
    · exact State.gone_queueIfWarm _ n (by rwa [State.node_noteLeftUnknown])
  case h_3 l p =>
    obtain ⟨passes, number, present⟩ := h
    have gone : (((s.enterHalted n).reply .supervisor .halt .ok).node n).state.gone := by simpa using s.gone_enterHalted n
    refine ⟨_, ?_, ?_, _, (State.moves.refl s n).enterHalted.answer .halt .ok .none, gone, .refl _⟩
    · rw [exec_of_passes rfl passes]
      simp [frameOwner, State.haltTaken, State.aboutNode, number, present, State.haltNode, State.endForHalt, state]
    · rwa [State.node_noteLeftUnknown]
  case h_4 => exact h.elim

end Sys2Proof.Machine

/-! PROOF. The hold that a duty node's loss begins, and the ends of a TAKE (R123, R126, R128, R130 to R132, R135, R161). -/

namespace Sys2Proof.Machine

/-! ### The entry into the hold, searched or not -/

section
variable {s : State} {g : GroupId} {base : Word}

/-- R128: an entry either finds a standby to send TAKE to, or sends none. -/
theorem State.enterHold_cases (s : State) (g : GroupId) (base : Word) :
    (∃ m, s.seeksAtEntry g base ∧ (s.group g).standby = some m ∧ (s.node m).state = .running
        ∧ s.enterHold g base = (s.holdEntered g base).sendTake g m)
      ∨ s.enterHold g base = s.holdEntered g base := by
  by_cases seeks : s.seeksAtEntry g base ∧ ∃ m, (s.group g).standby = some m ∧ (s.node m).state = .running
  · obtain ⟨trigger, m, standby, running⟩ := seeks
    exact .inl ⟨m, trigger, standby, running, State.enterHold_of_seeking trigger standby running⟩
  · refine .inr (State.enterHold_of_idle ?_)
    by_cases trigger : s.seeksAtEntry g base
    · exact .inr fun m standby running => seeks ⟨trigger, m, standby, running⟩
    · exact .inl trigger

theorem State.entersHold_enterHold {d : NodeId} {o : Option NodeId} (duty : (s.group g).duty = some d)
    (standby : (s.group g).standby = o) : s.entersHold (s.enterHold g base) g (s.groupPlan g) d o base := by
  have entered := State.entersHold_holdEntered (base := base) duty standby
  obtain ⟨m, _, _, _, sent⟩ | still := s.enterHold_cases g base
  · rw [sent]; exact entered.sendTake m
  · rw [still]; exact entered

theorem State.flag_unserved_enterHold (ahead : ¬ s.isReached ((s.groupPlan g).deadlineFrom base)) :
    (s.enterHold g base).flag .unserved = s.flag .unserved := by
  have ahead : reached ((s.groupPlan g).deadlineFrom base) s.clock.ms = false :=
    Bool.eq_false_iff.2 fun past => ahead (State.isReached_iff.2 past)
  have entered : (s.holdEntered g base).flag .unserved = s.flag .unserved := by simp [State.flag_holdEntered, ahead]
  obtain ⟨m, _, _, _, sent⟩ | still := s.enterHold_cases g base
  · rw [sent, State.flag_of_alerts (s := s.holdEntered g base) (by simp), entered]
  · rw [still, entered]

theorem State.entersHold.of_agrees {v t : State} {p : GroupPlan} {d : NodeId} {o : Option NodeId}
    (h : s.entersHold v g p d o base) (agrees : v.agrees t) : s.entersHold t g p d o base := by
  have group : t.group g = v.group g := by rw [State.group, agrees.groups, State.group]
  have flag (a : Alert) : t.flag a = v.flag a := State.flag_of_alerts agrees.alerts a
  simpa only [State.entersHold, group, flag] using h

end

/-! ### What agreement gives -/

namespace State.agrees

variable {v t : State} (h : v.agrees t)
include h

theorem group (k : GroupId) : t.group k = v.group k := by rw [State.group, h.groups, State.group]

theorem exchange (m : NodeId) : t.exchange m = v.exchange m := by rw [State.exchange, h.exchanges, State.exchange]

end State.agrees

namespace State.moves

variable {s u : State} {n : NodeId} (h : s.moves u n)
include h

theorem group (k : GroupId) : u.group k = s.group k := by rw [State.group, h.groups, State.group]

theorem exchange (m : NodeId) : u.exchange m = s.exchange m := by rw [State.exchange, h.exchanges, State.exchange]

theorem groupOf (m : NodeId) : u.groupOf m = s.groupOf m := by rw [State.groupOf, h.active, State.groupOf]

theorem groupPlan (g : GroupId) : u.groupPlan g = s.groupPlan g := by rw [State.groupPlan, h.active, State.groupPlan]

theorem isReached (point : Word) : u.isReached point ↔ s.isReached point := by
  rw [State.isReached, h.clock, State.isReached]

theorem seeksAtEntry (g : GroupId) (base : Word) :
    u.seeksAtEntry g base ↔ s.isReached ((s.groupPlan g).pointFrom base) ∨ s.tripped g := by
  rw [State.seeksAtEntry, h.isReached, h.groupPlan, State.tripped, State.tripped, h.monitor]

end State.moves

/-- Settles O30: whatever takes the duty node out of service, its group enters the hold from the last beat, and seeks its standby if the
point is reached or a channel tripped. -/
theorem dutyLapseEntersTheHold : Obligations.DutyLapseEntersTheHold := by
  intro c n g last s ends member duty serving beat
  obtain ⟨t, taken, u, moved, gone, agrees⟩ := exec_endsService ends
  have base : (u.node n).lastBeat.getD u.clock.ms = last := by rw [(moved.beats n).1, beat, Option.getD_some]
  have entered : u.noteLeftService n = u.enterHold g last := by
    rw [State.noteLeftService_of_serving (g := g) (by rwa [moved.groupOf]) (by rwa [moved.group]) (by rwa [moved.group]), base]
  rw [entered] at agrees
  refine ⟨t, taken, ?_, fun ahead => ?_, fun k other => ?_, fun m elsewhere standby running trigger => ?_, fun idle => ?_⟩
  · have held : u.entersHold (u.enterHold g last) g (u.groupPlan g) n (s.group g).standby last :=
      State.entersHold_enterHold (by rwa [moved.group]) (by rw [moved.group])
    rw [moved.groupPlan] at held
    exact (State.entersHold_congr moved.clock moved.monitor held).of_agrees agrees
  · rw [State.flag_of_alerts agrees.alerts, State.flag_unserved_enterHold, moved.unserved]
    rwa [moved.isReached, moved.groupPlan]
  · rw [agrees.group, ← moved.group]
    simp [other]
  · have sent : u.enterHold g last = (u.holdEntered g last).sendTake g m :=
      State.enterHold_of_seeking ((moved.seeksAtEntry g last).2 trigger) (by rwa [moved.group])
        (by rwa [moved.state m elsewhere])
    rw [agrees.group, agrees.exchange, agrees.ports, sent, (State.sends_sendTake _ g m).1]
    refine ⟨by simp, by simp [moved.active], by simp [moved.ports m elsewhere, moved.level]⟩
  · have still : u.enterHold g last = u.holdEntered g last := by
      refine State.enterHold_of_idle ?_
      rcases idle with idle | ⟨ahead, untripped⟩
      · refine .inr fun m standby running => ?_
        rw [moved.group] at standby
        by_cases same : m = n
        · exact gone.not_running (same ▸ running)
        · exact idle m standby (by rwa [← moved.state m same])
      · exact .inl fun seeks => ((moved.seeksAtEntry g last).1 seeks).elim ahead untripped
    rw [agrees.group, agrees.exchanges, still, State.group_holdEntered]
    exact ⟨rfl, by simp [moved.exchanges]⟩

/-! ### The end of a TAKE -/

/-- What a decline is measured against: the group, the link of a duty node that waits, and the RESET input. -/
theorem State.declinesTake_congr {s u v t : State} {g : GroupId} (h : u.declinesTake v g) (group : u.group g = s.group g)
    (ports : ∀ m, (s.group g).duty = some m → u.port (.node m) = s.port (.node m)) (level : u.resetAsserted = s.resetAsserted)
    (after : t.group g = v.group g) (sent : ∀ l, t.port l = v.port l) : s.declinesTake t g := by
  obtain ⟨declined, restored⟩ := h
  rw [group] at declined restored
  refine ⟨fun none => after.trans (declined none), fun m later duty => ?_⟩
  obtain ⟨served, told⟩ := restored m later duty
  exact ⟨after.trans served, by rw [sent, told, ports m duty, level]⟩

theorem State.reorderGroup_perm (s : State) (g : GroupId) : (s.reorderGroup g).queue.Perm s.queue := by
  refine (s.foldl_placed_perm _ _).trans ?_
  simpa using List.filter_append_perm (fun n => decide (s.groupOf n = some g)) s.queue

theorem State.declineTake_queue (s : State) (g : GroupId) : (s.declineTake g).queue.Perm s.queue := by
  by_cases waiting : ∃ m, (s.group g).roleLater = some m ∧ (s.group g).duty = some m
  · obtain ⟨m, later, duty⟩ := waiting
    rw [State.declineTake_of_waiting later duty]
    exact (State.reorderGroup_perm _ g).trans (.of_eq (by simp [State.declined]))
  · rw [State.declineTake_of_not_waiting fun m later duty => waiting ⟨m, later, duty⟩]
    simp [State.declined]

/-- Settles O31: a lost standby or a lost answer declines the TAKE; a node that leaves service otherwise leaves its group but for the
LATER that it waits on. -/
theorem lostTakeIsADecline : Obligations.LostTakeIsADecline := by
  refine ⟨fun c n g s ends member => ?_, fun n g s powered outstanding due => ?_⟩
  · obtain ⟨t, taken, u, moved, gone, agrees⟩ := exec_endsService ends
    have member' : u.groupOf n = some g := by rwa [moved.groupOf]
    refine ⟨fun standby other taking => ?_, fun duty hold => ?_, fun other idle => ?_⟩
    · have ended : u.noteLeftService n = (u.endExchange n).declineTake g :=
        State.noteLeftService_of_taking member' (by rwa [moved.group]) (by rwa [moved.group]) (by rwa [moved.group])
      rw [ended] at agrees
      refine ⟨t, taken, ?_, fun k elsewhere => ?_, ?_, fun m elsewhere => ?_⟩
      · refine State.declinesTake_congr (State.declinesTake_declineTake (u.endExchange n) g) (by simp [moved.group])
          (fun m duty => ?_) (by simp [moved.level]) (agrees.group g) agrees.ports
        have elsewhere : m ≠ n := fun same => other (same ▸ duty)
        simp [moved.ports m elsewhere]
      · rw [agrees.group, ← moved.group]
        simp [elsewhere]
      · rw [agrees.exchange]
        simp [ExchangeSlot.empty]
      · rw [agrees.exchange, ← moved.exchange]
        simp [elsewhere]
    · have ended := State.noteLeftService_of_held member' (by rwa [moved.group]) (by rwa [moved.group])
      rw [ended] at agrees
      refine ⟨t, taken, ?_, fun k elsewhere => ?_, ?_⟩
      · rw [agrees.group, State.group_modGroup_self, moved.group]
      · rw [agrees.group, ← moved.group]
        simp [elsewhere]
      · rw [agrees.exchanges, ← moved.exchanges]
        simp
    · rw [State.noteLeftService_of_idle member' (by rwa [moved.group]) (by rwa [moved.group])] at agrees
      exact ⟨t, taken, agrees.groups.trans moved.groups, agrees.exchanges.trans moved.exchanges⟩
  · have taken : exec (.answerTimerExpiry n) s = .next ((s.endExchange n).declineTake g) := by
      refine (exec_of_powered (c := .answerTimerExpiry n) rfl powered).trans (congrArg Host.Outcome.next ?_)
      simp [due, State.unanswered, outstanding]
    refine ⟨_, taken, ?_, fun k other => by simp [other], by simp [ExchangeSlot.empty],
      fun m other => by simp [other], ?_, ?_, fun later => ?_⟩
    · exact State.declinesTake_congr (State.declinesTake_declineTake (s.endExchange n) g) (by simp) (by simp) (by simp) rfl
        fun _ => rfl
    · exact (State.declineTake_queue _ g).trans (.of_eq (by simp))
    · exact State.eq_of_fields
    · rw [State.declineTake_of_not_waiting (by simp [later])]
      simp [State.declined]

/-! ### TAKEN -/

section
variable {s : State} {n : NodeId} {g : GroupId} {p : List Byte} (passes : s.passes .taken (.node n) p)
include passes

theorem exec_taken_of_match (outstanding : (s.exchange n).outstanding = some (.take g)) (names : octetAt p 0 = g.num) :
    exec (.taken (.node n) p) s =
      .next (if octetAt p 1 = 1 then (s.endExchange n).acceptTake g else (s.endExchange n).declineTake g) := by
  rw [exec_of_passes rfl passes]
  simp [frameOwner, onNode, State.takenTaken, outstanding, names, takenAccepts]

theorem exec_taken_of_stray (stray : ∀ g, (s.exchange n).outstanding = some (.take g) → octetAt p 0 ≠ g.num) :
    exec (.taken (.node n) p) s = .next s := by
  rw [exec_of_passes rfl passes]
  refine congrArg Host.Outcome.next ?_
  show s.takenTaken n p = s
  unfold State.takenTaken
  split
  · next g outstanding => rw [if_neg (stray g outstanding).symm]
  · rfl

end

/-- R130: without a duty node that waits, the swap is all. -/
theorem State.acceptTake_of_none {s : State} {g : GroupId} (later : (s.group g).roleLater = none) :
    s.acceptTake g = s.rolesSwapped g := by
  rw [State.acceptTake_eq, later]

/-- R135: the former duty node that waits is told ROLE STANDBY, and the group is served. -/
theorem State.acceptTake_of_waiting {s : State} {g : GroupId} {m : NodeId} (later : (s.group g).roleLater = some m)
    (duty : (s.group g).duty = some m) :
    s.acceptTake g = ((s.rolesSwapped g).send (.node m) (.role g .standby)).modGroup g fun r =>
      { r with roleLater := none, state := .served } := by
  rw [State.acceptTake_eq, later]
  exact if_pos duty

theorem State.ports_rolesSwapped (s : State) (g : GroupId) (l : Link) : (s.rolesSwapped g).port l = s.port l := by
  simp [State.rolesSwapped]

/-- R130, R135: an accepted TAKE. -/
theorem State.acceptTake_spec {s : State} {g : GroupId}
    (later : (s.group g).roleLater = none ∨ (s.group g).roleLater = (s.group g).duty) :
    (s.acceptTake g).group g =
        { s.group g with
          state := if (s.group g).roleLater = none then .takenOver else .served
          duty := (s.group g).standby, standby := (s.group g).duty, deadline := none, point := none
          pointTaken := false, outstanding := false, declined := false, escalated := false, roleLater := none }
      ∧ (s.acceptTake g).flag .takeover = true
      ∧ (∀ m, (s.group g).roleLater = some m → s.sends (s.acceptTake g) (.node m) [.role g .standby])
      ∧ ((s.group g).roleLater = none → ∀ l, (s.acceptTake g).port l = s.port l) := by
  have raised : (s.rolesSwapped g).flag .takeover = true := by simp [State.rolesSwapped]
  cases waits : (s.group g).roleLater with
  | none =>
    rw [State.acceptTake_of_none waits]
    refine ⟨?_, raised, by simp, fun _ => s.ports_rolesSwapped g⟩
    simp [State.group_rolesSwapped, waits]
  | some m =>
    have duty : (s.group g).duty = some m := by
      rw [waits] at later
      exact (later.resolve_left (by simp)).symm
    rw [State.acceptTake_of_waiting waits duty]
    refine ⟨by simp [State.group_rolesSwapped], ?_, fun m' same => ?_, by simp⟩
    · rw [State.flag_modGroup, State.flag_of_alerts (s := s.rolesSwapped g) (by simp), raised]
    · cases same
      exact ((s.rolesSwapped g).sends_send (.node m) (.role g .standby)).of_ports (s.ports_rolesSwapped g) (by simp)
        (by simp [State.rolesSwapped])

/-- Settles O32: a TAKEN that matches accepts or declines; a stray one does nothing. -/
theorem takenSwapsOrDeclines : Obligations.TakenSwapsOrDeclines := by
  intro n p s passes
  refine ⟨fun g outstanding names => ?_, exec_taken_of_stray passes⟩
  have taken := exec_taken_of_match passes outstanding names
  have setup : s.sameSetup (frameOwner .taken (.node n) p s) := s.sameSetup_frameOwner .taken _ p
  refine ⟨fun yes later => ?_, fun no later => ?_, fun no m later duty => ?_⟩
  · rw [if_pos yes] at taken
    have same := Host.Outcome.next.inj ((exec_of_passes rfl passes).symm.trans taken)
    obtain ⟨group, flag, told, silent⟩ := State.acceptTake_spec (s := s.endExchange n) (g := g) (by simpa using later)
    refine ⟨_, taken, by simpa using group, flag, by simp [ExchangeSlot.empty], fun m waits => ?_, fun none l => ?_, by simp, by simp,
      by simp, by simp, same ▸ setup⟩
    · exact (told m (by simpa using waits)).of_ports (by simp) (fun _ => rfl) (by simp)
    · simpa using silent (by simpa using none) l
  · rw [if_neg no, State.declineTake_of_not_waiting (by simp [later])] at taken
    refine ⟨_, taken, by simp [State.declined], fun k other => by simp [State.declined, other],
      by simp [State.declined, ExchangeSlot.empty], fun m other => by simp [State.declined, other], rfl⟩
  · rw [if_neg no, State.declineTake_of_waiting (m := m) (by simpa using later) (by simpa using duty)] at taken
    refine ⟨_, taken, by simp [State.group_dutyRestored], by simp [State.dutyRestored, State.declined, ExchangeSlot.empty], ?_⟩
    exact (State.sends_dutyRestored (s := s.endExchange n) (g := g) m).of_ports (by simp) (fun _ => rfl) (by simp)

end Sys2Proof.Machine

/-! PROOF. RESUMED: the role that the group gives a node that returns to service (R47, R133 to R135). -/

namespace Sys2Proof.Machine

/-! ### What a RESUMED does to its group -/

section
variable {s : State} {n : NodeId} {g : GroupId} (member : s.groupOf n = some g)
include member

theorem State.noteResumed_of_standby (standby : (s.group g).standby = some n) :
    s.noteResumed n = if (s.group g).state = .takenOver then s.modGroup g fun q => { q with state := .served } else s := by
  simp [State.noteResumed, member, standby]

theorem State.noteResumed_of_duty_taking (other : (s.group g).standby ≠ some n) (duty : (s.group g).duty = some n)
    (taking : (s.group g).outstanding = true) : s.noteResumed n = s.modGroup g fun q => { q with roleLater := some n } := by
  simp [State.noteResumed, member, other, duty, taking]

theorem State.noteResumed_of_duty (other : (s.group g).standby ≠ some n) (duty : (s.group g).duty = some n)
    (free : (s.group g).outstanding = false) : s.noteResumed n = s.leaveHold g .served := by
  simp [State.noteResumed, member, other, duty, free]

theorem State.noteResumed_of_neither (notStandby : (s.group g).standby ≠ some n) (notDuty : (s.group g).duty ≠ some n) :
    s.noteResumed n = s := by
  simp [State.noteResumed, member, notStandby, notDuty]

theorem State.group_noteResumed_other {k : GroupId} (other : k ≠ g) : (s.noteResumed n).group k = s.group k := by
  unfold State.noteResumed
  rw [member]
  dsimp only
  repeat' split
  all_goals simp [other]

theorem State.group_noteStandbyRunning_other {k : GroupId} (other : k ≠ g) : (s.noteStandbyRunning n).group k = s.group k := by
  unfold State.noteStandbyRunning
  rw [member]
  dsimp only
  split
  · simp [other]
  · rfl

/-- R129: a node that reaches RUNNING is sent TAKE if it is a standby that its group seeks, and nothing else comes of it. -/
theorem State.noteStandbyRunning_of_not_sought (h : (s.group g).standby = some n → ¬ s.seeks g) : s.noteStandbyRunning n = s := by
  by_cases standby : (s.group g).standby = some n
  · rw [State.noteStandbyRunning_of_standby member standby, State.standbyReachedRunning_of_not_seeks (h standby)]
  · exact State.noteStandbyRunning_of_not_standby member standby

theorem State.noteStandbyRunning_of_sought (standby : (s.group g).standby = some n) (running : (s.node n).state = .running)
    (seeks : s.seeks g) : s.noteStandbyRunning n = s.sendTake g n := by
  rw [State.noteStandbyRunning_of_standby member standby, State.standbyReachedRunning_of_seeks standby running seeks]

end

/-! ### RESUMED, step by step -/

/-- R30: node n enters RUNNING. -/
def State.runs (s : State) (n : NodeId) : State := s.modNode n fun r => r.enterRunning (s.nodePlan n) s.clock.ms

/-- R47: a RESUMED that is taken, up to the trigger of the group. -/
def State.resumed (s : State) (n : NodeId) : State :=
  ((s.runs n).noteResumed n).reply (.node n) .resumed .ok (.resumed (s.roleAtResume n))

theorem State.resumedTaken_of_settling {s : State} {n : NodeId} (state : (s.node n).state = .settling) :
    s.resumedTaken n = (s.resumed n).noteStandbyRunning n := if_pos state

@[simp] theorem State.runs_kept (s : State) (n : NodeId) : (s.runs n).groups = s.groups ∧ (s.runs n).exchanges = s.exchanges
    ∧ (s.runs n).store = s.store ∧ (s.runs n).queue = s.queue ∧ (s.runs n).channels = s.channels ∧ (s.runs n).monitor = s.monitor
    ∧ (s.runs n).alerts = s.alerts ∧ (s.runs n).active = s.active ∧ (s.runs n).staged = s.staged ∧ (s.runs n).array = s.array
    ∧ (s.runs n).saving = s.saving ∧ (s.runs n).clock = s.clock ∧ (s.runs n).resetAsserted = s.resetAsserted
    ∧ (s.runs n).powered = s.powered ∧ (s.runs n).pending = s.pending ∧ (∀ k, (s.runs n).group k = s.group k)
    ∧ (∀ m, (s.runs n).exchange m = s.exchange m) ∧ (∀ l, (s.runs n).port l = s.port l)
    ∧ ∀ m, m ≠ n → (s.runs n).node m = s.node m := by
  simp +contextual [State.runs]

@[simp] theorem State.node_runs (s : State) (n : NodeId) :
    (s.runs n).node n = (s.node n).enterRunning (s.nodePlan n) s.clock.ms := by
  simp [State.runs]

theorem State.groupOf_runs (s : State) (n m : NodeId) : (s.runs n).groupOf m = s.groupOf m := by simp [State.groupOf]

section
variable (s : State) (n : NodeId)

@[simp] theorem State.resumed_kept : (s.resumed n).nodes = (s.runs n).nodes ∧ (s.resumed n).exchanges = s.exchanges
    ∧ (s.resumed n).store = s.store ∧ (s.resumed n).channels = s.channels ∧ (s.resumed n).monitor = s.monitor
    ∧ (s.resumed n).alerts = s.alerts ∧ (s.resumed n).active = s.active ∧ (s.resumed n).clock = s.clock
    ∧ (s.resumed n).resetAsserted = s.resetAsserted ∧ (∀ m, (s.resumed n).exchange m = s.exchange m)
    ∧ ∀ m, (s.resumed n).node m = (s.runs n).node m := by
  simp [State.resumed]

theorem State.group_resumed (k : GroupId) : (s.resumed n).group k = ((s.runs n).noteResumed n).group k := by
  simp [State.resumed]

theorem State.sends_resumed : s.sends (s.resumed n) (.node n) [.reply 0x15#8 .ok (.resumed (s.roleAtResume n))] :=
  State.sends_reply_after (.node n) .resumed .ok _ (ports := fun m => by simp) (level := by simp)

end

/-- Settles O22: the role by the group's record, and a TAKE for a standby that its group seeks. -/
theorem resumedReturnsToService : Obligations.ResumedReturnsToService := by
  intro n p s g passes state member apart
  have taken : exec (.resumed (.node n) p) s = .next ((s.resumed n).noteStandbyRunning n) :=
    (exec_of_passes rfl passes).trans (congrArg _ (State.resumedTaken_of_settling state))
  have setup : s.sameSetup ((s.resumed n).noteStandbyRunning n) := by
    have same := Host.Outcome.next.inj ((exec_of_passes rfl passes).symm.trans taken)
    exact same ▸ s.sameSetup_frameOwner .resumed (.node n) p
  have running : (s.runs n).groupOf n = some g := by rwa [State.groupOf_runs]
  have member' : (s.resumed n).groupOf n = some g := by simpa [State.groupOf] using member
  have replied := s.sends_resumed n
  have still (h : ((s.resumed n).group g).standby = some n → ¬ (s.resumed n).seeks g) :=
    State.noteStandbyRunning_of_not_sought member' h
  refine ⟨_, taken, by simp [NodeRec.enterRunning, NodeRec.stopTimers], fun m other => by simp [other], fun k other => ?_, by simp,
    by simp, by simp, by simp, setup, fun duty free => ?duty, fun duty taking => ?taking, fun standby out => ?standby,
    fun standby hold => ?sought, fun notDuty notStandby => ?neither⟩
  · rw [State.group_noteStandbyRunning_other member' other, State.group_resumed, State.group_noteResumed_other running other]
    simp
  case duty =>
    have other : (s.group g).standby ≠ some n := fun standby => by simp [duty, standby] at apart
    have group : (s.resumed n).group g = { s.group g with
        state := .served, deadline := none, point := none, pointTaken := false, escalated := false, declined := false } := by
      rw [State.group_resumed, State.noteResumed_of_duty running (by simpa using other) (by simpa using duty)
        (by simpa using free), State.group_leaveHold]
      simp
    have role : s.roleAtResume n = .duty := by simp [State.roleAtResume, member, other, duty, free]
    rw [still (by simp [group, other])]
    exact ⟨group, role ▸ replied⟩
  case taking =>
    have other : (s.group g).standby ≠ some n := fun standby => by simp [duty, standby] at apart
    have group : (s.resumed n).group g = { s.group g with roleLater := some n } := by
      rw [State.group_resumed, State.noteResumed_of_duty_taking running (by simpa using other) (by simpa using duty)
        (by simpa using taking)]
      simp
    have role : s.roleAtResume n = .later := by simp [State.roleAtResume, member, other, duty, taking]
    rw [still (by simp [group, other])]
    exact ⟨group, role ▸ replied⟩
  case standby =>
    have group : (s.resumed n).group g =
        { s.group g with state := if (s.group g).state = .takenOver then .served else (s.group g).state } := by
      rw [State.group_resumed, State.noteResumed_of_standby running (by simpa using standby)]
      by_cases takenOver : (s.group g).state = .takenOver
      · simp [takenOver]
      · simp [takenOver]
    have role : s.roleAtResume n = .standby := by simp [State.roleAtResume, member, standby]
    have notSought : ¬ (s.resumed n).seeks g := fun ⟨hold, _⟩ => by
      rw [group] at hold
      by_cases takenOver : (s.group g).state = .takenOver
      · simp [takenOver, GroupState.inHold] at hold
      · simp [takenOver, out] at hold
    rw [still fun _ => notSought]
    exact ⟨group, role ▸ replied⟩
  case sought =>
    have group : (s.resumed n).group g = s.group g := by
      rw [State.group_resumed, State.noteResumed_of_standby running (by simpa using standby), if_neg]
      · simp
      · intro takenOver
        simp only [State.runs_kept] at takenOver
        simp [takenOver, GroupState.inHold] at hold
    have role : s.roleAtResume n = .standby := by simp [State.roleAtResume, member, standby]
    have seeks : (s.resumed n).seeks g ↔ s.seeks g := State.seeks_congr group (by simp)
    rw [role] at replied
    refine ⟨fun sought => ?_, fun notSought => ?_⟩
    · rw [State.noteStandbyRunning_of_sought member' (by rwa [group]) (by simp [NodeRec.enterRunning]) (seeks.2 ⟨hold, sought⟩)]
      refine ⟨by simp [group], by simp, ?_⟩
      exact replied.append ((s.resumed n).sends_sendTake g n)
    · rw [still fun _ sought => notSought (seeks.1 sought).2]
      exact ⟨group, by simp, replied⟩
  case neither =>
    have group : (s.resumed n).group g = s.group g := by
      rw [State.group_resumed, State.noteResumed_of_neither running (by simpa using notStandby) (by simpa using notDuty)]
      simp
    have role : s.roleAtResume n = .later := by simp [State.roleAtResume, member, notStandby, notDuty]
    rw [still (by simp [group, notStandby])]
    exact ⟨group, role ▸ replied⟩

end Sys2Proof.Machine

/-! PROOF. The resolution of a group's roles: by a DUTY claim, by the last member that becomes known (R27, R121, R122). -/

namespace Sys2Proof.Machine

/-! ### Roles written and told -/

section
variable (s : State) (g : GroupId)

@[simp] theorem State.group_assignRoles (d : NodeId) (o : Option NodeId) :
    (s.assignRoles g d o).group g = { s.group g with duty := some d, standby := o, state := .served } := by
  simp [State.assignRoles]

theorem State.tellRole_of_running {n : NodeId} (running : (s.node n).state = .running) (r : Role) :
    s.tellRole g (some n) r = s.send (.node n) (.role g r) := if_pos running

theorem State.tellRole_of_idle {o : Option NodeId} (idle : ∀ n, o = some n → (s.node n).state ≠ .running) (r : Role) :
    s.tellRole g o r = s := by
  cases o with
  | none => rfl
  | some n => exact if_neg (idle n rfl)

theorem State.port_tellRole_other {o : Option NodeId} {n : NodeId} (other : o ≠ some n) (r : Role) :
    (s.tellRole g o r).port (.node n) = s.port (.node n) := by
  unfold State.tellRole
  repeat' split
  · exact (State.sends_send _ _ _).2 _ fun same => other (by cases same; rfl)
  · rfl
  · rfl

/-- R121: the link of node n after roles are written and a node is told. -/
theorem State.sends_tellRole_assigned {d : NodeId} {o : Option NodeId} {n : NodeId} (running : (s.node n).state = .running)
    (r : Role) : s.sends ((s.assignRoles g d o).tellRole g (some n) r) (.node n) [.role g r] := by
  rw [State.tellRole_of_running _ _ (by simpa using running)]
  exact State.sends_send_after (.node n) _

end

/-! ### The two ways out of PENDING -/

section
variable {s : State} {g : GroupId}

theorem State.someUnknown_iff : s.someUnknown g = true ↔ ∃ m ∈ s.active.members g, (s.node m).state = .unknown := by
  simp [State.someUnknown]

theorem State.resolveIfKnown_of_unknown (h : ∃ m ∈ s.active.members g, (s.node m).state = .unknown) : s.resolveIfKnown g = s := by
  simp [State.resolveIfKnown, State.someUnknown_iff.2 h]

theorem State.resolveIfKnown_of_known (pending : (s.group g).state = .pending)
    (known : ∀ m ∈ s.active.members g, (s.node m).state ≠ .unknown) : s.resolveIfKnown g = s.resolveRoles g := by
  have none : s.someUnknown g = false :=
    Bool.eq_false_iff.2 fun some => by
      obtain ⟨m, member, unknown⟩ := State.someUnknown_iff.1 some
      exact known m member unknown
  simp [State.resolveIfKnown, pending, none]

section
variable {d : NodeId} (initial : s.active.initialDuty g = some d)
include initial

/-- R121, first case: the initial duty node is RUNNING. -/
theorem State.resolveRoles_of_duty (running : (s.node d).state = .running) :
    s.resolveRoles g =
      ((s.assignRoles g d (s.active.otherMember g d)).tellRole g (some d) .duty).tellRole g (s.active.otherMember g d) .standby := by
  simp [State.resolveRoles, initial, running]

/-- R121, second case: the other member is. -/
theorem State.resolveRoles_of_other {o : NodeId} (idle : (s.node d).state ≠ .running) (other : s.active.otherMember g d = some o)
    (running : (s.node o).state = .running) : s.resolveRoles g = (s.assignRoles g o (some d)).tellRole g (some o) .duty := by
  simp [State.resolveRoles, initial, idle, other, running, Option.filter]

/-- R121, third case: none is, and the group enters the hold. -/
theorem State.resolveRoles_of_none (idle : (s.node d).state ≠ .running)
    (none : ∀ o, s.active.otherMember g d = some o → (s.node o).state ≠ .running) :
    s.resolveRoles g = (s.assignRoles g d (s.active.otherMember g d)).enterHold g (s.designationBase d) := by
  have noOther : ((s.active.otherMember g d).filter fun o => (s.node o).state = .running) = Option.none := by
    rw [Option.filter_eq_none_iff]
    simpa using none
  simp [State.resolveRoles, initial, idle, noOther]

/-- No TAKE goes out as the roles are resolved. -/
theorem State.exchanges_resolveRoles : (s.resolveRoles g).exchanges = s.exchanges := by
  by_cases running : (s.node d).state = .running
  · rw [State.resolveRoles_of_duty initial running]
    simp
  · by_cases other : ∃ o, s.active.otherMember g d = some o ∧ (s.node o).state = .running
    · obtain ⟨o, other, running'⟩ := other
      rw [State.resolveRoles_of_other initial running other running']
      simp
    · have none : ∀ o, s.active.otherMember g d = some o → (s.node o).state ≠ .running := fun o is running =>
        other ⟨o, is, running⟩
      rw [State.resolveRoles_of_none initial running none, State.enterHold_of_idle (.inr (by simpa using none))]
      simp

theorem State.exchanges_resolveIfKnown : (s.resolveIfKnown g).exchanges = s.exchanges := by
  unfold State.resolveIfKnown
  split
  exacts [State.exchanges_resolveRoles initial, rfl]

end

end

/-! ### The first BEAT -/

/-- R27: node n is acquired by a BEAT, before its readings are taken. -/
def State.acquired (s : State) (n : NodeId) : State :=
  (s.noteBeat n).modNode n fun r => r.enterRunning (s.nodePlan n) s.clock.ms

theorem State.beatTaken_of_unknown {s : State} {n : NodeId} (p : List Byte) (unknown : (s.node n).state = .unknown) :
    s.beatTaken n p = ((s.acquired n).takeReadings (readings p)).noteAcquired n (roleClaim p) := by
  simp [State.beatTaken, unknown, State.acquired]

section
variable (s : State) (n : NodeId)

@[simp] theorem State.node_acquired :
    (s.acquired n).node n =
      { (s.node n).enterRunning (s.nodePlan n) s.clock.ms with lastBeat := some s.clock.ms, beatSincePending := true } := by
  simp [State.acquired, State.noteBeat, NodeRec.enterRunning, NodeRec.stopTimers]

@[simp] theorem State.acquired_kept : (s.acquired n).groups = s.groups ∧ (s.acquired n).exchanges = s.exchanges
    ∧ (s.acquired n).store = s.store ∧ (s.acquired n).queue = s.queue ∧ (s.acquired n).channels = s.channels
    ∧ (s.acquired n).monitor = s.monitor ∧ (s.acquired n).alerts = s.alerts ∧ (s.acquired n).active = s.active
    ∧ (s.acquired n).clock = s.clock ∧ (s.acquired n).resetAsserted = s.resetAsserted
    ∧ (∀ k, (s.acquired n).group k = s.group k) ∧ (∀ m, (s.acquired n).exchange m = s.exchange m)
    ∧ (∀ l, (s.acquired n).port l = s.port l) ∧ ∀ m, m ≠ n → (s.acquired n).node m = s.node m := by
  simp +contextual [State.acquired]

end

/-! ### Readings and a group that is not in the hold -/

section
variable {s : State} {g : GroupId}

/-- R127: a trip acts on a group in the hold alone. -/
theorem State.group_reportTrip_of_not_inHold (out : (s.group g).state.inHold = false) (k : GroupId) :
    (s.reportTrip k).group g = s.group g := by
  unfold State.reportTrip
  split
  · next trigger =>
    have other : g ≠ k := by
      rintro rfl
      simp [out] at trigger
    simp [other]
  · rfl

theorem State.group_tripChannel_of_not_inHold (out : (s.group g).state.inHold = false) (c : Fin 16) (m : MonChannel) :
    (s.tripChannel c m).group g = s.group g := by
  unfold State.tripChannel
  dsimp only
  split
  · rw [State.group_reportTrip_of_not_inHold (by simpa using out)]
    simp
  · simp

theorem State.group_takeReading_of_not_inHold (out : (s.group g).state.inHold = false) (r : Nat × Nat) :
    (s.takeReading r).group g = s.group g := by
  have counted (c : Fin 16) (m : MonChannel) (v : Nat) : (s.countReading c m v).group g = s.group g := by
    unfold State.countReading
    repeat' split
    exacts [State.group_tripChannel_of_not_inHold out c m, rfl, rfl]
  unfold State.takeReading State.comparatorReading State.twoTimesReading
  dsimp only
  repeat' split
  exacts [rfl, rfl, rfl, rfl, rfl, rfl, counted _ _ _, rfl, rfl, counted _ _ _]

theorem State.group_takeReadings_of_not_inHold (out : (s.group g).state.inHold = false) (rs : List (Nat × Nat)) :
    (s.takeReadings rs).group g = s.group g := by
  unfold State.takeReadings
  induction rs generalizing s with
  | nil => rfl
  | cons r rs ih =>
    have one := State.group_takeReading_of_not_inHold out r
    exact (ih (by rwa [one])).trans one

end

end Sys2Proof.Machine

/-! PROOF. The first BEAT of a node, and the event that makes the last member of a group known (R27, R121, R122, R129). -/

namespace Sys2Proof.Machine

/-! ### What the first BEAT notes -/

section
variable {s : State} {n : NodeId} {g : GroupId} (member : s.groupOf n = some g)
include member

theorem State.noteAcquired_of_claim (pending : (s.group g).state = .pending) {claim : Option Role} (duty : claim = some .duty) :
    s.noteAcquired n claim = s.claimDuty g n := by
  simp [State.noteAcquired, member, pending, duty]

theorem State.noteAcquired_of_pending (pending : (s.group g).state = .pending) {claim : Option Role} (other : claim ≠ some .duty) :
    s.noteAcquired n claim = s.resolveIfKnown g := by
  simp [State.noteAcquired, member, pending, other]

/-- R122: a standby is told so unless it claims it, and is then a standby that has reached RUNNING. -/
theorem State.noteAcquired_of_standby (resolved : (s.group g).state ≠ .pending) (standby : (s.group g).standby = some n)
    (claim : Option Role) :
    s.noteAcquired n claim =
      (if claim = some .standby then s else s.send (.node n) (.role g .standby)).standbyReachedRunning g := by
  simp [State.noteAcquired, member, resolved, standby]

theorem State.noteAcquired_of_other (resolved : (s.group g).state ≠ .pending) (standby : (s.group g).standby ≠ some n)
    (claim : Option Role) : s.noteAcquired n claim = s := by
  simp [State.noteAcquired, member, resolved, standby]

end

/-- Settles O15: the node enters RUNNING; then its group takes its DUTY claim, or tells it and seeks it as a standby. -/
theorem firstBeatAcquiresTheNode : Obligations.FirstBeatAcquiresTheNode := by
  intro n p s passes unknown
  let v := (s.acquired n).takeReadings (readings p)
  have taken : exec (.beat (.node n) p) s = .next (v.noteAcquired n (roleClaim p)) :=
    (exec_of_passes rfl passes).trans (congrArg _ (State.beatTaken_of_unknown p unknown))
  have setup : s.sameSetup (v.noteAcquired n (roleClaim p)) :=
    Host.Outcome.next.inj ((exec_of_passes rfl passes).symm.trans taken) ▸ s.sameSetup_frameOwner .beat (.node n) p
  have memberV {g : GroupId} (member : s.groupOf n = some g) : v.groupOf n = some g := by simpa [State.groupOf, v] using member
  have silent (none : octetAt p 1 = 0) : v = s.acquired n := by
    simp only [v, readings_of_zero none]
    rfl
  refine ⟨_, taken, by simp [v, NodeRec.enterRunning, NodeRec.stopTimers], fun m other => by simp [v, other], by simp [v], by simp [v],
    setup, fun g member pending claim => ?claims, fun g member resolved none => ?resolved⟩
  case claims =>
    have group : v.group g = s.group g := by
      rw [State.group_takeReadings_of_not_inHold] <;> simp [pending, GroupState.inHold]
    rw [State.noteAcquired_of_claim (memberV member) (by rwa [group]) claim]
    refine ⟨by simp [State.claimDuty, group, v], fun none => ?_⟩
    rw [silent none]
    refine ⟨fun k other => by simp [other], by simp, by simp, by simp, fun m other running => ?_, fun idle l => ?_⟩
    · have apart : m ≠ n := (Plan.otherMember_spec other).2
      simp only [State.claimDuty, State.acquired_kept, other]
      exact (State.sends_tellRole_assigned (s.acquired n) g (by simpa [apart] using running) .standby).of_ports (by simp)
        (fun _ => rfl)
    · rw [State.claimDuty, State.tellRole_of_idle]
      · simp
      · intro m other
        simp only [State.acquired_kept] at other
        have apart : m ≠ n := (Plan.otherMember_spec other).2
        simpa [apart] using idle m other
  case resolved =>
    have memberA : (s.acquired n).groupOf n = some g := by simpa [State.groupOf] using member
    rw [silent none]
    by_cases standby : (s.group g).standby = some n
    · let w := if roleClaim p = some .standby then s.acquired n else (s.acquired n).send (.node n) (.role g .standby)
      have ended : (s.acquired n).noteAcquired n (roleClaim p) = w.standbyReachedRunning g :=
        State.noteAcquired_of_standby memberA (by simpa using resolved) (by simpa using standby) _
      have told : s.sends w (.node n) (if roleClaim p = some .standby then [] else [.role g .standby]) := by
        by_cases claims : roleClaim p = some .standby
        · simp only [w, if_pos claims]
          exact State.sends_nil _ (by simp)
        · simp only [w, if_neg claims]
          exact State.sends_send_after (.node n) _
      have kept : w.groups = s.groups ∧ w.exchanges = s.exchanges ∧ w.monitor = s.monitor ∧ w.alerts = s.alerts
          ∧ w.queue = s.queue ∧ w.clock = s.clock ∧ w.active = s.active ∧ w.resetAsserted = s.resetAsserted
          ∧ (w.node n).state = .running := by
        by_cases claims : roleClaim p = some .standby <;> simp [w, claims, NodeRec.enterRunning]
      obtain ⟨groups, exchanges, monitor, alerts, queue, clock, active, level, running⟩ := kept
      have group (k : GroupId) : w.group k = s.group k := by rw [State.group, groups, State.group]
      have exchange (m : NodeId) : w.exchange m = s.exchange m := by rw [State.exchange, exchanges, State.exchange]
      have seeks : w.seeks g ↔ s.seeks g := State.seeks_congr (group g) clock
      rw [ended]
      by_cases sought : s.seeks g
      · rw [State.standbyReachedRunning_of_seeks (by rwa [group]) running (seeks.2 sought)]
        refine ⟨fun k other => by simp [other, group], fun m other => by simp [other, exchange], by simp [monitor], by simp [alerts],
          by simp [queue], fun _ _ => ⟨by simp [group], by simp [active], told.append (w.sends_sendTake g n) level⟩,
          fun _ no => absurd sought no, fun no => absurd standby no⟩
      · rw [State.standbyReachedRunning_of_not_seeks fun yes => sought (seeks.1 yes)]
        exact ⟨fun k _ => group k, fun m _ => exchange m, monitor, alerts, queue, fun _ yes => absurd yes sought,
          fun _ _ => ⟨group g, exchange n, told⟩, fun no => absurd standby no⟩
    · rw [State.noteAcquired_of_other memberA (by simpa using resolved) (by simpa using standby)]
      exact ⟨by simp, by simp, by simp, by simp, by simp, fun yes => absurd yes standby, fun yes => absurd yes standby, by simp⟩

/-! ### The last member that becomes known -/

/-- R122: a member of a group is told the role that the resolution gives it, by the RUNNING initial duty node or the other member. -/
theorem State.resolveRoles_of_running {s : State} {n : NodeId} {g : GroupId} {d : NodeId} (passes : s.active.groupFault g = none)
    (member : n ∈ s.active.members g) (running : (s.node n).state = .running) (initial : s.active.initialDuty g = some d) :
    let duty := if d = n ∨ (s.node d).state = .running then d else n
    (s.resolveRoles g).group g =
        { s.group g with state := .served, duty := some duty, standby := s.active.otherMember g duty }
      ∧ (s.resolveRoles g).port (.node n) =
        { s.port (.node n) with
          sent := (s.port (.node n)).sent
            ++ (if s.resetAsserted then [] else [.role g (if duty = n then .duty else .standby)]) } := by
  intro duty
  have member_d : d ∈ s.active.members g := List.mem_of_find?_eq_some initial
  by_cases served : (s.node d).state = .running
  · have isDuty : duty = d := if_pos (.inr served)
    rw [State.resolveRoles_of_duty initial served, isDuty]
    refine ⟨by simp, ?_⟩
    by_cases same : d = n
    · subst same
      rw [State.port_tellRole_other _ _ fun other => (Plan.otherMember_spec other).2 rfl, (s.sends_tellRole_assigned g served .duty).1, if_pos rfl]
    · have other : s.active.otherMember g d = some n := Plan.otherMember_eq passes member_d member (Ne.symm same)
      have told : ((s.assignRoles g d (some n)).tellRole g (some d) .duty).port (.node n) = s.port (.node n) := by
        rw [State.port_tellRole_other _ _ (by simpa using same)]
        simp
      rw [other, State.tellRole_of_running _ _ (by simpa using running), (State.sends_send _ _ _).1, told, if_neg same]
      simp
  · have apart : d ≠ n := fun same => served (same ▸ running)
    have isDuty : duty = n := if_neg (by simp [apart, served])
    have other : s.active.otherMember g d = some n := Plan.otherMember_eq passes member_d member apart.symm
    rw [State.resolveRoles_of_other initial served other running, isDuty, (s.sends_tellRole_assigned g running .duty).1, if_pos rfl]
    exact ⟨by simp [Plan.otherMember_symm passes member_d other], rfl⟩

/-- R8: the moment from which the deadline of a duty node designated out of service is counted. -/
theorem State.designationBase_eq (s : State) (d : NodeId) :
    s.designationBase d = if (s.node d).beatSincePending then (s.node d).lastBeat.getD s.clock.ms else s.clock.ms := by
  unfold State.designationBase
  cases (s.node d).lastBeat <;> simp

/-- Settles O16: the three cases of R121, once every member is known. -/
theorem lastMemberKnownResolvesTheGroup : Obligations.LastMemberKnownResolvesTheGroup := by
  refine ⟨fun n p s g d plan passes unknown member pending claim initial => ?_, fun c n g d s leaves member pending initial => ?_⟩
  · let v := (s.acquired n).takeReadings (readings p)
    have pendingV : v.group g = s.group g := by
      rw [State.group_takeReadings_of_not_inHold] <;> simp [pending, GroupState.inHold]
    have taken : exec (.beat (.node n) p) s = .next (v.resolveIfKnown g) := by
      rw [exec_of_passes rfl passes]
      refine congrArg Host.Outcome.next ((State.beatTaken_of_unknown p unknown).trans ?_)
      exact State.noteAcquired_of_pending (by simpa [State.groupOf] using member) (by rw [pendingV]; exact pending) claim
    refine ⟨_, taken, fun waits => ?_, fun known => ?_⟩
    · obtain ⟨m, inGroup, other, still⟩ := waits
      rw [State.resolveIfKnown_of_unknown ⟨m, by simpa [v] using inGroup, by simpa [v, other] using still⟩, pendingV]
    · have everyKnown : ∀ m ∈ v.active.members g, (v.node m).state ≠ .unknown := fun m inGroup => by
        by_cases same : m = n
        · simp [v, same, NodeRec.enterRunning]
        · simpa [v, same] using known m (by simpa [v] using inGroup) same
      have faultless : v.active.groupFault g = none := by
        simpa [v] using Plan.groupFault_of_firstFault plan.2.1 g
      obtain ⟨group, port⟩ := State.resolveRoles_of_running (s := v) (d := d) faultless (n := n)
        (by simpa [v] using (s.active.mem_members g n).2 member) (by simp [v, NodeRec.enterRunning]) (by simpa [v] using initial)
      have duty : (if d = n ∨ (v.node d).state = .running then d else n) = if d = n ∨ (s.node d).state = .running then d else n := by
        by_cases same : d = n
        · simp [same]
        · simp [v, same]
      rw [duty] at group port
      rw [State.resolveIfKnown_of_known (by rw [pendingV]; exact pending) everyKnown]
      refine ⟨by simpa [pendingV, v] using group, fun none => ?_⟩
      have silent : v = s.acquired n := by
        simp only [v, readings_of_zero none]
        rfl
      rw [port, silent]
      simp [passes.1.2]
  · obtain ⟨t, taken, gone, u, moved, goneU, agrees⟩ := exec_leavesUnknown leaves
    have initialU : u.active.initialDuty g = some d := by rwa [moved.active]
    have told : u.noteLeftUnknown n = u.resolveIfKnown g := by simp [State.noteLeftUnknown, moved.groupOf, member]
    have runs (m : NodeId) : (u.node m).state = .running ↔ m ≠ n ∧ (s.node m).state = .running := by
      by_cases same : m = n
      · simp [same, goneU.not_running]
      · simp [same, moved.state m same]
    rw [told] at agrees
    refine ⟨t, taken, gone.2, fun k other => ?_, ?_, fun waits => ?_, fun known => ?_⟩
    · rw [agrees.group, ← moved.group]
      simp [other]
    · rw [agrees.exchanges, State.exchanges_resolveIfKnown initialU, moved.exchanges]
    · obtain ⟨m, inGroup, other, still⟩ := waits
      rw [agrees.group, State.resolveIfKnown_of_unknown ⟨m, by rwa [moved.active], by rwa [moved.state m other]⟩, moved.group]
    · have everyKnown : ∀ m ∈ u.active.members g, (u.node m).state ≠ .unknown := fun m inGroup => by
        by_cases same : m = n
        · exact same ▸ goneU.2
        · rw [moved.state m same]
          exact known m (by rwa [← moved.active]) same
      rw [State.resolveIfKnown_of_known (by rwa [moved.group]) everyKnown] at agrees
      refine ⟨fun served => ?_, fun idle o other served => ?_, fun idle noOther => ?_⟩
      · have resolved := State.resolveRoles_of_duty initialU ((runs d).2 served)
        rw [agrees.group, agrees.ports, resolved]
        refine ⟨by simp [moved.group, moved.active], ?_⟩
        rw [State.port_tellRole_other _ _ fun other => (Plan.otherMember_spec other).2 rfl,
          (u.sends_tellRole_assigned g ((runs d).2 served) .duty).1, moved.ports d served.1, moved.level]
      · have resolved := State.resolveRoles_of_other initialU (fun running => idle ((runs d).1 running))
          (by rwa [moved.active]) ((runs o).2 served)
        rw [agrees.group, agrees.ports, resolved, (u.sends_tellRole_assigned g ((runs o).2 served) .duty).1,
          moved.ports o served.1, moved.level]
        exact ⟨by simp [moved.group], rfl⟩
      · have noneRuns : ∀ o, u.active.otherMember g d = some o → (u.node o).state ≠ .running := fun o other running =>
          noOther o (by rwa [← moved.active]) ((runs o).1 running)
        let w := u.assignRoles g d (s.active.otherMember g d)
        have resolved := State.resolveRoles_of_none initialU (fun running => idle ((runs d).1 running)) noneRuns
        rw [State.designationBase_eq, (moved.beats d).1, (moved.beats d).2, moved.clock, moved.active] at resolved
        have entered := State.entersHold_enterHold (s := w) (g := g) (d := d) (o := s.active.otherMember g d)
          (base := if (s.node d).beatSincePending then (s.node d).lastBeat.getD s.clock.ms else s.clock.ms) (by simp [w]) (by simp [w])
        have plan : w.groupPlan g = s.groupPlan g := by simp [State.groupPlan, w, moved.active]
        rw [plan] at entered
        rw [resolved] at agrees
        refine ⟨(State.entersHold_congr (by simp [w, moved.clock]) (by simp [w, moved.monitor]) entered).of_agrees agrees, ?_⟩
        rw [agrees.group, State.enterHold_of_idle (.inr (by simpa [moved.active] using noneRuns)), State.group_holdEntered]
        rfl

end Sys2Proof.Machine

/-! PROOF. The requests of an upload: an OPEN that is accepted, BLOCK, COMMIT and DROP (R60, R81 to R86). -/

namespace Sys2Proof.Machine

theorem State.store_reply (s : State) (l : Link) (k : Kind) (r : Result) (b : Body) : (s.reply l k r b).store = s.store := by simp

theorem State.store_beginRequest (s : State) (l : Link) (k : Kind) : (s.beginRequest l k).store = s.store := by simp

/-! ### OPEN -/

/-- R61: the slot taken is the lowest that is free. -/
theorem Store.freeSlot_of_first {st : Store} {i : Slot} (free : st.dir[i] = none) (first : ∀ j : Slot, j < i → st.dir[j] ≠ none) :
    st.freeSlot = some i := by
  rw [Store.freeSlot, List.find?_eq_some_iff_getElem]
  refine ⟨by rw [free]; rfl, i.val, by simp, by simp, fun j before => ?_⟩
  have taken := first ⟨j, by omega⟩ before
  rw [List.getElem_finRange]
  simpa [Option.isSome_iff_ne_none] using taken

/-- R81, R61, R62: what the placing of a record leaves. -/
theorem State.placeRecord_spec (s : State) (n : NodeId) (i : Slot) (k : RecKind) (declared : Nat) :
    (s.placeRecord n i k declared).store.gens.get n = s.store.gens.get n + 1#32
      ∧ (∀ m, m ≠ n → (s.placeRecord n i k declared).store.gens.get m = s.store.gens.get m)
      ∧ (∀ j : Slot, j ≠ i → (s.placeRecord n i k declared).store.dir[j] = s.store.dir[j])
      ∧ (s.placeRecord n i k declared).store.pool = s.store.pool
      ∧ (s.placeRecord n i k declared).store.peek = s.store.peek
      ∧ (s.placeRecord n i k declared).node n = { s.node n with openRec := some i }
      ∧ ∀ m, m ≠ n → (s.placeRecord n i k declared).node m = s.node m := by
  refine ⟨by simp [State.placeRecord], fun m other => by simp [State.placeRecord, other], fun j other => ?_,
    by simp [State.placeRecord], by simp [State.placeRecord], by simp [State.placeRecord],
    fun m other => by simp [State.placeRecord, other]⟩
  simp only [State.placeRecord, State.modNode_frame, State.setStore_store]
  rw [dir_set, if_neg other]

/-- Settles O35: the placing of the record, in the slot that is free and first. -/
theorem openPlacesTheRecord : Obligations.OpenPlacesTheRecord := by
  intro n p i k s passes inService noRecord genLeft low high kind free first
  have mayOpen : s.MayOpen n := ⟨inService, noRecord, genLeft⟩
  have count : ¬(field2 p 5 = 0 ∨ Config.maxRecordWords < field2 p 5) := not_or.2 ⟨Nat.pos_iff_ne_zero.1 low, Nat.not_lt.2 high⟩
  obtain ⟨known, base, list⟩ : openKind p = some k ∧ s.baseOk n k = true ∧ s.listOk n k = true := by
    obtain ⟨full, rfl⟩ | ⟨delta, rfl, base, list⟩ := kind
    · exact ⟨openKind_full full, rfl, rfl⟩
    · exact ⟨openKind_delta delta, State.baseOk_delta_iff.2 base, State.listOk_delta_iff.2 list⟩
  have slot := Store.freeSlot_of_first free first
  obtain ⟨gen, gens, dir, pool, peek, node, nodes⟩ := s.placeRecord_spec n i k (field2 p 5)
  refine ⟨_, (exec_openRecord_of_passes passes).trans (congrArg _ (State.openTaken_of_passed mayOpen known count base list slot)),
    ?_, fun m other => ?_, ?_, fun j other => ?_, ?_, fun m other => ?_, ?_, ?_, ?_, ?_, ?_⟩
  · simp [gen]
  · simpa using gens m other
  · rw [State.store_reply]
    exact s.placeRecord_dir_self n i k (field2 p 5)
  · rw [State.store_reply]
    exact dir j other
  · simpa using node
  · simpa using nodes m other
  · rw [gen]
    have freeCount : (s.placeRecord n i k (field2 p 5)).store.freeCount = s.store.freeList.length := by simp [Store.freeCount]
    rw [freeCount]
    exact s.sends_placeRecord_reply n i k _ _ .openRecord _ _
  · simp
  · simp
  · simpa using peek
  · exact State.eq_of_fields

/-! ### BLOCK -/

section
variable {s : State} {n : NodeId} {i : Slot} {r : Record}

/-- R79: the record in status OPEN of a node in service. -/
theorem State.openEntry_of_opened (inService : (s.node n).state.inService = true) (names : (s.node n).openRec = some i)
    (held : s.store.dir[i] = some r) (opened : r.status = .opened) : s.openEntry n = some (i, r) := by
  simp only [State.openEntry, if_pos inService, names, held, if_pos opened]

variable (entry : s.openEntry n = some (i, r)) {p : List Byte}
include entry

/-- R82: a BLOCK out of sequence, or one past the declared count. -/
theorem State.blockTaken_of_sequence (wrong : r.declared ≤ r.received ∨ octetAt p 0 ≠ r.blocks.length) :
    s.blockTaken n p =
      s.reply (.node n) .block .sequence (.progress r.gen r.blocks.length r.received s.store.freeList.length) := by
  have sequence : (decide (r.declared ≤ r.received) || decide (octetAt p 0 ≠ r.nextIndex)) = true := by
    rw [Bool.or_eq_true, decide_eq_true_eq, decide_eq_true_eq]
    exact wrong
  simp only [State.blockTaken, entry, if_pos sequence]
  rfl

/-- R82: a BLOCK of the wrong length. -/
theorem State.blockTaken_of_length (more : r.received < r.declared) (next : octetAt p 0 = r.blocks.length)
    (wrong : octetAt p 1 ≠ r.wordsAt (octetAt p 0)) : s.blockTaken n p = s.reply (.node n) .block .badLength := by
  have sequence : ¬(decide (r.declared ≤ r.received) || decide (octetAt p 0 ≠ r.nextIndex)) = true := by
    simp [Record.nextIndex, next, more]
  simp only [State.blockTaken, entry, if_neg sequence, if_pos wrong]

/-- R83, R84: a BLOCK that passes the checks is stored, if an allocation finds a block for it. -/
theorem State.blockTaken_of_checked (more : r.received < r.declared) (next : octetAt p 0 = r.blocks.length)
    (length : octetAt p 1 = r.wordsAt (octetAt p 0)) :
    s.blockTaken n p =
      if (s.allocate i (fieldWords p 2 (octetAt p 1))).2 then
        (s.allocate i (fieldWords p 2 (octetAt p 1))).1.reply (.node n) .block .ok
          (.progress r.gen (octetAt p 0) (r.received + octetAt p 1)
            (s.allocate i (fieldWords p 2 (octetAt p 1))).1.store.freeList.length)
      else
        (s.allocate i (fieldWords p 2 (octetAt p 1))).1.reply (.node n) .block .poolFull
          (.progress r.gen r.blocks.length r.received (s.allocate i (fieldWords p 2 (octetAt p 1))).1.store.freeList.length) := by
  have sequence : ¬(decide (r.declared ≤ r.received) || decide (octetAt p 0 ≠ r.nextIndex)) = true := by
    simp [Record.nextIndex, next, more]
  simp only [State.blockTaken, entry, if_neg sequence, if_neg (not_not.2 length)]
  rfl

end

/-- R81: the count that each block of a record carries. -/
theorem Record.wordsAt_eq (r : Record) (index : Nat) :
    r.wordsAt index = if index < (r.declared + 63) / 64 - 1 then 64 else r.declared - 64 * ((r.declared + 63) / 64 - 1) := rfl

/-- R60: an allocation that finds the free list not empty. -/
theorem State.allocate_of_free {s : State} {b : Nat} {rest : List Nat} (free : s.store.freeList = b :: rest) (i : Slot)
    (ws : List Word) : s.allocate i ws = (s.setStore (s.store.takeHead i ws), true) := by
  simp [State.allocate, free]

@[simp] theorem length_fieldWords (p : List Byte) (i n : Nat) : (fieldWords p i n).length = n := by simp [fieldWords]

theorem getD_fieldWords (p : List Byte) (i n w : Nat) :
    (fieldWords p i n).getD w 0#32 = if w < n then field4 p (i + 4 * w) else 0#32 := by
  by_cases inside : w < n
  · simp [fieldWords, inside]
  · simp [fieldWords, inside]

/-- R60, R83: what a block taken for the record in slot i writes. -/
theorem Store.takeHead_spec {st : Store} {i : Slot} {r : Record} {b : Nat} {rest : List Nat} (free : st.freeList = b :: rest)
    (held : st.dir[i] = some r) (p : List Byte) (count : Nat) :
    (st.takeHead i (fieldWords p 2 count)).freeList = rest
      ∧ (st.takeHead i (fieldWords p 2 count)).dir[i] =
        some { r with blocks := r.blocks ++ [b], received := r.received + count }
      ∧ (∀ j : Slot, j ≠ i → (st.takeHead i (fieldWords p 2 count)).dir[j] = st.dir[j])
      ∧ (Memory.wf st.pool →
        (∀ w, w < 64 → (st.takeHead i (fieldWords p 2 count)).pool.read (wordAddr b w)
            = ⟨if w < count then field4 p (2 + 4 * w) else 0#32, true⟩)
          ∧ ∀ a, (a < wordAddr b 0 ∨ wordAddr b 64 ≤ a) →
              (st.takeHead i (fieldWords p 2 count)).pool.read a = st.pool.read a)
      ∧ (st.takeHead i (fieldWords p 2 count)).gens = st.gens
      ∧ (st.takeHead i (fieldWords p 2 count)).peek = st.peek := by
  rw [Store.takeHead_of free held]
  refine ⟨rfl, ?_, fun j other => ?_, fun wf => ⟨fun w inside => ?_, fun a outside => ?_⟩, rfl, rfl⟩
  · rw [length_fieldWords]
    exact (dir_set _ _ _ _).trans (if_pos rfl)
  · exact (dir_set _ _ _ _).trans (if_neg other)
  · dsimp only
    rw [Pool.read_writeBlock wf b w _ inside, getD_fieldWords]
  · dsimp only
    rw [Pool.read_writeBlock_other wf b a _ outside]

/-- Settles O36: the two checks, and the block at the head of the free list. -/
theorem blockIsCheckedAndStored : Obligations.BlockIsCheckedAndStored := by
  intro n p i r s passes inService names held opened
  have entry := State.openEntry_of_opened inService names held opened
  rw [exec_of_passes rfl passes]
  refine ⟨fun wrong => congrArg _ (State.blockTaken_of_sequence entry wrong), fun more next wrong => ?_,
    fun more next length wf b rest free => ?_⟩
  · exact congrArg _ (State.blockTaken_of_length entry more next (by rwa [Record.wordsAt_eq]))
  · obtain ⟨freeList, dir, others, pool, gens, peek⟩ := Store.takeHead_spec free held p (octetAt p 1)
    have stored := State.blockTaken_of_checked entry more next (by rwa [Record.wordsAt_eq])
    rw [State.allocate_of_free free, if_pos rfl, State.setStore_store, freeList] at stored
    refine ⟨_, congrArg _ stored, ?_⟩
    rw [State.store_reply, State.setStore_store]
    refine ⟨freeList, dir, others, (pool wf).1, (pool wf).2, gens, peek, ?_, State.eq_of_fields⟩
    exact State.sends_reply_after (.node n) .block .ok _

/-! ### COMMIT and DROP -/

/-- R66: what the removal of a record leaves of the store, but for the directory. -/
theorem State.removeRecord_spec {s : State} {i : Slot} {r : Record} (held : s.store.dir[i] = some r) :
    (s.removeRecord i).store.freeList = s.store.freeList ++ r.blocks
      ∧ (s.removeRecord i).store.peek = s.store.peek.filter fun c => !(decide (c.node = r.node) && decide (c.gen = r.gen)) := by
  rw [State.removeRecord_store held]
  exact ⟨rfl, rfl⟩

/-- Settles O38: COMMIT by the words that have come, and DROP as a removal. -/
theorem commitBeginsThePassAndDropRemoves : Obligations.CommitBeginsThePassAndDropRemoves := by
  intro n p i r s inService names held opened own
  have entry := State.openEntry_of_opened inService names held opened
  refine ⟨fun passes => ⟨fun more => ?_, fun all => ?_⟩, fun passes => ?_⟩
  · rw [exec_of_passes rfl passes]
    refine congrArg Host.Outcome.next ?_
    simp only [frameOwner, onNode, State.commitTaken, entry, if_pos more]
    rfl
  · have taken : exec (.commit (.node n) p) s
        = .next ((s.modRecord i fun q => { q with status := .verifying (field4 p 0) [] }).beginRequest (.node n) .commit) := by
      rw [exec_of_passes rfl passes]
      refine congrArg Host.Outcome.next ?_
      simp only [frameOwner, onNode, State.commitTaken, entry, if_neg (Nat.not_lt.2 all)]
    refine ⟨_, taken, ?_, fun j other => ?_, by simp, fun l other => by simp [other],
      State.eq_of_fields (supervisorPort := rfl) (store := rfl)⟩
    · rw [State.store_beginRequest, State.dir_modRecord, if_pos rfl, held]
      rfl
    · rw [State.store_beginRequest, State.dir_modRecord, if_neg other]
  · have taken : exec (.drop (.node n) p) s = .next ((s.removeRecord i).reply (.node n) .drop .ok
        (.dropped r.gen (s.removeRecord i).store.freeList.length)) := by
      rw [exec_of_passes rfl passes]
      refine congrArg Host.Outcome.next ?_
      simp only [frameOwner, onNode, State.dropTaken, entry]
      rfl
    obtain ⟨freeList, peek⟩ := State.removeRecord_spec held
    have node (m : NodeId) := State.node_removeRecord held m
    rw [freeList, List.length_append] at taken
    refine ⟨_, taken, ?_, fun j other => ?_, ?_, ?_, ?_, ?_, ?_, fun m other => ?_, ?_, State.eq_of_fields⟩
    · rw [State.store_reply, State.dir_removeRecord, if_pos rfl]
    · rw [State.store_reply, State.dir_removeRecord, if_neg other]
    · rw [State.store_reply, freeList]
    · simp
    · simp
    · rw [State.store_reply, peek, own]
    · rw [State.node_reply, node, if_pos own.symm, if_pos names]
    · rw [State.node_reply, node, if_neg (own ▸ other)]
    · exact State.sends_reply_after (.node n) .drop .ok _

end Sys2Proof.Machine

/-! PROOF. The removal of several records, and what the resets keep of the store (R66, R78, R171). -/

namespace Sys2Proof.Machine

/-! ### Several records removed -/

/-- The entries stand in the directory, each in its slot and once. -/
structure Store.lists (st : Store) (es : List Entry) : Prop where
  held : ∀ e ∈ es, st.dir[e.1] = some e.2
  nodup : (es.map Prod.fst).Nodup

theorem Store.lists_filter_recordsOf (st : Store) (n : NodeId) (p : Entry → Bool) : st.lists ((st.recordsOf n).filter p) := by
  have entries := byGeneration_perm (st.entries.filter fun e => e.2.node = n)
  refine ⟨fun e inside => ?_, ?_⟩
  · exact Store.mem_entries.1 (List.mem_filter.1 (entries.mem_iff.1 (List.mem_filter.1 inside).1)).1
  · have nodup : ((st.recordsOf n).map Prod.fst).Nodup :=
      (entries.map Prod.fst).nodup_iff.2 (st.nodup_entries.sublist (List.filter_sublist.map Prod.fst))
    exact nodup.sublist (List.filter_sublist.map Prod.fst)

theorem Store.lists_setOf (st : Store) (n : NodeId) (g : Word) : st.lists (st.setOf n g) :=
  ⟨fun _ inside => (Store.mem_setOf.1 inside).1.1, st.nodup_setOf n g⟩

theorem Store.lists.tail {s : State} {e : Entry} {es : List Entry} (h : s.store.lists (e :: es)) :
    (s.removeRecord e.1).store.lists es := by
  obtain ⟨held, nodup⟩ := h
  obtain ⟨fresh, nodup'⟩ := List.nodup_cons.1 (List.map_cons ▸ nodup)
  refine ⟨fun x inside => ?_, nodup'⟩
  have other : x.1 ≠ e.1 := fun same => fresh (by rw [← same]; exact List.mem_map_of_mem inside)
  rw [State.dir_removeRecord, if_neg other]
  exact held x (List.mem_cons_of_mem e inside)

section
variable (s : State)

theorem State.removeRecords_cons (i : Slot) (slots : List Slot) :
    s.removeRecords (i :: slots) = (s.removeRecord i).removeRecords slots := rfl

/-- R66: the slots named are freed, and no other. -/
theorem State.dir_removeRecords (slots : List Slot) (j : Slot) :
    (s.removeRecords slots).store.dir[j] = if j ∈ slots then none else s.store.dir[j] := by
  induction slots generalizing s with
  | nil => rfl
  | cons i slots ih =>
    rw [State.removeRecords_cons, ih, State.dir_removeRecord]
    by_cases same : j = i <;> by_cases later : j ∈ slots <;> simp [same, later]

/-- R66: the blocks go back in the order of the records and of their block lists. -/
theorem State.freeList_removeRecords {es : List Entry} (h : s.store.lists es) :
    (s.removeRecords (es.map Prod.fst)).store.freeList = s.store.freeList ++ es.flatMap fun e => e.2.blocks := by
  induction es generalizing s with
  | nil => simp [State.removeRecords]
  | cons e es ih =>
    rw [List.map_cons, State.removeRecords_cons, ih _ h.tail,
      (State.removeRecord_spec (h.held e (List.mem_cons_self ..))).1]
    simp

/-- R75: the cursor is cleared if it points into a record that goes. -/
theorem State.peek_removeRecords {es : List Entry} (h : s.store.lists es) :
    (s.removeRecords (es.map Prod.fst)).store.peek =
      s.store.peek.filter fun c => !(es.any fun e => decide (c.node = e.2.node) && decide (c.gen = e.2.gen)) := by
  induction es generalizing s with
  | nil =>
    simp only [State.removeRecords, List.map_nil, List.foldl_nil]
    cases s.store.peek <;> rfl
  | cons e es ih =>
    rw [List.map_cons, State.removeRecords_cons, ih _ h.tail,
      (State.removeRecord_spec (h.held e (List.mem_cons_self ..))).2, Option.filter_filter]
    congr 1
    funext c
    simp

theorem State.unopened_removeRecords (slots : List Slot) (x : NodeId) :
    ((s.removeRecords slots).node x).unopened = (s.node x).unopened := by
  induction slots generalizing s with
  | nil => rfl
  | cons i slots ih => rw [State.removeRecords_cons, ih, State.unopened_removeRecord]

/-- The removal of a record that no open record field names leaves the node records. -/
theorem State.nodes_removeRecord_of_unnamed {i : Slot} (unnamed : ∀ n, (s.node n).openRec ≠ some i) :
    (s.removeRecord i).nodes = s.nodes := by
  refine PerNode.ext_get fun x => ?_
  show (s.removeRecord i).node x = s.node x
  cases held : s.store.dir[i] with
  | none => rw [State.removeRecord_of_none held]
  | some r =>
    rw [State.node_removeRecord held, if_neg (unnamed x)]
    split <;> rfl

theorem State.nodes_removeRecords_of_unnamed {slots : List Slot} (unnamed : ∀ i ∈ slots, ∀ n, (s.node n).openRec ≠ some i) :
    (s.removeRecords slots).nodes = s.nodes := by
  induction slots generalizing s with
  | nil => rfl
  | cons i slots ih =>
    have one := s.nodes_removeRecord_of_unnamed (unnamed i (List.mem_cons_self ..))
    rw [State.removeRecords_cons, ih, one]
    intro j later n
    rw [State.node, one]
    exact unnamed j (List.mem_cons_of_mem i later) n

theorem State.committed_removeRecords {slots : List Slot} {n : NodeId}
    (others : ∀ i ∈ slots, ∀ r, s.store.dir[i] = some r → r.committedOf n = false) :
    (s.removeRecords slots).store.committed n = s.store.committed n := by
  refine Store.committed_congr fun j => ?_
  rw [State.dir_removeRecords]
  split
  · next gone =>
    cases held : s.store.dir[j] with
    | none => rfl
    | some r => simp [Option.filter, others j gone r held]
  · rfl

end

/-! ### The store at a reset -/

/-- The records of a node depend on its entries alone. -/
theorem Store.recordsOf_congr {st new : Store} {n : NodeId}
    (h : ∀ i : Slot, (new.dir[i]).filter (fun r => r.node = n) = (st.dir[i]).filter fun r => r.node = n) :
    new.recordsOf n = st.recordsOf n := by
  rw [Store.recordsOf, Store.recordsOf, Store.filter_entries new fun r => r.node = n, Store.filter_entries st fun r => r.node = n]
  simp only [h]

theorem Store.mem_recordsOf {st : Store} {n : NodeId} {e : Entry} :
    e ∈ st.recordsOf n ↔ st.dir[e.1] = some e.2 ∧ e.2.node = n := by
  rw [Store.recordsOf, (byGeneration_perm _).mem_iff, List.mem_filter, Store.mem_entries]
  simp

/-- R78: the record goes at a reset that keeps the committed records of these nodes. -/
def Record.goes (keep : NodeId → Bool) (r : Record) : Bool := !(keep r.node && r.isCommitted)

section
variable (s : State) (keep : NodeId → Bool)

/-- R78: the records of node n that go. -/
def Store.dropped (st : Store) (n : NodeId) : List Entry := (st.recordsOf n).filter fun e => e.2.goes keep

theorem Store.lists_dropped (st : Store) (n : NodeId) : st.lists (st.dropped keep n) := st.lists_filter_recordsOf n _

theorem State.dropForReset_eq (n : NodeId) :
    s.dropForReset keep n = s.removeRecords ((s.store.dropped keep n).map Prod.fst) := by
  rw [State.dropForReset, Store.dropped]
  congr 2
  refine List.filter_congr fun e inside => ?_
  rw [Record.goes, (Store.mem_recordsOf.1 inside).2]

theorem State.dir_dropForReset (n : NodeId) (j : Slot) :
    (s.dropForReset keep n).store.dir[j] = (s.store.dir[j]).filter fun r => !(decide (r.node = n) && r.goes keep) := by
  rw [State.dropForReset_eq, State.dir_removeRecords]
  cases held : s.store.dir[j] with
  | none => split <;> rfl
  | some r =>
    have gone : j ∈ (s.store.dropped keep n).map Prod.fst ↔ r.node = n ∧ r.goes keep = true := by
      constructor
      · intro inside
        obtain ⟨⟨i, q⟩, dropped, rfl⟩ := List.mem_map.1 inside
        obtain ⟨listed, goes⟩ := List.mem_filter.1 dropped
        obtain ⟨at_i, own⟩ := Store.mem_recordsOf.1 listed
        rw [held] at at_i
        cases at_i
        exact ⟨own, goes⟩
      · rintro ⟨own, goes⟩
        exact List.mem_map.2 ⟨(j, r), List.mem_filter.2 ⟨Store.mem_recordsOf.2 ⟨held, own⟩, goes⟩, rfl⟩
    by_cases goes : r.node = n ∧ r.goes keep = true
    · rw [if_pos (gone.2 goes)]
      simp [Option.filter, goes]
    · rw [if_neg fun inside => goes (gone.1 inside)]
      have stays : (!(decide (r.node = n) && r.goes keep)) = true := by
        by_contra gone
        exact goes (by simpa using gone)
      rw [Option.filter_some, if_pos stays]

/-- R78: the removals, node by node. -/
theorem State.foldl_dropForReset {ns : List NodeId} (nodup : ns.Nodup) :
    (∀ j : Slot, (ns.foldl (fun t n => t.dropForReset keep n) s).store.dir[j]
        = (s.store.dir[j]).filter fun r => !(decide (r.node ∈ ns) && r.goes keep))
      ∧ (ns.foldl (fun t n => t.dropForReset keep n) s).store.freeList
        = s.store.freeList ++ ns.flatMap fun n => (s.store.dropped keep n).flatMap fun e => e.2.blocks := by
  induction ns generalizing s with
  | nil =>
    refine ⟨fun j => ?_, by simp⟩
    rw [List.foldl_nil]
    cases s.store.dir[j] <;> rfl
  | cons n ns ih =>
    obtain ⟨fresh, nodup'⟩ := List.nodup_cons.1 nodup
    obtain ⟨dir, freeList⟩ := ih (s.dropForReset keep n) nodup'
    refine ⟨fun j => ?_, ?_⟩
    · rw [List.foldl_cons, dir, State.dir_dropForReset, Option.filter_filter]
      congr 1
      funext r
      cases r.goes keep <;> simp
    · have later (m : NodeId) (inside : m ∈ ns) : (s.dropForReset keep n).store.dropped keep m = s.store.dropped keep m := by
        rw [Store.dropped, Store.dropped, Store.recordsOf_congr fun i => ?_]
        rw [State.dir_dropForReset, Option.filter_filter]
        congr 1
        funext r
        by_cases own : r.node = m
        · have other : r.node ≠ n := fun same => fresh (same ▸ own ▸ inside)
          simp [own, own ▸ other]
        · simp [own]
      rw [List.foldl_cons, freeList, State.dropForReset_eq, State.freeList_removeRecords _ (s.store.lists_dropped keep n),
        ← State.dropForReset_eq, List.flatMap_cons, List.append_assoc]
      refine congrArg _ (congrArg _ (List.flatMap_congr fun m inside => ?_))
      rw [later m inside]

/-- R78: the directory after a reset. -/
theorem State.dir_storeReset (j : Slot) :
    (s.storeReset keep).store.dir[j] =
      ((s.store.dir[j]).filter fun r => keep r.node && r.isCommitted).map fun r => { r with pinned := false } := by
  have kept := (s.foldl_dropForReset keep (ns := NodeId.all) (by decide)).1 j
  rw [State.storeReset]
  simp only [State.setStore_store]
  rw [Store.dir_markPins, kept]
  have all (r : Record) : (!(decide (r.node ∈ NodeId.all) && r.goes keep)) = (keep r.node && r.isCommitted) := by
    have member : r.node ∈ NodeId.all := by cases r.node <;> decide
    simp [member, Record.goes]
  simp only [all]
  rfl

/-- R78: the free list after a reset. -/
theorem State.freeList_storeReset :
    (s.storeReset keep).store.freeList =
      s.store.freeList ++ NodeId.all.flatMap fun n => (s.store.dropped keep n).flatMap fun e => e.2.blocks := by
  have kept := (s.foldl_dropForReset keep (ns := NodeId.all) (by decide)).2
  rw [State.storeReset, ← kept]
  simp only [State.setStore_store, Store.markPins]

end

/-- R78: the records of a node that go where a test of the record says so. -/
theorem Store.dropped_eq (st : Store) {keep : NodeId → Bool} {kept : Record → Bool}
    (same : ∀ r, kept r = (keep r.node && r.isCommitted)) (n : NodeId) :
    st.dropped keep n = (st.recordsOf n).filter fun e => !kept e.2 := by
  rw [Store.dropped]
  congr 1
  funext e
  rw [Record.goes, same]

/-- What a reset keeps and gives back, where a test of the record says what is kept. -/
theorem State.storeReset_spec (s : State) {keep : NodeId → Bool} {kept : Record → Bool}
    (same : ∀ r, kept r = (keep r.node && r.isCommitted)) :
    (∀ i : Slot, (s.storeReset keep).store.dir[i] = ((s.store.dir[i]).filter kept).map fun r => { r with pinned := false })
      ∧ (s.storeReset keep).store.freeList = s.store.freeList ++ (NodeId.all.flatMap fun n =>
          ((s.store.recordsOf n).filter fun e => !kept e.2).flatMap fun e => e.2.blocks) := by
  refine ⟨fun i => ?_, ?_⟩
  · rw [State.dir_storeReset, funext same]
  · rw [State.freeList_storeReset]
    simp only [Store.dropped_eq s.store same]

/-- Settles O5: with the supply, the store reset under the plan that is loaded, between the load and the reset of the blocks. -/
theorem pinResetKeepsCommittedRecords : Obligations.PinResetKeepsCommittedRecords := by
  intro s
  refine ⟨fun powered => ?_, fun powered => ⟨_, exec_pinReset_of_powered powered, ?_⟩⟩
  · show Host.Outcome.next (State.whenPowered { s with resetAsserted := false } State.pinReset) = _
    simp [State.whenPowered, powered]
  · let u := { s with resetAsserted := false }.pinReset
    have loads : u.loads s.array.load := State.pinReset_loads { s with resetAsserted := false }
    intro kept
    have same (r : Record) : kept r = (s.active.keeps s.array.load.1.plan r.node && r.isCommitted) := by
      simp only [kept, Plan.keeps, loads.active, u]
      rw [Bool.and_comm (_ && _) r.isCommitted, Bool.and_assoc]
    let loaded : State := { s with resetAsserted := false, saving := none }.loadImage s.array.load.1
    have store : u.store = (loaded.storeReset (s.active.keeps s.array.load.1.plan)).store := rfl
    obtain ⟨dir, freeList⟩ := loaded.storeReset_spec same
    have before : loaded.store = s.store := by simp [loaded]
    rw [before] at freeList
    refine ⟨fun i => ?_, ?_, ?_, ?_, ?_, by simp, State.fresh_resetBlocks _ rfl, State.port_pinReset _ _, ?_, by simp,
      by simpa using powered, by simp⟩
    · have at_i := dir i
      rw [before] at at_i
      exact (congrArg (fun st : Store => st.dir[i]) store).trans at_i
    · exact (congrArg Store.freeList store).trans freeList
    · exact (congrArg Store.pool store).trans (by simp [before])
    · exact (congrArg Store.gens store).trans (by simp [before])
    · exact congrArg Store.peek store
    · simp [State.pinReset]

/-- A REPLY on link 0 is no part of what a reset leaves alike. -/
theorem State.fresh.reply {s : State} (h : s.fresh) {k : Kind} {r : Result} {b : Body} : (s.reply .supervisor k r b).fresh := by
  obtain ⟨nodes, rest⟩ := h
  refine ⟨fun n => ?_, by simpa using rest⟩
  have plan : (s.reply .supervisor k r b).nodePlan n = s.nodePlan n := by simp [State.nodePlan]
  rw [State.node_reply, nodes n, State.present, State.present, plan]

/-- Settles O6: the same reset of the store and of the blocks, under the plans that stand, and the REPLY after it. -/
theorem resyncKeepsPlansAndRecords : Obligations.ResyncKeepsPlansAndRecords := by
  intro p s passes
  obtain ⟨u, reset⟩ : ∃ u, u = (s.storeReset fun _ => true).resetBlocks false := ⟨_, rfl⟩
  have replied : s.resyncTaken = u.reply .supervisor .resync .ok := by rw [reset]; rfl
  have fresh : u.fresh := reset ▸ State.fresh_resetBlocks false rfl
  have level : u.resetAsserted = false := by simpa [reset] using passes.1.2
  obtain ⟨dir, freeList⟩ := s.storeReset_spec (keep := fun _ => true) (kept := Record.isCommitted) fun r => by simp
  have store : s.resyncTaken.store = (s.storeReset fun _ => true).store := by
    rw [replied, State.store_reply, reset]; simp
  refine ⟨_, exec_resync_of_passes passes, ?_, by simp [State.sameSetup], fun k => ?_, ?_, ?_, fun i => ?_, ?_, ?_, ?_⟩
  · rw [replied]
    exact fresh.reply
  · have monitor : s.resyncTaken.monitor = u.monitor := by rw [replied]; simp
    rw [monitor, reset, State.monitor_resetBlocks]
    simp [MonChannel.cleared]
  · simp [replied, reset, State.resetBlocks, Alerts.afterReset]
  · rw [replied, State.port_reply_self _ _ _ _ _ level]
    simp [reset]
    rfl
  · exact (congrArg (fun st : Store => st.dir[i]) store).trans (dir i)
  · rw [store, freeList]
  · rw [store]
    simp
  · rw [store]
    simp

end Sys2Proof.Machine

/-! PROOF. The choice of a reclaim, the BLOCK that finds the free list empty (R60, R70, R71, R84), and the end of the commit verification
pass (R87 to R89, R65). -/

namespace Sys2Proof.Machine

/-! ### The first of the largest -/

/-- The first of the entries whose key is the largest. -/
def firstLargest {α : Type} (key : α → Nat) (best : Option α) (e : α) : Option α :=
  match best with
  | none => some e
  | some b => if key b < key e then some e else some b

/-- The entry chosen from a list stands before every other of its key. -/
theorem foldl_firstLargest_spec {α : Type} (key : α → Nat) (l : List α) :
    (l.foldl (firstLargest key) none = none ↔ l = [])
      ∧ ∀ f, l.foldl (firstLargest key) none = some f →
          ∃ before after, l = before ++ f :: after ∧ (∀ e ∈ before, key e < key f) ∧ ∀ e ∈ after, key e ≤ key f := by
  induction l using List.reverseRecOn with
  | nil => simp
  | append_singleton l x ih =>
    rw [List.foldl_append, List.foldl_cons, List.foldl_nil]
    cases chosen : l.foldl (firstLargest key) none with
    | none =>
      obtain rfl := ih.1.1 chosen
      refine ⟨by simp [firstLargest], fun f is => ⟨[], [], ?_, by simp, by simp⟩⟩
      obtain rfl : x = f := by simpa [firstLargest] using is
      rfl
    | some b =>
      obtain ⟨before, after, rfl, less, atMost⟩ := ih.2 b chosen
      by_cases larger : key b < key x
      · refine ⟨by simp [firstLargest, larger], fun f is => ?_⟩
        obtain rfl : x = f := by simpa [firstLargest, larger] using is
        refine ⟨before ++ b :: after, [], rfl, fun e inside => ?_, by simp⟩
        obtain first | rfl | later := by simpa using inside
        · exact (less e first).trans larger
        · exact larger
        · exact (atMost e later).trans_lt larger
      · refine ⟨by simp [firstLargest, larger], fun f is => ?_⟩
        obtain rfl : b = f := by simpa [firstLargest, larger] using is
        refine ⟨before, after ++ [x], by simp, less, fun e inside => ?_⟩
        obtain later | rfl := by simpa using inside
        · exact atMost e later
        · exact Nat.not_lt.1 larger

/-! ### The candidates of a reclaim -/

section
variable (s : State)

theorem State.reclaimChoice_eq : s.reclaimChoice = s.store.candidates.foldl (firstLargest fun e => s.age e.2.time) none := by
  have step : s.olderCandidate = firstLargest fun e => s.age e.2.time := by
    funext best e
    cases best <;> rfl
  rw [State.reclaimChoice, step]

/-- R70: the order of two candidates that tie. -/
def Entry.precedes (f e : Entry) : Prop :=
  f.2.node.num < e.2.node.num ∨ (f.2.node = e.2.node ∧ f.2.gen.toNat ≤ e.2.gen.toNat)

theorem byGeneration_pairwise (l : List Entry) : (byGeneration l).Pairwise fun a b => a.2.gen.toNat ≤ b.2.gen.toNat := by
  let byGen (x y : Entry) : Prop := x.2.gen.toNat ≤ y.2.gen.toNat
  have trans : IsTrans Entry byGen := ⟨fun _ _ _ => Nat.le_trans⟩
  have total : Std.Total byGen := ⟨fun x y => Nat.le_total x.2.gen.toNat y.2.gen.toNat⟩
  exact List.pairwise_insertionSort byGen l

theorem Store.committed_pairwise (st : Store) (n : NodeId) :
    (st.committed n).Pairwise fun a b => a.2.gen.toNat ≤ b.2.gen.toNat :=
  (byGeneration_pairwise _).sublist List.filter_sublist

theorem Store.olderFulls_sublist (st : Store) (n : NodeId) : (st.olderFulls n).Sublist (st.committed n) :=
  (List.dropLast_sublist _).trans List.filter_sublist

theorem Store.node_of_olderFulls {st : Store} {n : NodeId} {e : Entry} (h : e ∈ st.olderFulls n) : e.2.node = n :=
  (Store.mem_committed.1 ((st.olderFulls_sublist n).subset h)).2.1

theorem Store.mem_candidates {st : Store} {e : Entry} :
    e ∈ st.candidates ↔ ∃ n, e ∈ st.olderFulls n ∧ ∀ x ∈ st.setOf n e.2.gen, x.2.pinned = false := by
  have all (n : NodeId) : n ∈ NodeId.all := by cases n <;> decide
  simp [Store.candidates, all]

/-- R70: the candidates stand in the order of node number and then generation. -/
theorem Store.candidates_pairwise (st : Store) : st.candidates.Pairwise Entry.precedes := by
  unfold Store.candidates
  have numbers : NodeId.all.Pairwise fun a b => a.num < b.num := by decide
  rw [List.pairwise_flatMap]
  refine ⟨fun n _ => ?_, numbers.imp fun {a b} less x inA y inB => .inl ?_⟩
  · have sorted := ((st.committed_pairwise n).sublist (st.olderFulls_sublist n)).filter fun f =>
      (st.setOf n f.2.gen).all fun e => !e.2.pinned
    refine sorted.imp_of_mem fun {x y} inX inY le => .inr ⟨?_, le⟩
    rw [Store.node_of_olderFulls (List.mem_filter.1 inX).1, Store.node_of_olderFulls (List.mem_filter.1 inY).1]
  · rwa [Store.node_of_olderFulls (List.mem_filter.1 inA).1, Store.node_of_olderFulls (List.mem_filter.1 inB).1]

theorem State.reclaimChoice_eq_none : s.reclaimChoice = none ↔ s.store.candidates = [] := by
  rw [State.reclaimChoice_eq]
  exact (foldl_firstLargest_spec _ _).1

/-- R70: the candidate chosen is the oldest, and the first of those that tie. -/
theorem State.reclaimChoice_spec {f : Entry} (h : s.reclaimChoice = some f) :
    f ∈ s.store.candidates ∧ ∀ e ∈ s.store.candidates, s.age e.2.time ≤ s.age f.2.time
      ∧ (e.2.time = f.2.time → f.precedes e) := by
  rw [State.reclaimChoice_eq] at h
  obtain ⟨before, after, split, less, atMost⟩ := (foldl_firstLargest_spec _ _).2 f h
  have ordered := s.store.candidates_pairwise
  rw [split] at ordered ⊢
  obtain ⟨_, later, _⟩ := List.pairwise_append.1 ordered
  refine ⟨by simp, fun e inside => ?_⟩
  obtain first | rfl | last := by simpa using inside
  · exact ⟨(less e first).le, fun same => absurd (congrArg s.age same) (less e first).ne⟩
  · exact ⟨le_rfl, fun _ => .inr ⟨rfl, le_rfl⟩⟩
  · exact ⟨atMost e last, fun _ => (List.pairwise_cons.1 later).1 e last⟩

end

/-! ### The reclaim -/

/-- R71: the set that the reclaim of candidate f removes. -/
def Store.chosen (st : Store) (f : Entry) : List Entry := st.setOf f.2.node f.2.gen

section
variable {s : State} {i : Slot} {r : Record} {p : List Byte} {count : Nat}

theorem State.allocate_of_none (empty : s.store.freeList = []) (none : s.reclaimChoice = none) (ws : List Word) :
    s.allocate i ws = (s.raise .poolFull, false) := by
  simp [State.allocate, empty, none]

theorem State.allocate_of_choice {f : Entry} (empty : s.store.freeList = []) (chosen : s.reclaimChoice = some f)
    (ws : List Word) :
    s.allocate i ws = ((s.reclaim f).setStore ((s.reclaim f).store.takeHead i ws), true) := by
  simp [State.allocate, empty, chosen]

/-- R66, R71: what a reclaim leaves of the store, and of the record in slot i, which is not committed. -/
theorem State.reclaim_spec {f : Entry} (held : s.store.dir[i] = some r) (uncommitted : r.isCommitted = false) :
    (∀ e ∈ s.store.chosen f, (s.reclaim f).store.dir[e.1] = none ∧ e.1 ≠ i)
      ∧ (s.reclaim f).store.dir[i] = some r
      ∧ (∀ j : Slot, (∀ e ∈ s.store.chosen f, e.1 ≠ j) → (s.reclaim f).store.dir[j] = s.store.dir[j])
      ∧ (s.reclaim f).store.freeList = s.store.freeList ++ ((s.store.chosen f).flatMap fun e => e.2.blocks)
      ∧ (s.reclaim f).store.peek = s.store.peek.filter fun c =>
          !((s.store.chosen f).any fun e => decide (c.node = e.2.node) && decide (c.gen = e.2.gen)) := by
  have lists : s.store.lists (s.store.chosen f) := s.store.lists_setOf _ _
  have store : (s.reclaim f).store = (s.removeRecords ((s.store.chosen f).map Prod.fst)).store := by
    simp [State.reclaim, Store.chosen]
  have other : ∀ e ∈ s.store.chosen f, e.1 ≠ i := fun e inside same => by
    obtain ⟨⟨at_e, _, committed⟩, _⟩ := Store.mem_setOf.1 inside
    subst same
    rw [held] at at_e
    cases at_e
    rw [uncommitted] at committed
    cases committed
  have kept (j : Slot) (outside : ∀ e ∈ s.store.chosen f, e.1 ≠ j) : (s.reclaim f).store.dir[j] = s.store.dir[j] := by
    rw [store, State.dir_removeRecords, if_neg]
    rintro inside
    obtain ⟨e, listed, rfl⟩ := List.mem_map.1 inside
    exact outside e listed rfl
  refine ⟨fun e inside => ⟨?_, other e inside⟩, by rw [kept i other, held], kept, ?_, ?_⟩
  · rw [store, State.dir_removeRecords, if_pos (List.mem_map_of_mem inside)]
  · rw [store, State.freeList_removeRecords _ lists]
  · rw [store, State.peek_removeRecords _ lists]

theorem State.unopened_reclaim (f : Entry) (m : NodeId) : ((s.reclaim f).node m).unopened = (s.node m).unopened := by
  rw [State.reclaim, show ∀ t : State, (t.raise .reclaim).node m = t.node m from fun _ => rfl, State.unopened_removeRecords]

/-- R67: no open record field names a committed record, so a reclaim leaves the node records. -/
theorem State.nodes_reclaim (law : s.uploadLaw) (f : Entry) : (s.reclaim f).nodes = s.nodes := by
  refine s.nodes_removeRecords_of_unnamed fun j inside n names => ?_
  obtain ⟨e, listed, rfl⟩ := List.mem_map.1 inside
  obtain ⟨⟨at_e, _, committed⟩, _⟩ := Store.mem_setOf.1 listed
  obtain ⟨_, q, held, _, uncommitted⟩ := law.1 n e.1 names
  rw [at_e] at held
  cases held
  rw [uncommitted] at committed
  cases committed

end

/-- A node record of which only the open record field has changed. -/
theorem NodeRec.reopened {r q : NodeRec} (h : r.unopened = q.unopened) : { r with openRec := q.openRec } = q :=
  congrArg (fun x : NodeRec => { x with openRec := q.openRec }) h

/-- Settles O37: with no candidate the BLOCK fails; with one, the set goes and its first block is taken. -/
theorem emptyFreeListReclaimsOrFails : Obligations.EmptyFreeListReclaimsOrFails := by
  refine ⟨fun n p i r s passes inService names held opened more next length empty => ?_, fun s => ?_⟩
  · have entry := State.openEntry_of_opened inService names held opened
    have checked := State.blockTaken_of_checked entry more next length
    have uncommitted : r.isCommitted = false := by simp [Record.isCommitted, opened]
    rw [exec_of_passes rfl passes]
    refine ⟨fun none => ?_, fun f b rest choice => ?_⟩
    · rw [State.allocate_of_none empty none, if_neg (by simp)] at checked
      have noneFree : (s.raise .poolFull).store.freeList.length = 0 := by simp [empty]
      rw [noneFree] at checked
      refine ⟨_, congrArg _ checked, by simp, ?_, fun a other => ?_, ?_, State.eq_of_fields⟩
      · rw [State.flag_of_alerts (s := s.raise .poolFull) (by simp), State.flag_raise_self]
      · rw [State.flag_of_alerts (s := s.raise .poolFull) (by simp), State.flag_raise]
        simp [other.symm]
      · exact State.sends_reply_after (.node n) .block .poolFull _
    · intro chosen blocks
      obtain ⟨gone, kept, others, freeList, peek⟩ := State.reclaim_spec (f := f) held uncommitted
      have free : (s.reclaim f).store.freeList = b :: rest := by rw [freeList, empty, List.nil_append]; exact blocks
      obtain ⟨freeList', dir, others', pool, gens, peek'⟩ := Store.takeHead_spec free kept p (octetAt p 1)
      rw [State.allocate_of_choice empty choice, if_pos rfl, State.setStore_store, freeList'] at checked
      refine ⟨_, congrArg _ checked, ?_⟩
      rw [State.store_reply, State.setStore_store]
      have alerts (a : Alert) : (((s.reclaim f).setStore ((s.reclaim f).store.takeHead i (fieldWords p 2 (octetAt p 1)))).reply (.node n)
          .block .ok (.progress r.gen (octetAt p 0) (r.received + octetAt p 1) rest.length)).flag a = (s.flag a || decide (.reclaim = a)) := by
        rw [State.flag_of_alerts (s := s.reclaim f) (by simp), State.reclaim, State.flag_raise,
          State.flag_of_alerts (s := s) (by simp)]
      refine ⟨fun e inside => ?_, dir, fun j other outside => ?_, fun wf => ?_, ?_, freeList', ?_, ?_, fun a other => ?_, ?_,
        fun m => ?_, fun law => ?_, State.eq_of_fields⟩
      · rw [others' e.1 (gone e inside).2, (gone e inside).1]
      · rw [others' j other, others j outside]
      · have same : (s.reclaim f).store.pool = s.store.pool := by simp
        rw [← same] at wf
        rw [← same]
        exact pool wf
      · rw [peek', peek]
        rfl
      · rw [gens]
        simp
      · rw [alerts]
        simp
      · rw [alerts]
        simp [other.symm]
      · exact State.sends_reply_after (.node n) .block .ok _
      · simpa using NodeRec.reopened (State.unopened_reclaim (s := s) f m)
      · simpa using State.nodes_reclaim law f
  · exact ⟨s.reclaimChoice_eq_none, fun f choice => s.reclaimChoice_spec choice, fun e => Store.mem_candidates⟩

end Sys2Proof.Machine

/-! PROOF. The end of the commit verification pass (R65, R87 to R89). -/

namespace Sys2Proof.Machine

/-! ### What either result leaves -/

/-- State u is s with the pass of node n ended and its link free, before the REPLY. -/
structure State.passEnded (s u : State) (n : NodeId) : Prop where
  openRec : (u.node n).openRec = none
  port : u.port (.node n) = { s.port (.node n) with inProgress := none }
  ports : ∀ l, l ≠ .node n → u.port l = s.port l
  pool : u.store.pool = s.store.pool
  gens : u.store.gens = s.store.gens
  groups : u.groups = s.groups
  queue : u.queue = s.queue
  channels : u.channels = s.channels
  exchanges : u.exchanges = s.exchanges
  monitor : u.monitor = s.monitor
  alerts : u.alerts = s.alerts
  setup : s.sameSetup u
  nodes : ∀ m, (u.node m).unopened = (s.node m).unopened

/-- R89: the record is discarded. -/
def State.passFails (s : State) (n : NodeId) (i : Slot) : State := (s.removeRecord i).endRequest (.node n)

/-- R88: the record is committed. -/
def State.passHolds (s : State) (n : NodeId) (i : Slot) (check : Word) : State := (s.commitRecord n i check).endRequest (.node n)

section
variable {s : State} {n : NodeId} {i : Slot} {r : Record}

theorem State.passEnded_passFails (names : (s.node n).openRec = some i) (held : s.store.dir[i] = some r) (own : r.node = n) :
    s.passEnded (s.passFails n i) n := by
  have node (m : NodeId) : (s.passFails n i).node m = (s.removeRecord i).node m := by simp [State.passFails]
  refine ⟨?_, by simp [State.passFails], fun l other => by simp [State.passFails, other], by simp [State.passFails],
    by simp [State.passFails], by simp [State.passFails], by simp [State.passFails], by simp [State.passFails],
    by simp [State.passFails], by simp [State.passFails], by simp [State.passFails], by simp [State.passFails, State.sameSetup],
    fun m => ?_⟩
  · rw [node, State.node_removeRecord held, if_pos own.symm, if_pos names]
  · rw [node, State.unopened_removeRecord]

/-- A removal of records leaves an open record field that names none. -/
theorem State.openRec_removeRecords (s : State) {m : NodeId} (closed : (s.node m).openRec = none) (slots : List Slot) :
    ((s.removeRecords slots).node m).openRec = none := by
  induction slots generalizing s with
  | nil => exact closed
  | cons j slots ih =>
    refine ih (s.removeRecord j) ?_
    cases held : s.store.dir[j] with
    | none => rwa [State.removeRecord_of_none held]
    | some r =>
      rw [State.node_removeRecord held]
      split
      · simp [closed]
      · exact closed

theorem State.openRec_trim (s : State) {m : NodeId} (closed : (s.node m).openRec = none) (n : NodeId) :
    ((s.trim n).node m).openRec = none := by
  unfold State.trim
  repeat' split
  exacts [s.openRec_removeRecords closed _, closed, closed]

theorem State.unopened_trim (s : State) (n m : NodeId) : ((s.trim n).node m).unopened = (s.node m).unopened := by
  unfold State.trim
  repeat' split
  exacts [s.unopened_removeRecords _ m, rfl, rfl]

theorem State.passEnded_passHolds (check : Word) : s.passEnded (s.passHolds n i check) n := by
  have node (m : NodeId) : (s.passHolds n i check).node m = (s.commitRecord n i check).node m := by simp [State.passHolds]
  refine ⟨?_, by simp [State.passHolds], fun l other => by simp [State.passHolds, other], by simp [State.passHolds],
    by simp [State.passHolds], by simp [State.passHolds], by simp [State.passHolds], by simp [State.passHolds],
    by simp [State.passHolds], by simp [State.passHolds], by simp [State.passHolds], by simp [State.passHolds, State.sameSetup],
    fun m => ?_⟩
  · rw [node]
    exact State.openRec_trim _ (by simp) n
  · rw [node, State.commitRecord, State.unopened_trim, State.node_modNode]
    split
    · next same => rw [same]; simp [NodeRec.unopened]
    · simp

/-! ### The two results -/

/-- R89: the store without the record. -/
theorem State.store_passFails (held : s.store.dir[i] = some r) :
    (s.passFails n i).store.dir[i] = none ∧ (∀ j : Slot, j ≠ i → (s.passFails n i).store.dir[j] = s.store.dir[j])
      ∧ (s.passFails n i).store.freeList = s.store.freeList ++ r.blocks := by
  have store : (s.passFails n i).store = (s.removeRecord i).store := by simp [State.passFails]
  rw [store]
  refine ⟨by rw [State.dir_removeRecord, if_pos rfl], fun j other => by rw [State.dir_removeRecord, if_neg other],
    (State.removeRecord_spec held).1⟩

/-- R88: the store with the record in slot i committed, before the list is trimmed. -/
def Store.withCommitted (st : Store) (i : Slot) (r : Record) (check time : Word) : Store :=
  { st with dir := st.dir.set i (some { r with status := .committed check time }) }

/-- R65, R88: the record is committed, and a list of more than four loses its oldest set. -/
theorem State.store_passHolds (held : s.store.dir[i] = some r) (check : Word) :
    let u := s.store.withCommitted i r check s.clock.sec
    ((u.committed n).length ≤ 4 → (s.passHolds n i check).store = u)
      ∧ (4 < (u.committed n).length → ∀ f, (u.fulls n).head? = some f →
          ∀ j : Slot, (s.passHolds n i check).store.dir[j]
            = if j ∈ (u.setOf n f.2.gen).map Prod.fst then none else u.dir[j]) := by
  intro u
  let v := (s.modRecord i fun q => { q with status := .committed check s.clock.sec }).modNode n fun q => { q with openRec := none }
  have store : v.store = u := by
    simp only [v, u, State.modNode_frame, State.modRecord, State.setStore_store, held]
    rfl
  have trimmed : (s.passHolds n i check).store = (v.trim n).store := by simp [State.passHolds, State.commitRecord, v]
  rw [trimmed, State.trim, store, Config.maxCommitted]
  refine ⟨fun few => ?_, fun many f oldest j => ?_⟩
  · rw [if_neg (Nat.not_lt.2 few), store]
  · rw [if_pos many]
    simp only [oldest]
    rw [State.dir_removeRecords, store]

/-! ### The completion as a command -/

theorem exec_commitPassComplete {expected : Word} {seen : SeenWords} (powered : s.powered = true)
    (names : (s.node n).openRec = some i) (held : s.store.dir[i] = some r) (status : r.status = .verifying expected seen) :
    exec (.commitPassComplete n) s = .next (s.passDone n i r expected seen) := by
  refine (exec_of_powered (c := .commitPassComplete n) rfl powered).trans (congrArg Host.Outcome.next ?_)
  simp only [State.passEnds, names, held, status]

end

/-- Settles O39: the words read decide; either result frees the link and is answered. -/
theorem passCommitsOrDiscards : Obligations.PassCommitsOrDiscards := by
  intro n i r expected seen s powered names held status own ws removed
  have taken := exec_commitPassComplete powered names held status
  have fails := State.passEnded_passFails names held own
  have holds : s.passEnded (s.passHolds n i expected) n := State.passEnded_passHolds expected
  obtain ⟨u, ended, res, body, done⟩ : ∃ u, s.passEnded u n ∧ ∃ res body,
      s.passDone n i r expected seen = u.reply (.node n) .commit res body := by
    unfold State.passDone
    dsimp only
    repeat' split
    exacts [⟨_, fails, _, _, rfl⟩, ⟨_, holds, _, _, rfl⟩, ⟨_, fails, _, _, rfl⟩]
  have level (u : State) (h : s.passEnded u n) : u.resetAsserted = s.resetAsserted := h.setup.2.2.2.2.2.1
  have sent (u : State) (h : s.passEnded u n) (res : Result) (body : Body) :
      ((u.reply (.node n) .commit res body).port (.node n)).sent
        = (s.port (.node n)).sent ++ (if s.resetAsserted then [] else [.reply 0x1A#8 res body]) := by
    rw [(u.sends_reply _ _ _ _).1, h.port, level u h]
    rfl
  refine ⟨_, taken, ?_⟩
  refine ⟨?_, ?_, fun l other => ?_, ?_, ?_, ?_, ?_, ?_, ?_, ?_, ?_, ?_, fun m => ?_, fun o damaged => ?_, fun sound mismatch => ?_,
    fun sound equal => ?_⟩
  · simpa [done] using ended.openRec
  · simp [done, ended.port]
  · simpa [done, other] using ended.ports l other
  · simpa [done] using ended.pool
  · simpa [done] using ended.gens
  · simpa [done] using ended.groups
  · simpa [done] using ended.queue
  · simpa [done] using ended.channels
  · simpa [done] using ended.exchanges
  · simpa [done] using ended.monitor
  · simpa [done] using ended.alerts
  · simpa [done, State.sameSetup] using ended.setup
  · simpa [done] using NodeRec.reopened (ended.nodes m)
  · have result : s.passDone n i r expected seen = (s.passFails n i).reply (.node n) .commit .storeError (.damagedWord r.gen o) := by
      simp only [State.passDone, ws] at damaged ⊢
      rw [damaged]
      rfl
    rw [result]
    refine ⟨?_, sent _ fails _ _⟩
    simp only [removed, State.store_reply]
    exact State.store_passFails held
  · have result : s.passDone n i r expected seen
        = (s.passFails n i).reply (.node n) .commit .checkMismatch (.mismatch r.gen (sumRead ws)) := by
      simp only [State.passDone, ws] at sound mismatch ⊢
      rw [sound]
      exact if_neg mismatch
    rw [result]
    refine ⟨?_, sent _ fails _ _⟩
    simp only [removed, State.store_reply]
    exact State.store_passFails held
  · have result : s.passDone n i r expected seen = (s.passHolds n i expected).reply (.node n) .commit .ok
        (.committed r.gen s.clock.sec ((s.passHolds n i expected).store.committed n).length) := by
      have clock : (s.passHolds n i expected).clock = s.clock := holds.setup.2.2.2.2.1
      simp only [State.passDone, ws] at sound equal ⊢
      rw [sound, ← clock]
      exact if_pos equal
    obtain ⟨few, many⟩ := State.store_passHolds (n := n) held expected
    rw [result, State.store_reply]
    exact ⟨few, many, sent _ holds _ _⟩

end Sys2Proof.Machine

/-! PROOF. What pins do not touch, and the arbiter where one channel has been freed or one node placed in the queue (R72, R102, R103). -/

namespace Sys2Proof.Machine

/-! ### The store without its pins -/

/-- The store with every pin mark cleared: what pins do not touch. -/
def Store.unmarked (st : Store) : Store := st.markPins (fun _ _ => true) false

theorem Store.dir_unmarked (st : Store) (i : Slot) :
    st.unmarked.dir[i] = (st.dir[i]).map fun r => { r with pinned := false } := by
  rw [Store.unmarked, Store.dir_markPins]
  simp

theorem Store.eq_of_dir {st new : Store} (dir : ∀ i : Slot, new.dir[i] = st.dir[i])
    (rest : { new with dir := st.dir } = st) : new = st := by
  have same : new.dir = st.dir := Vector.ext fun i low => dir ⟨i, low⟩
  rw [← rest, ← same]

theorem Store.unmarked_markPins (st : Store) (p : Slot → Record → Bool) (b : Bool) : (st.markPins p b).unmarked = st.unmarked := by
  refine Store.eq_of_dir (fun i => ?_) rfl
  rw [Store.dir_unmarked, Store.dir_unmarked, Store.dir_markPins, Option.map_map]
  congr 1
  funext r
  simp only [Function.comp_apply]
  split <;> rfl

section
variable {st new : Store}

theorem Store.freeList_of_unmarked (h : new.unmarked = st.unmarked) : new.freeList = st.freeList := by
  have same : new.unmarked.freeList = st.unmarked.freeList := congrArg Store.freeList h
  exact same

theorem Store.dir_none_of_unmarked (h : new.unmarked = st.unmarked) {i : Slot} (free : st.dir[i] = none) : new.dir[i] = none := by
  have same := congrArg (fun x : Store => x.dir[i]) h
  simp only [Store.dir_unmarked] at same
  rw [free] at same
  exact Option.map_eq_none_iff.1 same

/-! ### The restore set, whatever is pinned -/

/-- An entry with its pin mark cleared. -/
def Entry.unmarked (e : Entry) : Entry := (e.1, { e.2 with pinned := false })

theorem Store.entries_unmarked (st : Store) : st.unmarked.entries = st.entries.map Entry.unmarked := by
  simp only [Store.entries, Store.dir_unmarked, List.map_filterMap]
  congr 1
  funext i
  cases st.dir[i] <;> rfl

theorem byGeneration_unmarked (l : List Entry) : byGeneration (l.map Entry.unmarked) = (byGeneration l).map Entry.unmarked :=
  (List.map_insertionSort (fun x y : Entry => x.2.gen.toNat ≤ y.2.gen.toNat) (fun x y : Entry => x.2.gen.toNat ≤ y.2.gen.toNat)
    Entry.unmarked l fun _ _ _ _ => Iff.rfl).symm

theorem Store.committed_unmarked (st : Store) (n : NodeId) : st.unmarked.committed n = (st.committed n).map Entry.unmarked := by
  rw [Store.committed, Store.recordsOf, Store.entries_unmarked, List.filter_map, byGeneration_unmarked, List.filter_map]
  rfl

theorem Store.restoreSet_unmarked (st : Store) (n : NodeId) :
    st.unmarked.restoreSet n = (st.restoreSet n).map Entry.unmarked := by
  have newest : st.unmarked.newestFull n = (st.newestFull n).map Entry.unmarked := by
    rw [Store.newestFull, Store.fulls, Store.committed_unmarked, List.filter_map, List.getLast?_map]
    rfl
  rw [Store.restoreSet, newest, Store.restoreSet]
  cases st.newestFull n with
  | none => rfl
  | some f =>
    show st.unmarked.setOf n f.2.gen = _
    rw [Store.setOf, Store.committed_unmarked, List.filter_map]
    rfl

/-- The slots of a node's restore set. -/
def Store.restoreSlots (st : Store) (n : NodeId) : List Slot := (st.restoreSet n).map Prod.fst

theorem Store.restoreSlots_of_unmarked (h : new.unmarked = st.unmarked) (n : NodeId) : new.restoreSlots n = st.restoreSlots n := by
  have slots (x : Store) : x.restoreSlots n = x.unmarked.restoreSlots n := by
    rw [Store.restoreSlots, Store.restoreSlots, Store.restoreSet_unmarked, List.map_map]
    rfl
  rw [slots new, slots st, h]

theorem Store.node_of_restoreSlots {n : NodeId} {i : Slot} (listed : i ∈ st.restoreSlots n) :
    ∃ r, st.dir[i] = some r ∧ r.node = n := by
  obtain ⟨e, inside, rfl⟩ := List.mem_map.1 listed
  unfold Store.restoreSet at inside
  split at inside
  · obtain ⟨⟨held, own, _⟩, _⟩ := Store.mem_setOf.1 inside
    exact ⟨e.2, held, own⟩
  · cases inside

end

/-! ### The operations that write pins -/

section
variable (s : State)

theorem State.unmarked_pin (slots : List Slot) : (s.pin slots).store.unmarked = s.store.unmarked :=
  Store.unmarked_markPins _ _ _

theorem State.unmarked_unpin (n : NodeId) : (s.unpin n).store.unmarked = s.store.unmarked := Store.unmarked_markPins _ _ _

theorem State.unmarked_bindHead (c : ChanId) : (s.bindHead c).store.unmarked = s.store.unmarked := by
  unfold State.bindHead
  split
  · exact Store.unmarked_markPins _ _ _
  · rfl

theorem State.unmarked_arbiter : s.arbiter.store.unmarked = s.store.unmarked :=
  ((s.bindHead .c0).unmarked_bindHead .c1).trans (s.unmarked_bindHead .c0)

theorem State.unmarked_unbind (c : ChanId) : (s.unbind c).store.unmarked = s.store.unmarked := by
  unfold State.unbind
  split
  · rfl
  · rw [State.unmarked_arbiter]
    simpa using s.unmarked_unpin _

end

/-! ### The binding of the head of the queue -/

section
variable {s : State} {c : ChanId} {n : NodeId} {rest : List NodeId}

/-- R102: a channel at the beginning of a restore. -/
def Binding.begins (n : NodeId) (set : List Slot) : Binding := ⟨n, .verify, set, 0, 0, false, 0, none, []⟩

theorem State.bindHead_of_busy (busy : s.chan c ≠ none) : s.bindHead c = s := by
  unfold State.bindHead
  split
  · next idle => exact absurd idle busy
  · rfl

theorem State.bindHead_of_empty (empty : s.queue = []) : s.bindHead c = s := by
  unfold State.bindHead
  rw [empty]

theorem State.bindHead_of_head (waiting : s.queue = n :: rest) (idle : s.chan c = none) :
    s.bindHead c =
      (((s.setQueue rest).pin (s.store.restoreSlots n)).setChan c (some (.begins n (s.store.restoreSlots n)))).modNode n fun r =>
        { r with state := .restoring, channel := some c } := by
  unfold State.bindHead
  rw [waiting, idle]
  rfl

theorem State.dir_bindHead_of_head (waiting : s.queue = n :: rest) (idle : s.chan c = none) (i : Slot) :
    (s.bindHead c).store.dir[i] =
      (s.store.dir[i]).map fun r => if i ∈ s.store.restoreSlots n then { r with pinned := true } else r := by
  have store : (s.bindHead c).store = (s.pin (s.store.restoreSlots n)).store := by
    rw [State.bindHead_of_head waiting idle]; rfl
  rw [store]
  refine (Store.dir_markPins _ _ _ i).trans ?_
  simp

/-! ### The arbiter -/

theorem State.arbiter_of_busy (busy : ∀ d, s.chan d ≠ none) : s.arbiter = s := by
  rw [State.arbiter, State.bindHead_of_busy (busy .c0), State.bindHead_of_busy (busy .c1)]

/-- Where the other channel is bound, the arbiter serves this one. -/
theorem State.arbiter_of_freed (busy : ∀ d, d ≠ c → s.chan d ≠ none) : s.arbiter = s.bindHead c := by
  cases c with
  | c0 =>
    have other : (s.bindHead .c0).chan .c1 ≠ none := State.chan_bindHead_ne_none (busy .c1 (by decide))
    exact State.bindHead_of_busy other
  | c1 => rw [State.arbiter, State.bindHead_of_busy (busy .c0 (by decide))]

theorem State.arbiter_of_empty (empty : s.queue = []) : s.arbiter = s := by
  rw [State.arbiter, State.bindHead_of_empty empty, State.bindHead_of_empty empty]

/-- A node that waits alone takes channel 0 if it is idle. -/
theorem State.arbiter_of_alone (alone : s.queue = [n]) (idle : s.chan .c0 = none) : s.arbiter = s.bindHead .c0 := by
  refine State.bindHead_of_empty ?_
  rw [State.bindHead_of_head alone idle]
  rfl

end

/-! ### A channel unbinds -/

section
variable {s : State} {c : ChanId} {b : Binding}

/-- R103: the channel let go, before the arbiter runs. -/
def State.released (s : State) (c : ChanId) (n : NodeId) : State :=
  (((s.unpin n).endData n).setChan c none).modNode n fun r => { r with channel := none }

theorem State.unbind_of_bound (bound : s.chan c = some b) : s.unbind c = (s.released c b.node).arbiter := by
  rw [State.unbind, bound]
  rfl

/-- Under the law of the arbiter only the channel that unbinds can take the head of the queue. -/
theorem State.unbind_eq_bindHead (law : s.arbiterLaw) (bound : s.chan c = some b) :
    s.unbind c = (s.released c b.node).bindHead c := by
  rw [State.unbind_of_bound bound]
  have queue : (s.released c b.node).queue = s.queue := by simp [State.released]
  by_cases empty : s.queue = []
  · rw [State.arbiter_of_empty (queue.trans empty), State.bindHead_of_empty (queue.trans empty)]
  · exact State.arbiter_of_freed fun d other => by simpa [State.released, other] using law empty d

/-- R103: an exchange slot that is empty stays empty. -/
theorem State.exchange_unbind_of_empty {n : NodeId} (empty : s.exchange n = .empty) (c : ChanId) :
    (s.unbind c).exchange n = .empty := by
  unfold State.unbind
  split
  · exact empty
  · simp only [State.arbiter_frame, State.modNode_frame, State.exchange_setChan, State.endData]
    split
    · rw [State.exchange_endExchange]
      split
      exacts [rfl, empty]
    · exact empty

/-- R103: the node that was bound has no channel. -/
theorem State.schedules.channel_unbind (law : s.schedules none) (bound : s.chan c = some b) :
    ((s.unbind c).node b.node).channel = none := by
  have apart := (law.unbind bound).restoring b.node
  simpa using apart

end

end Sys2Proof.Machine

/-! PROOF. The damage of a record under restore, found by VERIFY or by a sending, and the fallback that it brings (R68, R104 to R107,
R111). -/

namespace Sys2Proof.Machine

/-! ### Frames that go to a node before the rest of a command -/

/-- State t is s after the frames `fs` have gone to node n, its exchange slots apart. -/
structure State.told (s t : State) (n : NodeId) (fs : List Frame) : Prop where
  sent : s.sends t (.node n) fs
  store : t.store = s.store := by simp
  nodes : t.nodes = s.nodes := by simp
  channels : t.channels = s.channels := by simp
  queue : t.queue = s.queue := by simp
  groups : t.groups = s.groups := by simp
  monitor : t.monitor = s.monitor := by simp
  setup : s.sameSetup t := by simp [State.sameSetup]

namespace State.told

variable {s t : State} {n : NodeId} {fs : List Frame} {x : Option NodeId}

theorem refl (s : State) (n : NodeId) : s.told s n [] := ⟨State.sends_nil _ fun _ => rfl, rfl, rfl, rfl, rfl, rfl, rfl, by simp [State.sameSetup]⟩

theorem node (h : s.told t n fs) (x : NodeId) : t.node x = s.node x := by rw [State.node, h.nodes, State.node]

theorem chan (h : s.told t n fs) (c : ChanId) : t.chan c = s.chan c := by rw [State.chan, h.channels, State.chan]

theorem active (h : s.told t n fs) : t.active = s.active := h.setup.1

theorem clock (h : s.told t n fs) : t.clock = s.clock := h.setup.2.2.2.2.1

theorem level (h : s.told t n fs) : t.resetAsserted = s.resetAsserted := h.setup.2.2.2.2.2.1

theorem schedules (h : s.told t n fs) (law : s.schedules x) : t.schedules x :=
  law.kept h.queue h.active h.groups h.clock (fun m => by rw [h.node]) (fun m => by rw [h.node]) h.channels

end State.told

/-! ### The removal of a damaged record and its successors -/

/-- What a removal leaves of the store depends on the store alone. -/
theorem State.store_removeRecords_congr {s t : State} (same : t.store = s.store) (slots : List Slot) :
    (t.removeRecords slots).store = (s.removeRecords slots).store := by
  induction slots generalizing s t with
  | nil => exact same
  | cons i slots ih =>
    refine ih ?_
    have before : t.store.dir[i] = s.store.dir[i] := congrArg (fun st : Store => st.dir[i]) same
    cases held : s.store.dir[i] with
    | none => rw [State.removeRecord_of_none held, State.removeRecord_of_none (before.trans held), same]
    | some r => rw [State.removeRecord_store held, State.removeRecord_store (before.trans held), same]

theorem State.store_discardDamaged_congr {s t : State} (same : t.store = s.store) (r : Record) :
    (t.discardDamaged r).store = (s.discardDamaged r).store := by
  rw [State.discardDamaged, same]
  exact State.store_removeRecords_congr same _

section
variable (s : State) (c : ChanId) (b : Binding) (k : Nat) (r : Record)

/-- R68: the state once the damaged record and its successors are discarded. -/
def State.damageNoted : State := (s.discardDamaged r).raise .damaged

@[simp] theorem State.damageNoted_frame :
    (s.damageNoted r).groups = s.groups ∧ (s.damageNoted r).queue = s.queue ∧ (s.damageNoted r).channels = s.channels
      ∧ (s.damageNoted r).exchanges = s.exchanges ∧ (s.damageNoted r).monitor = s.monitor
      ∧ (s.damageNoted r).active = s.active ∧ (s.damageNoted r).clock = s.clock
      ∧ (s.damageNoted r).resetAsserted = s.resetAsserted ∧ (∀ l, (s.damageNoted r).port l = s.port l)
      ∧ (∀ d, (s.damageNoted r).chan d = s.chan d) ∧ (∀ x, (s.damageNoted r).exchange x = s.exchange x)
      ∧ (∀ x, ((s.damageNoted r).node x).state = (s.node x).state)
      ∧ ∀ x, ((s.damageNoted r).node x).channel = (s.node x).channel := by
  simp [State.damageNoted]

theorem State.unopened_damageNoted (x : NodeId) : ((s.damageNoted r).node x).unopened = (s.node x).unopened :=
  s.unopened_removeRecords _ x

theorem State.dir_damageNoted {e : Entry} (goes : e ∈ s.store.discardSet r) : (s.damageNoted r).store.dir[e.1] = none := by
  refine (s.dir_removeRecords _ e.1).trans (if_pos ?_)
  exact List.mem_map_of_mem goes

/-! ### The fallback, case by case -/

theorem State.fallBack_of_delta {g : Word} (kind : r.kind = .delta g) :
    s.fallBack c b k r = (s.damageNoted r).setChan c (some (b.restartVerify (b.set.take k))) := by
  simp only [State.fallBack, kind]
  rfl

theorem State.fallBack_of_full (kind : r.kind = .full) :
    s.fallBack c b k r =
      match ((s.damageNoted r).store.restoreSet b.node).getLast? with
      | none => (s.damageNoted r).secondCold c b .damaged
      | some newest =>
        if (s.damageNoted r).youngEnough b.node newest then
          ((s.damageNoted r).pin ((s.damageNoted r).store.restoreSlots b.node)).setChan c
            (some (b.restartVerify ((s.damageNoted r).store.restoreSlots b.node)))
        else (s.damageNoted r).secondCold c b .tooOld := by
  simp only [State.fallBack, kind]
  rfl

/-- The fallback reads no more of the binding than its node and its set. -/
theorem State.fallBack_congr {b' : Binding} (node : b'.node = b.node) (set : b'.set = b.set) :
    s.fallBack c b' k r = s.fallBack c b k r := by
  have verify (slots : List Slot) : b'.restartVerify slots = b.restartVerify slots := by simp [Binding.restartVerify, node]
  simp only [State.fallBack, State.secondCold, verify, node, set]

theorem State.unmarked_secondCold (why : ColdReason) : (s.secondCold c b why).store.unmarked = s.store.unmarked := by
  simp only [State.secondCold, State.raise_store, State.enterSettling_frame, State.unmarked_unbind, State.send_frame]

theorem State.unmarked_fallBack : (s.fallBack c b k r).store.unmarked = (s.damageNoted r).store.unmarked := by
  cases kind : r.kind with
  | delta g => rw [State.fallBack_of_delta s c b k r kind]; rfl
  | full =>
    rw [State.fallBack_of_full s c b k r kind]
    repeat' split
    · exact State.unmarked_secondCold _ _ _ _
    · exact State.unmarked_pin _ _
    · exact State.unmarked_secondCold _ _ _ _

/-- R106: the alerts of a second COLD verdict. -/
theorem State.flag_secondCold (why : ColdReason) (a : Alert) :
    (s.secondCold c b why).flag a = (s.flag a || decide (.coldStart = a)) := by
  rw [State.secondCold, State.flag_raise, State.flag_of_alerts (s := s) (by simp)]

theorem State.flag_fallBack_damaged : (s.fallBack c b k r).flag .damaged = true := by
  have noted : (s.damageNoted r).flag .damaged = true := State.flag_raise_self _ _
  cases kind : r.kind with
  | delta g => rw [State.fallBack_of_delta s c b k r kind]; exact noted
  | full =>
    rw [State.fallBack_of_full s c b k r kind]
    repeat' split
    · rw [State.flag_secondCold, noted, Bool.true_or]
    · exact noted
    · rw [State.flag_secondCold, noted, Bool.true_or]

end

/-! ### A second COLD verdict -/

section
variable {s : State} {c : ChanId} {b : Binding}

theorem State.sends_secondCold (why : ColdReason) : s.sends (s.secondCold c b why) (.node b.node) [.verdict why] :=
  (s.sends_send (.node b.node) (.verdict why)).of_ports (fun _ => rfl) (fun m => by simp [State.secondCold]) rfl

/-- R46: node n of state t settles cold, outside the channels, with the cause that it had. -/
structure State.settlesCold (s t : State) (n : NodeId) : Prop where
  state : (t.node n).state = .settling
  mark : (t.node n).mark = some .cold
  channel : (t.node n).channel = none
  settle : (t.node n).settle = Timer.start (s.nodePlan n).coldSettleMs
  cause : (t.node n).cause = (s.node n).cause

/-- R106. -/
theorem State.settlesCold_secondCold (law : s.schedules none) (bound : s.chan c = some b) (why : ColdReason) :
    s.settlesCold (s.secondCold c b why) b.node := by
  let v := s.send (.node b.node) (.verdict why)
  have law' : v.schedules none := law.kept (by simp [v]) (by simp [v]) (by simp [v]) (by simp [v]) (by simp [v]) (by simp [v])
    (by simp [v])
  have channel := law'.channel_unbind (c := c) (b := b) (by simpa [v] using bound)
  have cause : ((v.unbind c).node b.node).cause = (v.node b.node).cause :=
    congrArg (fun q => q.cause) (v.core_unbind b.node c)
  have node : (s.secondCold c b why).node b.node = ((v.unbind c).enterSettling b.node .cold).node b.node := rfl
  rw [State.node_enterSettling] at node
  refine ⟨?_, ?_, ?_, ?_, ?_⟩ <;> rw [node]
  · exact channel
  · simp [State.nodePlan, v]
  · exact cause.trans (by simp [v])

end

/-! ### The fallback as the statements tell it -/

section
variable {s v : State} {c : ChanId} {b : Binding} {first : List Frame}

/-- A second COLD verdict after the damage of record r has been noted. -/
theorem State.told.cold (told : s.told v b.node first) (law : s.schedules none) (bound : s.chan c = some b) (r : Record)
    (why : ColdReason) :
    s.sends ((v.damageNoted r).secondCold c b why) (.node b.node) (first ++ [.verdict why])
      ∧ s.settlesCold ((v.damageNoted r).secondCold c b why) b.node := by
  have noted : (v.damageNoted r).schedules none := (told.schedules law).kept
  obtain ⟨state, mark, channel, settle, cause⟩ :=
    State.settlesCold_secondCold noted (c := c) (b := b) (by simpa [told.chan] using bound) why
  refine ⟨told.sent.append ((State.sends_secondCold why).of_ports (by simp) (fun _ => rfl) (by simp)) told.level, state, mark, channel, ?_, ?_⟩
  · simpa [State.nodePlan, told.active] using settle
  · rw [cause, ← told.node]
    exact congrArg (fun q => q.cause) (v.unopened_damageNoted r b.node)

/-- R105, R106: the fallback of the binding that channel c holds, after the frames `first`. -/
theorem State.told.fallsBack {b' : Binding} (told : s.told v b.node first) (law : s.schedules none) (bound : s.chan c = some b)
    (node : b'.node = b.node) (set : b'.set = b.set) (k : Nat) (r : Record) :
    s.fallsBack (v.fallBack c b' k r) c b k r first := by
  rw [State.fallBack_congr v c b k r node set]
  have store : (v.damageNoted r).store = (s.discardDamaged r).store := State.store_discardDamaged_congr told.store r
  have unmarked := v.unmarked_fallBack c b k r
  have verifies (t : State) (slots : List Slot) (ports : ∀ m, t.port m = v.port m) :
      (t.setChan c (some (b.restartVerify slots))).chan c
          = some { b with phase := .verify, set := slots, position := 0, index := 0, resent := false, notReady := 0
                          holdoff := none, seen := [] }
        ∧ s.sends (t.setChan c (some (b.restartVerify slots))) (.node b.node) first :=
    ⟨by simp [Binding.restartVerify], told.sent.of_ports (fun _ => rfl) (fun m => (State.port_setChan ..).trans (ports m)) rfl⟩
  have ended (why : ColdReason) (t : State) (is : t = (v.damageNoted r).secondCold c b why) :
      s.sends t (.node b.node) (first ++ [.verdict why]) ∧ (t.node b.node).state = .settling
        ∧ (t.node b.node).mark = some .cold ∧ (t.node b.node).channel = none
        ∧ (t.node b.node).settle = Timer.start (s.nodePlan b.node).coldSettleMs
        ∧ (t.node b.node).cause = (s.node b.node).cause ∧ t.flag .coldStart = true := by
    obtain ⟨sent, cold⟩ := told.cold law bound r why
    rw [is]
    exact ⟨sent, cold.state, cold.mark, cold.channel, cold.settle, cold.cause, by simp [State.flag_secondCold]⟩
  refine ⟨v.flag_fallBack_damaged c b k r, fun e goes => ?_, ?_, ?_, ?_, ?_, ?_, ?_, fun g kind => ?_, fun kind empty => ?_,
    fun e kind newest => ?_⟩
  · exact Store.dir_none_of_unmarked unmarked (v.dir_damageNoted r (told.store ▸ goes))
  · simp [told.store]
  · simp [told.store]
  · rw [Store.freeList_of_unmarked unmarked, store]
  · simp [told.groups]
  · simp [told.monitor]
  · simpa [State.sameSetup] using told.setup
  · rw [State.fallBack_of_delta v c b k r kind]
    exact ⟨verifies _ _ (by simp), fun m => by simp [told.node]⟩
  · refine ended .damaged _ ?_
    rw [State.fallBack_of_full v c b k r kind, store, empty]
    rfl
  · have young : (v.damageNoted r).youngEnough b.node e = true
        ↔ (s.clock.sec - e.2.time).toNat ≤ (s.groupPlan (s.nodePlan b.node).group).warmAge := by
      rw [State.youngEnough, decide_eq_true_eq]
      simp [State.warmAgeLimit, State.age, State.groupPlan, State.nodePlan, told.active, told.clock]
    rw [State.fallBack_of_full v c b k r kind, store, newest]
    simp only [young]
    refine ⟨fun old => ended .tooOld _ (if_neg old), fun fresh => ?_⟩
    rw [if_pos fresh]
    exact verifies _ _ (by simp)

end

end Sys2Proof.Machine

/-! PROOF. The sending of a block, and the end of VERIFY (R104, R105, R107, R111). -/

namespace Sys2Proof.Machine

/-! ### The sending of a block -/

section
variable {s v : State} {c : ChanId} {b b' : Binding} {r : Record}

theorem State.told.send {n : NodeId} {fs : List Frame} (told : s.told v n fs) (f : Frame) :
    s.told (v.send (.node n) f) n (fs ++ [f]) :=
  ⟨told.sent.append (v.sends_send _ f) told.level, by simpa using told.store, by simpa using told.nodes,
    by simpa using told.channels, by simpa using told.queue, by simpa using told.groups, by simpa using told.monitor,
    by simpa [State.sameSetup] using told.setup⟩

/-- The block that the binding stands at, as the pool holds it. -/
def Record.block (r : Record) (p : Pool) (index : Nat) : List PoolWord := r.wordsFrom p (64 * index) (r.wordsAt index)

/-- R107: the DATA with the words given has been sent. -/
def State.blockSent (s : State) (c : ChanId) (b : Binding) (ws : List Word) : State :=
  ((s.send (.node b.node) (.data b.position b.index ws)).startExchange b.node (.data b.position b.index)).setChan c
    (some { b with phase := .send, holdoff := none })

theorem State.sendBlock_of_sound (record : s.setRecord b b.position = some r)
    (sound : ∀ w ∈ r.block s.store.pool b.index, w.sound = true) :
    s.sendBlock c b = s.blockSent c b ((r.block s.store.pool b.index).map PoolWord.value) := by
  unfold State.sendBlock
  rw [record]
  exact if_pos (List.all_eq_true.2 sound)

theorem State.sendBlock_of_damaged (record : s.setRecord b b.position = some r)
    (damaged : ¬ ∀ w ∈ r.block s.store.pool b.index, w.sound = true) :
    s.sendBlock c b = (s.send (.node b.node) (.done .damaged r.gen)).fallBack c b b.position r := by
  unfold State.sendBlock
  rw [record]
  exact if_neg fun sound => damaged (List.all_eq_true.1 sound)

/-- R107: what the sending of a sound block leaves. -/
theorem State.told.blockSent (told : s.told v b.node []) (c : ChanId) (ws : List Word) :
    (v.blockSent c b ws).chan c = some { b with phase := .send, holdoff := none }
      ∧ s.sends (v.blockSent c b ws) (.node b.node) [.data b.position b.index ws]
      ∧ (v.blockSent c b ws).exchange b.node = ⟨some (.data b.position b.index), Timer.start s.active.answerTime⟩
      ∧ (v.blockSent c b ws).nodes = s.nodes ∧ (v.blockSent c b ws).store = s.store := by
  have sent := (told.send (.data b.position b.index ws)).sent
  refine ⟨by simp [State.blockSent], sent.of_ports (fun _ => rfl) (fun m => ?_) rfl, ?_, ?_, ?_⟩
  · simp [State.blockSent]
  · simp [State.blockSent, told.active]
  · simpa [State.blockSent] using told.nodes
  · simpa [State.blockSent] using told.store

theorem State.told.setRecord {n : NodeId} {fs : List Frame} (told : s.told v n fs) (b : Binding) (k : Nat) :
    v.setRecord b k = s.setRecord b k := by
  rw [State.setRecord, told.store, State.setRecord]

/-- R107: a sound block goes out. -/
theorem State.told.sendBlock_of_sound (told : s.told v b.node []) (c : ChanId) (record : s.setRecord b b.position = some r)
    (sound : ∀ w ∈ r.block s.store.pool b.index, w.sound = true) :
    v.sendBlock c b = v.blockSent c b ((r.block s.store.pool b.index).map PoolWord.value) := by
  rw [← told.store] at sound ⊢
  exact State.sendBlock_of_sound ((told.setRecord ..).trans record) sound

/-- R111: a damaged word in the block to be sent is answered with DONE DAMAGED and the fallback. -/
theorem State.told.sendBlock_of_damaged (told : s.told v b.node []) (law : s.schedules none) (bound : s.chan c = some b)
    (node : b'.node = b.node) (set : b'.set = b.set) (record : s.setRecord b' b'.position = some r)
    (damaged : ¬ ∀ w ∈ r.block s.store.pool b'.index, w.sound = true) :
    s.fallsBack (v.sendBlock c b') c b b'.position r [.done .damaged r.gen] := by
  rw [← told.store] at damaged
  rw [State.sendBlock_of_damaged ((told.setRecord ..).trans record) damaged, node]
  exact (told.send _).fallsBack law bound node set _ _

end

/-! ### The end of VERIFY -/

section
variable {s : State} {c : ChanId} {b : Binding}

theorem exec_verifyComplete (powered : s.powered = true) (bound : s.chan c = some b) (phase : b.phase = .verify) :
    exec (.verifyComplete c) s = .next (s.verifyDone c b) := by
  refine (exec_of_powered (c := .verifyComplete c) rfl powered).trans (congrArg Host.Outcome.next ?_)
  simp [State.verifyEnds, bound, phase]

/-- The binding that sends the first block of the set. -/
def Binding.sendsFirst (b : Binding) : Binding :=
  { b with phase := .send, position := 0, index := 0, resent := false, notReady := 0, seen := [] }

theorem State.verifyDone_of_sound (sound : s.firstDamagedRecord b = none) : s.verifyDone c b = s.sendBlock c b.sendsFirst := by
  unfold State.verifyDone
  rw [sound]
  rfl

theorem State.verifyDone_of_damaged {k : Nat} {r : Record} (first : s.firstDamagedRecord b = some k)
    (record : s.setRecord b k = some r) : s.verifyDone c b = s.fallBack c b k r := by
  unfold State.verifyDone
  rw [first]
  simp only [record]

theorem State.setRecord_of {k : Nat} {i : Slot} {r : Record} (named : b.set[k]? = some i) (held : s.store.dir[i] = some r) :
    s.setRecord b k = some r := by
  rw [State.setRecord, named]
  exact held

/-- R104: no record of the set is damaged. -/
theorem State.firstDamagedRecord_eq_none
    (sound : ∀ i ∈ b.set, ∀ r, s.store.dir[i] = some r → r.soundIn s.store.pool b.seen = true) :
    s.firstDamagedRecord b = none := by
  refine List.findIdx?_eq_none_iff.2 fun i inside => ?_
  cases held : s.store.dir[i] with
  | none => rfl
  | some r => exact congrArg (!·) (sound i inside r held)

/-- R104: the record at position k is the first that is damaged. -/
theorem State.firstDamagedRecord_eq_some {k : Nat} {i : Slot} {r : Record} (named : b.set[k]? = some i)
    (held : s.store.dir[i] = some r) (damaged : r.soundIn s.store.pool b.seen = false)
    (before : ∀ j i' q, j < k → b.set[j]? = some i' → s.store.dir[i'] = some q → q.soundIn s.store.pool b.seen = true) :
    s.firstDamagedRecord b = some k := by
  obtain ⟨low, rfl⟩ := List.getElem?_eq_some_iff.1 named
  refine List.findIdx?_eq_some_iff_getElem.2 ⟨low, ?_, fun j earlier => ?_⟩
  · rw [held]
    exact congrArg (!·) damaged
  · cases heldJ : s.store.dir[b.set[j]] with
    | none => simp
    | some q =>
      have sound := before j _ q earlier (List.getElem?_eq_getElem _) heldJ
      simp [sound]

/-- R104: a committed record whose words are sound and add up to its check word. -/
theorem Record.soundIn_of_committed {r : Record} {p : Pool} {seen : SeenWords} {check time : Word}
    (status : r.status = .committed check time) (sound : ∀ w ∈ r.words p seen, w.sound = true)
    (sum : sumRead (r.words p seen) = check) : r.soundIn p seen = true := by
  simp only [Record.soundIn, status, sum]
  simpa using sound

/-- The first block of a record: at most 64 words from its beginning (R81). -/
theorem Record.block_zero (r : Record) (p : Pool) : r.block p 0 = r.wordsFrom p 0 (min 64 r.declared) := by
  have count : r.wordsAt 0 = min 64 r.declared := by
    have last : r.lastIndex = (r.declared + 63) / 64 - 1 := rfl
    have words : r.wordsAt 0 = if 0 < r.lastIndex then 64 else r.declared - 64 * r.lastIndex := rfl
    rw [words]
    split <;> omega
  rw [Record.block, count]

end

/-- Settles O40: the set verified, its first block is read afresh. -/
theorem soundSetIsSent : Obligations.SoundSetIsSent := by
  intro c b i rest r s powered bound phase set held verified first
  have none : s.firstDamagedRecord b = none := State.firstDamagedRecord_eq_none fun j inside q at_j => by
    obtain ⟨check, time, status, sound, sum⟩ := verified j inside q at_j
    exact Record.soundIn_of_committed status sound sum
  have taken := exec_verifyComplete powered bound phase
  rw [State.verifyDone_of_sound none] at taken
  have record : s.setRecord b.sendsFirst b.sendsFirst.position = some r :=
    State.setRecord_of (b := b.sendsFirst) (k := 0) (i := i) (by simp [Binding.sendsFirst, set]) held
  have block : r.block s.store.pool b.sendsFirst.index = first := r.block_zero _
  refine ⟨fun sound => ⟨_, taken, ?_⟩, fun damaged law => ⟨_, taken, ?_⟩⟩
  · have told : s.told s b.sendsFirst.node [] := State.told.refl s _
    rw [told.sendBlock_of_sound c record (block ▸ sound), block]
    obtain ⟨chan, sent, exchange, _, _⟩ := told.blockSent c (first.map PoolWord.value)
    refine ⟨chan, fun x other => ?_, sent, exchange, fun m other => ?_, ?_⟩
    · simp [State.blockSent, other]
    · have apart : m ≠ b.sendsFirst.node := other
      simp [State.blockSent, apart]
    · unfold State.blockSent
      exact State.eq_of_fields
  · exact (State.told.refl s _).sendBlock_of_damaged ((s.schedulerLaw_iff).1 law) bound rfl rfl record (block ▸ damaged)

/-- Settles O41: the fallback of the first damaged record. -/
theorem damagedSetFallsBack : Obligations.DamagedSetFallsBack := by
  intro c b k i r s law powered bound phase named held damaged before
  have taken := exec_verifyComplete powered bound phase
  rw [State.verifyDone_of_damaged (State.firstDamagedRecord_eq_some named held damaged before) (State.setRecord_of named held)]
    at taken
  exact ⟨_, taken, (State.told.refl s b.node).fallsBack ((s.schedulerLaw_iff).1 law) bound rfl rfl k r⟩

end Sys2Proof.Machine

/-! PROOF. The ACK that a DATA is answered with, and the ends of a restore (R103, R107 to R112, R161). -/

namespace Sys2Proof.Machine

/-! ### What an unbinding leaves of the channel and of the store -/

section
variable {s : State} {c : ChanId} {b : Binding} {m : NodeId} {rest : List NodeId}

theorem State.unmarked_released (c : ChanId) (n : NodeId) : (s.released c n).store.unmarked = s.store.unmarked := by
  have store : (s.released c n).store = (s.unpin n).store := by simp [State.released]
  rw [store]
  exact s.unmarked_unpin n

theorem State.dir_released (c : ChanId) (n : NodeId) (i : Slot) :
    (s.released c n).store.dir[i] = (s.store.dir[i]).map fun r => if r.node = n then { r with pinned := false } else r := by
  have store : (s.released c n).store = (s.unpin n).store := by simp [State.released]
  rw [store]
  refine (Store.dir_markPins _ _ _ i).trans ?_
  simp

/-- R103: with an empty queue the channel is left IDLE. -/
theorem State.chan_unbind_of_empty (bound : s.chan c = some b) (empty : s.queue = []) : (s.unbind c).chan c = none := by
  rw [State.unbind_of_bound bound, State.arbiter_of_empty (by simpa [State.released] using empty)]
  simp [State.released]

/-- R102, R103: the head of the queue takes the channel that unbinds. -/
theorem State.unbind_of_waiting (law : s.arbiterLaw) (bound : s.chan c = some b) (waiting : s.queue = m :: rest) :
    (s.unbind c).queue = rest ∧ ((s.unbind c).node m).state = .restoring ∧ ((s.unbind c).node m).channel = some c
      ∧ (s.unbind c).chan c = some (.begins m (s.store.restoreSlots m)) := by
  have queue : (s.released c b.node).queue = m :: rest := by simpa [State.released] using waiting
  have idle : (s.released c b.node).chan c = none := by simp [State.released]
  rw [State.unbind_eq_bindHead law bound, State.bindHead_of_head queue idle,
    Store.restoreSlots_of_unmarked (State.unmarked_released c b.node)]
  simp

/-- R72, R103: the records of the node that was bound are unpinned. -/
theorem State.schedules.unpinned_unbind (law : s.schedules none) (bound : s.chan c = some b) {i : Slot} {r : Record}
    (held : (s.unbind c).store.dir[i] = some r) (own : r.node = b.node) : r.pinned = false := by
  have let_go {q : Record} (at_i : (s.released c b.node).store.dir[i] = some q) (own : q.node = b.node) : q.pinned = false := by
    rw [State.dir_released] at at_i
    obtain ⟨x, _, rfl⟩ := Option.map_eq_some_iff.1 at_i
    by_cases mine : x.node = b.node
    · rw [if_pos mine]
    · rw [if_neg mine] at own
      exact absurd own mine
  rw [State.unbind_eq_bindHead law.arbiter bound] at held
  cases waiting : s.queue with
  | nil =>
    rw [State.bindHead_of_empty (by simpa [State.released] using waiting)] at held
    exact let_go held own
  | cons m rest =>
    have queued : (s.node m).state = .queued := ((law.queued m).1 (by simp [waiting])).2
    have restoring : (s.node b.node).state = .restoring :=
      ((law.restoring b.node).1 (by rw [(law.bound b.node c).2 ⟨b, bound, rfl⟩]; rfl)).2
    have apart : b.node ≠ m := fun same => by
      rw [same, queued] at restoring
      cases restoring
    have queue : (s.released c b.node).queue = m :: rest := by simpa [State.released] using waiting
    rw [State.dir_bindHead_of_head queue (by simp [State.released])] at held
    obtain ⟨q, at_i, is⟩ := Option.map_eq_some_iff.1 held
    by_cases pinned : i ∈ (s.released c b.node).store.restoreSlots m
    · obtain ⟨x, at_x, other⟩ := Store.node_of_restoreSlots pinned
      rw [at_i] at at_x
      cases at_x
      rw [if_pos pinned] at is
      subst is
      exact absurd (own.symm.trans other) apart
    · rw [if_neg pinned] at is
      subst is
      exact let_go at_i own

end

/-! ### The end of a restore -/

section
variable {s v : State} {c : ChanId} {b b' : Binding}

/-- The state in which a frame for the node has ended the restore on channel c. -/
def State.closed (s : State) (c : ChanId) (n : NodeId) (f : Frame) : State := (s.send (.node n) f).unbind c

/-- R103: what the end of a restore leaves, before the node goes to another state. -/
structure State.closes (s t : State) (c : ChanId) (n : NodeId) (f : Frame) : Prop where
  sent : s.sends t (.node n) [f]
  exchange : t.exchange n = .empty
  channel : (t.node n).channel = none
  core : (t.node n).core = (s.node n).core
  active : t.active = s.active
  pool : t.store.pool = s.store.pool
  freeList : t.store.freeList = s.store.freeList
  unpinned : ∀ (i : Slot) (r : Record), t.store.dir[i] = some r → r.node = n → r.pinned = false
  idle : s.queue = [] → t.chan c = none
  next : ∀ m rest, s.queue = m :: rest → m ≠ n ∧ t.queue = rest ∧ (t.node m).state = .restoring ∧ (t.node m).channel = some c
    ∧ t.chan c = some (.begins m (s.store.restoreSlots m))

/-- R103: an exchange that was answered is over, and the channel unbinds. -/
theorem State.told.closes (told : s.told v b.node []) (ended : v.exchange b.node = .empty) (law : s.schedules none)
    (bound : s.chan c = some b) (f : Frame) : s.closes (v.closed c b.node f) c b.node f := by
  have after := told.send f
  have lawV := after.schedules law
  have boundV := (after.chan c).trans bound
  have unmarked := State.unmarked_unbind (v.send (.node b.node) f) c
  refine ⟨after.sent.of_ports (fun _ => rfl) (fun l => by simp [State.closed]) rfl, ?_, lawV.channel_unbind boundV, ?_, ?_, ?_, ?_,
    fun i r held own => lawV.unpinned_unbind boundV held own,
    fun empty => State.chan_unbind_of_empty boundV (after.queue.trans empty), fun m rest waiting => ⟨?_, ?_⟩⟩
  · exact State.exchange_unbind_of_empty (by simpa using ended) c
  · rw [State.closed, State.core_unbind, after.node]
  · simpa [State.closed] using told.active
  · simp [State.closed, told.store]
  · rw [State.closed, Store.freeList_of_unmarked unmarked, after.store]
  · rintro rfl
    have queued := ((law.queued b.node).1 (by simp [waiting])).2
    have restoring := ((law.restoring b.node).1 (by rw [(law.bound b.node c).2 ⟨b, bound, rfl⟩]; rfl)).2
    rw [queued] at restoring
    cases restoring
  · rw [← after.store]
    exact State.unbind_of_waiting lawV.arbiter boundV (after.queue.trans waiting)

end

/-! ### The abort -/

/-- What the beginning of a restart reads of the record before it. -/
theorem NodeRec.beginsRestart.of_core {before before' after : NodeRec} {p : NodePlan} {why : DriveReason}
    (h : before.beginsRestart after p why) (same : before.core = before'.core) : before'.beginsRestart after p why := by
  have fields : before'.cause = before.cause ∧ before'.warmCapable = before.warmCapable ∧ before'.lastBeat = before.lastBeat
      ∧ before'.attempts = before.attempts := by
    refine ⟨?_, ?_, ?_, ?_⟩
    · exact congrArg (fun r => r.cause) same.symm
    · exact congrArg (fun r => r.warmCapable) same.symm
    · exact congrArg (fun r => r.lastBeat) same.symm
    · exact congrArg (fun r => r.attempts) same.symm
  obtain ⟨cause, warm, beat, attempts⟩ := fields
  unfold NodeRec.beginsRestart
  rw [cause, warm, beat, attempts]
  exact h

section
variable {s v : State} {c : ChanId} {b b' : Binding}

/-- R112: DONE with the status, no DATA outstanding, and a failed attempt. -/
theorem State.told.abortRestore (told : s.told v b.node []) (ended : v.exchange b.node = .empty) (law : s.schedules none)
    (bound : s.chan c = some b) (status : DoneStatus) :
    let t := v.abortRestore c b status
    s.sends t (.node b.node) [.done status (s.fullGen b)] ∧ t.exchange b.node = ⟨none, none⟩ ∧ (t.node b.node).channel = none
      ∧ (s.node b.node).beginsRestart (t.node b.node) (s.nodePlan b.node) (reasonFromCause (s.node b.node).cause) := by
  intro t
  have gen : v.fullGen b = s.fullGen b := by rw [State.fullGen, told.store, State.fullGen]
  have closes := told.closes ended law bound (.done status (s.fullGen b))
  obtain ⟨u, is⟩ : ∃ u, u = v.closed c b.node (.done status (s.fullGen b)) := ⟨_, rfl⟩
  have result : t = u.failedAfterHello b.node := by rw [is, ← gen]; rfl
  rw [← is] at closes
  have plan : u.nodePlan b.node = s.nodePlan b.node := by rw [State.nodePlan, closes.active, State.nodePlan]
  have cause : (u.node b.node).cause = (s.node b.node).cause := congrArg (fun r => r.cause) closes.core
  have begins := (u.beginsRestart_beginRestart b.node (reasonAfter (u.node b.node).cause)).of_core closes.core
  rw [plan, cause, ← reasonFromCause_eq] at begins
  rw [result]
  refine ⟨closes.sent.of_ports (fun _ => rfl) (fun l => by simp) rfl, ?_, ?_, ?_⟩
  · have kept : (u.failedAfterHello b.node).exchange b.node = u.exchange b.node := by simp
    exact kept.trans closes.exchange
  · simpa [State.failedAfterHello] using closes.channel
  · rwa [State.failedAfterHello, cause, ← reasonFromCause_eq]

end

/-! ### The ACK -/

section
variable {s v : State} {n : NodeId} {p : List Byte} {c : ChanId} {b b' : Binding} {r : Record}

/-- R161: the ACK is that of the DATA outstanding. -/
abbrev State.ackMatches (s : State) (n : NodeId) (p : List Byte) : Prop :=
  (s.exchange n).outstanding = some (.data (octetAt p 0) (octetAt p 1))

/-- What the channel does by the status of an ACK that matches (R108 to R110). -/
def State.ackAnswered (s : State) (c : ChanId) (b : Binding) : AckStatus → State
  | .ok => s.advance c b
  | .crcBad => s.crcBad c b
  | .notReady => s.notReady c b

theorem State.ackTaken_of_match (is : s.ackMatches n p) (channel : (s.node n).channel = some c) (bound : s.chan c = some b) :
    s.ackTaken n p = (s.endExchange n).ackAnswered c b (ackStatus p) := by
  have channel' : ((s.endExchange n).node n).channel = some c := channel
  have bound' : (s.endExchange n).chan c = some b := bound
  unfold State.ackTaken
  rw [if_pos is]
  simp only [channel', bound']
  cases ackStatus p <;> rfl

theorem State.ackTaken_of_stray (is : ¬ s.ackMatches n p) : s.ackTaken n p = s := if_neg is

theorem ackStatus_of_ok (h : octetAt p 2 = 0) : ackStatus p = .ok := by simp [ackStatus, h]

theorem ackStatus_of_notReady (h : octetAt p 2 = 2) : ackStatus p = .notReady := by simp [ackStatus, h]

theorem ackStatus_of_crcBad (notOk : octetAt p 2 ≠ 0) (ready : octetAt p 2 ≠ 2) : ackStatus p = .crcBad := by
  unfold ackStatus
  split
  · next ok => exact absurd ok notOk
  · next late => exact absurd late ready
  · rfl

/-- R161: the exchange that an ACK or an expiry ends is no part of what the frames are told against. -/
theorem State.told_endExchange (s : State) (n : NodeId) : s.told (s.endExchange n) n [] :=
  ⟨State.sends_nil _ fun _ => by simp, by simp, by simp, by simp, by simp, by simp, by simp, by simp [State.sameSetup]⟩

theorem State.exchange_fallBack_of_empty (empty : s.exchange n = .empty) (c : ChanId) (b : Binding) (k : Nat) (r : Record) :
    (s.fallBack c b k r).exchange n = .empty := by
  have noted : (s.damageNoted r).exchange n = .empty := by simpa using empty
  have cold (why : ColdReason) : ((s.damageNoted r).secondCold c b why).exchange n = .empty := by
    simpa [State.secondCold] using State.exchange_unbind_of_empty (s := (s.damageNoted r).send _ (.verdict why))
      (by simpa using noted) c
  cases kind : r.kind with
  | delta g =>
    rw [State.fallBack_of_delta s c b k r kind]
    simpa using noted
  | full =>
    rw [State.fallBack_of_full s c b k r kind]
    repeat' split
    exacts [cold _, by simpa using noted, cold _]

end

end Sys2Proof.Machine

/-! PROOF. The ACK of a DATA, the holdoff and the answer timer, as commands (R107 to R112, R161). -/

namespace Sys2Proof.Machine

section
variable {s v : State} {c : ChanId} {b : Binding} {r q : Record}

/-! ### A block again, or another -/

/-- R111: no DATA is outstanding after the fallback that a damaged block brings. -/
theorem State.told.exchange_of_damaged {n : NodeId} (told : s.told v n []) (ended : v.exchange n = .empty)
    (record : s.setRecord b b.position = some r) (damaged : ¬ ∀ w ∈ r.block s.store.pool b.index, w.sound = true) :
    (v.sendBlock c b).exchange n = .empty := by
  rw [← told.store] at damaged
  rw [State.sendBlock_of_damaged ((told.setRecord ..).trans record) damaged]
  exact State.exchange_fallBack_of_empty (by simpa using ended) _ _ _ _

/-- R107, R111: the block that a binding b' of the same restore stands at goes out, or its damage is taken. -/
theorem State.told.sendBlock {b' : Binding} (told : s.told v b.node []) (law : s.schedules none) (bound : s.chan c = some b)
    (node : b'.node = b.node) (set : b'.set = b.set) (record : s.setRecord b' b'.position = some r) :
    ((∀ w ∈ r.block s.store.pool b'.index, w.sound = true) →
        (v.sendBlock c b').chan c = some { b' with phase := .send, holdoff := none }
          ∧ s.sends (v.sendBlock c b') (.node b.node)
              [.data b'.position b'.index ((r.block s.store.pool b'.index).map PoolWord.value)]
          ∧ (v.sendBlock c b').exchange b.node = ⟨some (.data b'.position b'.index), Timer.start s.active.answerTime⟩
          ∧ (v.sendBlock c b').nodes = s.nodes ∧ (v.sendBlock c b').store = s.store)
      ∧ (¬ (∀ w ∈ r.block s.store.pool b'.index, w.sound = true) →
        s.fallsBack (v.sendBlock c b') c b b'.position r [.done .damaged r.gen]) := by
  refine ⟨fun sound => ?_, fun damaged => told.sendBlock_of_damaged law bound node set record damaged⟩
  rw [← node] at told ⊢
  rw [told.sendBlock_of_sound c record sound]
  exact told.blockSent c _

/-- The binding at the beginning of a block that has not been sent before. -/
def Binding.fresh (b : Binding) : Binding := { b with resent := false, notReady := 0 }

/-- R108: what the channel goes on with. -/
theorem State.advance_of_record (record : s.setRecord b b.position = some r) :
    s.advance c b =
      if b.index < r.lastIndex then s.sendBlock c { b.fresh with index := b.index + 1 }
      else if b.position + 1 < b.set.length then s.sendBlock c { b.fresh with position := b.position + 1, index := 0 }
      else s.finishRestore c b.fresh := by
  unfold State.advance
  simp only [State.setRecord] at record ⊢
  simp only [record]
  rfl

/-- R108: DONE OK carries the generation of the last record of the set. -/
theorem State.finishRestore_of_last (record : s.setRecord b b.position = some r) (last : b.position + 1 = b.set.length) :
    s.finishRestore c b.fresh = (s.closed c b.node (.done .ok r.gen)).enterSettling b.node .warm := by
  have final : s.setRecord b.fresh (b.fresh.set.length - 1) = some r := by
    have position : b.fresh.set.length - 1 = b.position := by simp only [Binding.fresh, ← last]; omega
    rw [position]
    exact record
  rw [State.finishRestore, final]
  rfl

end

/-! ### The commands -/

section
variable {s : State} {n : NodeId} {p : List Byte} {c : ChanId} {b : Binding}

theorem exec_ack_of_match (passes : s.passes .ack (.node n) p) (is : s.ackMatches n p) (channel : (s.node n).channel = some c)
    (bound : s.chan c = some b) :
    exec (.ack (.node n) p) s = .next ((s.endExchange n).ackAnswered c b (ackStatus p)) := by
  rw [← State.ackTaken_of_match is channel bound]
  exact exec_of_passes rfl passes

/-- R112: the answer timer of a DATA. -/
theorem State.dataUnanswered_of_bound (channel : (s.node n).channel = some c) (bound : s.chan c = some b) :
    s.dataUnanswered n = s.abortRestore c b .noAck := by
  unfold State.dataUnanswered
  simp only [channel, bound]

/-- R101: the channel of a node is bound to that node. -/
theorem State.schedules.node_of_channel (law : s.schedules none) (channel : (s.node n).channel = some c)
    (bound : s.chan c = some b) : b.node = n := by
  obtain ⟨b', bound', own⟩ := (law.bound n c).1 channel
  rw [bound] at bound'
  cases bound'
  exact own

end

/-- Settles O42: the exchange ended, the channel goes on with a block, or with DONE. -/
theorem ackAdvancesTheRestore : Obligations.AckAdvancesTheRestore := by
  intro n p c b i r s scheduled passes ok is channel bound named held sendsBlock sound damaged
  have law := (s.schedulerLaw_iff).1 scheduled
  obtain rfl := law.node_of_channel channel bound
  have taken := exec_ack_of_match passes is channel bound
  rw [ackStatus_of_ok ok, State.ackAnswered] at taken
  have told := s.told_endExchange b.node
  have ended : (s.endExchange b.node).exchange b.node = .empty := by simp
  have record : s.setRecord b b.position = some r := State.setRecord_of named held
  have advance := State.advance_of_record (c := c) ((told.setRecord b b.position).trans record)
  have empties {b' : Binding} {q : Record} (record : s.setRecord b' b'.position = some q) (broken : ¬ sound b'.index q) :=
    told.exchange_of_damaged (c := c) ended record broken
  refine ⟨_, taken, by simp, by simp, by simp [State.sameSetup], fun more => ?_, fun i' q last named' held' => ?_,
    fun last final => ?_⟩
  · rw [advance, if_pos more]
    have goes := told.sendBlock law bound (b' := { b.fresh with index := b.index + 1 }) rfl rfl record
    exact ⟨goes.1, fun broken => ⟨goes.2 broken, empties record broken⟩⟩
  · have next : b.position + 1 < b.set.length := (List.getElem?_eq_some_iff.1 named').1
    rw [advance, if_neg (Nat.not_lt.2 last), if_pos next]
    have record' : s.setRecord { b.fresh with position := b.position + 1, index := 0 } (b.position + 1) = some q :=
      State.setRecord_of named' held'
    have goes := told.sendBlock law bound (b' := { b.fresh with position := b.position + 1, index := 0 }) rfl rfl record'
    exact ⟨goes.1, fun broken => ⟨goes.2 broken, empties record' broken⟩⟩
  · have closes := told.closes ended law bound (.done .ok r.gen)
    obtain ⟨u, result⟩ : ∃ u, u = (s.endExchange b.node).closed c b.node (.done .ok r.gen) := ⟨_, rfl⟩
    have finish : (s.endExchange b.node).advance c b = u.enterSettling b.node .warm := by
      rw [advance, if_neg (Nat.not_lt.2 last), if_neg (Nat.not_lt.2 final.ge),
        State.finishRestore_of_last ((told.setRecord b b.position).trans record) final, result]
    rw [← result] at closes
    rw [finish, State.node_enterSettling]
    refine ⟨rfl, rfl, closes.channel, ?_, closes.sent.of_ports (fun _ => rfl) (fun l => by simp) rfl, ?_, ?_, ?_,
      fun j q => ?_, fun empty => ?_, fun m rest waiting => ?_⟩
    · simp [State.nodePlan, closes.active]
    · have kept : (u.enterSettling b.node .warm).exchange b.node = u.exchange b.node := by simp
      exact kept.trans closes.exchange
    · simpa using closes.pool
    · simpa using closes.freeList
    · simpa using closes.unpinned j q
    · simpa using closes.idle empty
    · obtain ⟨other, queue, state, channel', chan⟩ := closes.next m rest waiting
      simp [other, queue, state, channel', chan, Binding.begins, Store.restoreSlots]

/-- Settles O43: a block goes out again, the channel waits, or the restore is aborted. -/
theorem ackRetriesHoldsOffOrAborts : Obligations.AckRetriesHoldsOffOrAborts := by
  intro n p c b i r s scheduled channel bound named held sound damaged sendsAgain aborts
  have law := (s.schedulerLaw_iff).1 scheduled
  obtain rfl := law.node_of_channel channel bound
  have told := s.told_endExchange b.node
  have ended : (s.endExchange b.node).exchange b.node = .empty := by simp
  have record : s.setRecord b b.position = some r := State.setRecord_of named held
  have matched (passes : s.passes .ack (.node b.node) p) (is : s.ackMatches b.node p) :=
    exec_ack_of_match passes is channel bound
  refine ⟨fun passes is => ⟨_, matched passes is, ?_⟩, fun passes stray => ?_, fun powered phase due => ?_,
    fun position index powered outstanding due => ?_⟩
  · have kept : (s.endExchange b.node).ackAnswered c b (ackStatus p) = s.ackTaken b.node p :=
      (State.ackTaken_of_match is channel bound).symm
    refine ⟨by rw [kept]; simp, by rw [kept]; simp, by rw [kept]; simp [State.sameSetup], fun notOk ready first => ?_,
      fun notOk ready second => ?_, fun late few => ?_, fun late many => ?_⟩
    · have goes := told.sendBlock law bound (b' := { b with resent := true, notReady := 0 }) rfl rfl record
      rw [ackStatus_of_crcBad notOk ready, State.ackAnswered, State.crcBad, if_neg (by simp [first])]
      exact ⟨goes.1, fun broken => ⟨goes.2 broken, told.exchange_of_damaged ended record broken⟩⟩
    · rw [ackStatus_of_crcBad notOk ready, State.ackAnswered, State.crcBad, if_pos second]
      exact told.abortRestore ended law bound .linkError
    · rw [ackStatus_of_notReady late, State.ackAnswered, State.notReady, Config.maxNotReady, if_pos few]
      exact ⟨by simp [Config.holdoffMs], fun l => by simp, ended, rfl, rfl⟩
    · rw [ackStatus_of_notReady late, State.ackAnswered, State.notReady, Config.maxNotReady, if_neg (Nat.not_lt.2 many)]
      exact told.abortRestore ended law bound .stalled
  · rw [exec_of_passes rfl passes]
    exact congrArg _ (State.ackTaken_of_stray stray)
  · have taken : exec (.holdoffExpiry c) s = .next (s.sendBlock c { b with phase := .send, holdoff := none }) := by
      refine (exec_of_powered (c := .holdoffExpiry c) rfl powered).trans (congrArg Host.Outcome.next ?_)
      simp [State.holdoffEnds, bound, phase, due]
    have goes := (State.told.refl s b.node).sendBlock law bound (b' := { b with phase := .send, holdoff := none }) rfl rfl record
    exact ⟨_, taken, goes⟩
  · have taken : exec (.answerTimerExpiry b.node) s = .next ((s.endExchange b.node).abortRestore c b .noAck) := by
      refine (exec_of_powered (c := .answerTimerExpiry b.node) rfl powered).trans (congrArg Host.Outcome.next ?_)
      simp only [due, Timer.due_zero, if_true, State.unanswered, outstanding]
      exact State.dataUnanswered_of_bound channel bound
    exact ⟨_, taken, told.abortRestore ended law bound .noAck⟩

end Sys2Proof.Machine

/-! PROOF. The verdict of a HELLO, and the queue and the channels that it finds (R42 to R44, R97, R98, R102). -/

namespace Sys2Proof.Machine

/-! ### The group hold manager sends nothing to a node that is not RUNNING -/

/-- The link and the exchange slot of node n are as they were. -/
def State.spares (s t : State) (n : NodeId) : Prop := t.port (.node n) = s.port (.node n) ∧ t.exchange n = s.exchange n

section
variable {s t u : State} {n : NodeId}

theorem State.spares.trans (h : s.spares t n) (h' : t.spares u n) : s.spares u n := ⟨h'.1.trans h.1, h'.2.trans h.2⟩

theorem State.spares_of_kept (port : t.port (.node n) = s.port (.node n) := by simp) (exchange : t.exchange n = s.exchange n := by simp) :
    s.spares t n := ⟨port, exchange⟩

variable (left : (s.node n).state ≠ .running)
include left

theorem State.spares_enterHold (g : GroupId) (base : Word) : s.spares (s.enterHold g base) n := by
  have entered : s.spares (s.holdEntered g base) n := State.spares_of_kept
  obtain ⟨m, _, _, running, sent⟩ | still := s.enterHold_cases g base
  · have other : n ≠ m := fun same => left (same ▸ running)
    rw [sent]
    refine entered.trans ⟨(State.sends_sendTake _ g m).2 _ (by simpa using other), ?_⟩
    simp [State.sendTake, other]
  · rwa [still]

theorem State.spares_tellRole (g : GroupId) (o : Option NodeId) (r : Role) : s.spares (s.tellRole g o r) n := by
  refine ⟨?_, by simp⟩
  by_cases same : o = some n
  · rw [same, State.tellRole_of_idle _ _ (by simpa using left)]
  · exact State.port_tellRole_other s g same r

/-- R120, R122: no frame goes to a node because it has left UNKNOWN. -/
theorem State.spares_noteLeftUnknown (m : NodeId) : s.spares (s.noteLeftUnknown m) n := by
  have assigned (g : GroupId) (d : NodeId) (o : Option NodeId) : s.spares (s.assignRoles g d o) n := State.spares_of_kept
  have told (g : GroupId) (d : NodeId) (o o' : Option NodeId) (r : Role) :
      s.spares ((s.assignRoles g d o).tellRole g o' r) n :=
    (assigned g d o).trans (State.spares_tellRole (by simpa using left) g o' r)
  unfold State.noteLeftUnknown State.resolveIfKnown State.resolveRoles
  dsimp only
  repeat' split
  · exact ⟨rfl, rfl⟩
  · exact (told _ _ _ _ _).trans (State.spares_tellRole (by simpa using left) _ _ _)
  · exact told _ _ _ _ _
  · exact (assigned _ _ _).trans (State.spares_enterHold (by simpa using left) _ _)
  · exact ⟨rfl, rfl⟩
  · exact ⟨rfl, rfl⟩

end

/-! ### The verdict -/

section
variable {s t : State} {n : NodeId}

/-- What a verdict reads of the restore set: the commit time of its newest record. -/
def Store.newestTime (st : Store) (n : NodeId) : Option Word := (st.restoreSet n).getLast?.map fun e => e.2.time

/-- R42: the verdict, by the cause and the flag that the HELLO has written. -/
theorem State.verdict_eq {cause : Cause} (written : (s.node n).cause = some cause) :
    s.verdict n = s.expectedVerdict n cause (s.node n).warmCapable := by
  have young (e : Entry) : s.youngEnough n e = true
      ↔ (s.clock.sec - e.2.time).toNat ≤ (s.groupPlan (s.nodePlan n).group).warmAge := by
    rw [State.youngEnough, decide_eq_true_eq]
    rfl
  cases newest : (s.store.restoreSet n).getLast? with
  | none => simp only [State.verdict, State.expectedVerdict, written, newest, Bool.not_eq_eq_eq_not, Bool.not_true]
  | some e => simp only [State.verdict, State.expectedVerdict, written, newest, young, Bool.not_eq_eq_eq_not, Bool.not_true]

/-- R42, the last two conditions: the verdict by the commit time of the newest record of the restore set. -/
def State.verdictOfSet (s : State) (n : NodeId) : Option Word → Verdict
  | none => .cold .noSet
  | some time => if (s.clock.sec - time).toNat ≤ (s.groupPlan (s.nodePlan n).group).warmAge then .warm else .cold .tooOld

theorem State.expectedVerdict_eq (s : State) (n : NodeId) (cause : Cause) (capable : Bool) :
    s.expectedVerdict n cause capable =
      if (s.nodePlan n).warmCauses.getLsbD cause.bit = false then .cold .causeNotWarm
      else if capable = false then .cold .notCapable
      else s.verdictOfSet n (s.store.newestTime n) := by
  unfold State.expectedVerdict Store.newestTime
  cases (s.store.restoreSet n).getLast? <;> rfl

/-- R42: what the verdict depends on besides the HELLO. -/
theorem State.expectedVerdict_congr (active : t.active = s.active) (clock : t.clock = s.clock)
    (newest : t.store.newestTime n = s.store.newestTime n) (cause : Cause) (capable : Bool) :
    t.expectedVerdict n cause capable = s.expectedVerdict n cause capable := by
  have plan : t.nodePlan n = s.nodePlan n := by rw [State.nodePlan, active, State.nodePlan]
  have aged : t.verdictOfSet n = s.verdictOfSet n := by
    funext time
    cases time with
    | none => rfl
    | some time =>
      have group : t.groupPlan = s.groupPlan := funext fun g => by rw [State.groupPlan, active, State.groupPlan]
      rw [State.verdictOfSet, State.verdictOfSet, plan, group, clock]
  rw [State.expectedVerdict_eq, State.expectedVerdict_eq, plan, aged, newest]

/-- The newest record of the restore set is the same whatever is pinned. -/
theorem Store.newestTime_of_unmarked {st new : Store} (h : new.unmarked = st.unmarked) (n : NodeId) :
    new.newestTime n = st.newestTime n := by
  have times (x : Store) : x.newestTime n = x.unmarked.newestTime n := by
    rw [Store.newestTime, Store.newestTime, Store.restoreSet_unmarked, List.getLast?_map, Option.map_map]
    rfl
  rw [times new, times st, h]

/-- The restore set depends on the committed list alone. -/
theorem Store.restoreSet_congr {st new : Store} (h : new.committed n = st.committed n) : new.restoreSet n = st.restoreSet n := by
  simp only [Store.restoreSet, Store.newestFull, Store.fulls, Store.setOf, h]

/-! ### The verdict given -/

/-- R43, R44: the REPLY that carries the verdict. -/
theorem State.sends_giveVerdict {cause : Cause} (written : (s.node n).cause = some cause) :
    s.sends (s.giveVerdict n) (.node n) [.reply 0x10#8 .ok (.hello (s.verdict n) cause (s.node n).attempts)] := by
  have replied := s.sends_reply (.node n) .hello .ok (.hello (s.verdict n) cause (s.node n).attempts)
  cases verdict : s.verdict n with
  | warm =>
    rw [State.giveVerdict_of_warm s n verdict, written]
    exact (verdict ▸ replied).of_ports (fun _ => rfl) (fun m => by simp) rfl
  | cold why =>
    rw [State.giveVerdict_of_cold s n verdict, written]
    exact (verdict ▸ replied).of_ports (fun _ => rfl) (fun m => by simp) rfl

theorem State.flag_giveVerdict (a : Alert) :
    (s.giveVerdict n).flag a = (s.flag a || (decide (.coldStart = a) && decide (s.verdict n ≠ .warm))) := by
  cases verdict : s.verdict n with
  | warm =>
    rw [State.giveVerdict_of_warm s n verdict, State.flag_of_alerts (s := s) (by simp)]
    simp
  | cold why =>
    rw [State.giveVerdict_of_cold s n verdict, State.flag_raise, State.flag_of_alerts (s := s) (by simp)]
    simp

/-! ### The queue after a verdict -/

theorem State.queueIfWarm_of_cold (cold : (s.node n).state ≠ .queued) : s.queueIfWarm n = s := if_neg cold

theorem State.queueIfWarm_of_queued (queued : (s.node n).state = .queued) : s.queueIfWarm n = (s.enqueue n).arbiter := if_pos queued

/-- R98, R102: with both channels bound the node waits. -/
theorem State.queueIfWarm_of_busy (queued : (s.node n).state = .queued) (busy : ∀ c, s.chan c ≠ none) :
    s.queueIfWarm n = s.enqueue n := by
  rw [State.queueIfWarm_of_queued queued]
  exact State.arbiter_of_busy busy

/-- The channel that a node takes which finds one idle. -/
def State.idleChan (s : State) : ChanId := if s.chan .c0 = none then .c0 else .c1

/-- R98, R102: with a channel IDLE the queue was empty, and the node is bound at once. -/
theorem State.queueIfWarm_of_idle (law : s.arbiterLaw) (queued : (s.node n).state = .queued)
    (idle : s.chan .c0 = none ∨ s.chan .c1 = none) :
    s.queue = [] ∧ (s.enqueue n).queue = [n] ∧ (s.enqueue n).chan s.idleChan = none
      ∧ s.queueIfWarm n = (s.enqueue n).bindHead s.idleChan := by
  have empty : s.queue = [] := by
    by_contra waiting
    obtain first | second := idle
    · exact law waiting .c0 first
    · exact law waiting .c1 second
  have alone : (s.enqueue n).queue = [n] := by
    show s.placed s.queue n = [n]
    rw [empty]
    rfl
  refine ⟨empty, alone, ?_, ?_⟩
  · unfold State.idleChan
    split
    · next first => exact first
    · next taken => exact idle.resolve_left taken
  · rw [State.queueIfWarm_of_queued queued]
    unfold State.idleChan
    split
    · next first => exact State.arbiter_of_alone alone first
    · next taken => exact State.arbiter_of_freed fun d other => by cases d; exacts [taken, absurd rfl other]

end

end Sys2Proof.Machine

/-! PROOF. The HELLO of a node in UNKNOWN or BOOT (R28, R38, R42 to R44, R97, R98, R102). -/

namespace Sys2Proof.Machine

/-! ### The verdict given, before the queue is touched -/

/-- The cause that a HELLO is given (R41). -/
def State.helloCause (s : State) (n : NodeId) (p : List Byte) : Cause :=
  classify (bootReason p) (s.node n).drive (s.nodePlan n).resetDrive

/-- The verdict that a HELLO is given (R42). -/
def State.helloVerdict (s : State) (n : NodeId) (p : List Byte) : Verdict :=
  s.expectedVerdict n (s.helloCause n p) (decide (octetAt p 1 = 1))

/-- The HELLO has been classified and answered. -/
def State.heard (s : State) (n : NodeId) (p : List Byte) : State := (s.takeHello n p).giveVerdict n

section
variable {s : State} {n : NodeId} {p : List Byte}

theorem State.verdict_takeHello : (s.takeHello n p).verdict n = s.helloVerdict n p := by
  have written : ((s.takeHello n p).node n).cause = some (s.helloCause n p) := by simp [State.helloCause]
  have capable : ((s.takeHello n p).node n).warmCapable = decide (octetAt p 1 = 1) := by simp [warmCapable]
  rw [State.verdict_eq written, capable]
  exact State.expectedVerdict_congr (by simp) (by simp) (by simp) _ _

theorem State.node_heard :
    (s.heard n p).node n =
      if s.helloVerdict n p = .warm then { (s.takeHello n p).node n with state := .queued }
      else
        { ((s.takeHello n p).node n).stopTimers with
          state := .settling, mark := some .cold, settle := .start (s.nodePlan n).coldSettleMs } := by
  have plan : (s.takeHello n p).nodePlan n = s.nodePlan n := by simp [State.nodePlan]
  rw [State.heard, State.node_giveVerdict, State.verdict_takeHello, plan]

theorem State.sends_heard :
    s.sends (s.heard n p) (.node n)
      [.reply 0x10#8 .ok (.hello (s.helloVerdict n p) (s.helloCause n p) (s.node n).attempts)] := by
  have written : ((s.takeHello n p).node n).cause = some (s.helloCause n p) := by simp [State.helloCause]
  have sent := State.sends_giveVerdict written
  rw [State.verdict_takeHello] at sent
  have attempts : ((s.takeHello n p).node n).attempts = (s.node n).attempts := by rw [State.node_takeHello]; rfl
  rw [attempts] at sent
  exact sent.of_ports (by simp) (fun _ => rfl) (by simp)

/-! ### The answer, with its group told -/

/-- State w is s with the HELLO of node n answered, and with whatever its group makes of that. -/
structure State.answered (s w : State) (n : NodeId) (p : List Byte) : Prop where
  node : w.node n = (s.heard n p).node n
  others : ∀ m, m ≠ n → w.node m = s.node m
  port : w.port (.node n) = (s.heard n p).port (.node n)
  exchange : w.exchange n = s.exchange n
  coldStart : w.flag .coldStart = (s.heard n p).flag .coldStart
  monitor : w.monitor = s.monitor
  setup : s.sameSetup w
  store : w.store = s.store
  channels : w.channels = s.channels
  queue : w.queue.Perm s.queue
  schedules : w.schedules (some n)

theorem State.answered_heard (law : s.schedules none) (free : (s.node n).state.free) : s.answered (s.heard n p) n p :=
  ⟨rfl, fun m other => by simp [State.heard, other], rfl, by simp [State.heard], rfl, by simp [State.heard],
    by simp [State.heard, State.sameSetup], by simp [State.heard], by simp [State.heard], by simp [State.heard],
    ((law.setApart free).takeHello p).giveVerdict⟩

/-- R120: a group that learns that the node is known leaves the answer as it is. -/
theorem State.answered.noteLeftUnknown {w : State} (h : s.answered w n p) (left : (w.node n).state ≠ .running) :
    s.answered (w.noteLeftUnknown n) n p := by
  obtain ⟨port, exchange⟩ := State.spares_noteLeftUnknown left n
  have groups := (State.regroups.refl w).noteLeftUnknown n
  have schedules := h.schedules.regroups groups
  refine ⟨?_, fun m other => ?_, port.trans h.port, exchange.trans h.exchange, ?_, ?_, ?_, ?_, ?_, ?_, schedules⟩
  · rw [State.node_noteLeftUnknown, h.node]
  · rw [State.node_noteLeftUnknown, h.others m other]
  · rw [State.flag_noteLeftUnknown w n (by decide) (by decide), h.coldStart]
  · simpa using h.monitor
  · simpa [State.sameSetup] using h.setup
  · simpa using h.store
  · simpa using h.channels
  · exact (groups.queue h.schedules.nodup h.schedules.order).2.trans h.queue

end

/-! ### The queue step -/

section
variable {s w : State} {n : NodeId} {p : List Byte}

theorem State.answered.chan (h : s.answered w n p) (c : ChanId) : w.chan c = s.chan c := by
  rw [State.chan, h.channels, State.chan]

theorem State.answered.queued (h : s.answered w n p) (warm : s.helloVerdict n p = .warm) : (w.node n).state = .queued := by
  rw [h.node, State.node_heard, if_pos warm]

/-- R98, R102: with a channel IDLE the node is bound at once. -/
theorem State.answered.bound (h : s.answered w n p) (warm : s.helloVerdict n p = .warm)
    (idle : s.chan .c0 = none ∨ s.chan .c1 = none) :
    s.queue = [] ∧ w.queueIfWarm n = (w.enqueue n).bindHead s.idleChan ∧ (w.enqueue n).queue = [n]
      ∧ (w.enqueue n).chan s.idleChan = none := by
  have which : w.idleChan = s.idleChan := by simp only [State.idleChan, h.chan]
  obtain ⟨empty, alone, free, taken⟩ :=
    State.queueIfWarm_of_idle h.schedules.arbiter (h.queued warm) (by simpa only [h.chan] using idle)
  rw [which] at free taken
  exact ⟨List.perm_nil.1 (empty ▸ h.queue).symm, taken, alone, free⟩

/-- R98: with both channels bound the node waits. -/
theorem State.answered.waits (h : s.answered w n p) (warm : s.helloVerdict n p = .warm) (first : s.chan .c0 ≠ none)
    (second : s.chan .c1 ≠ none) : w.queueIfWarm n = w.enqueue n :=
  State.queueIfWarm_of_busy (h.queued warm) fun c => by cases c <;> simpa only [h.chan]

theorem State.answered.settles (h : s.answered w n p) (cold : s.helloVerdict n p ≠ .warm) : w.queueIfWarm n = w :=
  State.queueIfWarm_of_cold (by rw [h.node, State.node_heard, if_neg cold]; simp)

/-- What holds of the record of node n whatever the verdict (R40, R42). -/
theorem State.node_heard_fields :
    let r := (s.heard n p).node n
    r.cause = some (s.helloCause n p) ∧ r.drive = none ∧ r.attempts = (s.node n).attempts ∧ r.acquire = none ∧ r.boot = none := by
  intro r
  have taken := State.node_takeHello s n p
  simp only [r, State.node_heard]
  split <;> simp [taken, NodeRec.stopTimers, State.helloCause]

/-- The queue step leaves the fields that the HELLO wrote. -/
theorem State.answered.fields (h : s.answered w n p) :
    let r := (w.queueIfWarm n).node n
    r.cause = some (s.helloCause n p) ∧ r.drive = none ∧ r.attempts = (s.node n).attempts ∧ r.acquire = none ∧ r.boot = none := by
  intro r
  obtain ⟨cause, drive, attempts, acquire, boot⟩ := State.node_heard_fields (s := s) (n := n) (p := p)
  have core : r.core = ((s.heard n p).node n).core := by rw [← h.node]; exact w.core_queueIfWarm n n
  refine ⟨?_, ?_, ?_, ?_, ?_⟩
  · exact (congrArg (fun q => q.cause) core : r.cause = _).trans cause
  · exact (congrArg (fun q => q.drive) core : r.drive = _).trans drive
  · exact (congrArg (fun q => q.attempts) core : r.attempts = _).trans attempts
  · exact (congrArg (fun q => q.acquire) core : r.acquire = _).trans acquire
  · exact (congrArg (fun q => q.boot) core : r.boot = _).trans boot

theorem State.unmarked_queueIfWarm (s : State) (n : NodeId) : (s.queueIfWarm n).store.unmarked = s.store.unmarked := by
  unfold State.queueIfWarm
  split
  · rw [State.unmarked_arbiter]
    simp
  · rfl

/-- What a bound channel keeps while another takes the head of the queue. -/
theorem State.chan_bindHead_of_bound {c d : ChanId} {b : Binding} (bound : s.chan d = some b) : (s.bindHead c).chan d = some b := by
  by_cases here : d = c
  · subst here
    rwa [State.bindHead_of_busy (by simp [bound])]
  · simpa [here] using bound

theorem State.chan_queueIfWarm_of_bound {d : ChanId} {b : Binding} (bound : s.chan d = some b) (n : NodeId) :
    (s.queueIfWarm n).chan d = some b := by
  unfold State.queueIfWarm
  split
  · exact State.chan_bindHead_of_bound (State.chan_bindHead_of_bound (by simpa using bound))
  · exact bound

/-- No other node moves in the queue step. -/
theorem State.answered.others_queueIfWarm (h : s.answered w n p) {m : NodeId} (other : m ≠ n) :
    (w.queueIfWarm n).node m = s.node m := by
  by_cases warm : s.helloVerdict n p = .warm
  · by_cases idle : s.chan .c0 = none ∨ s.chan .c1 = none
    · obtain ⟨_, taken, alone, free⟩ := h.bound warm idle
      rw [taken, State.bindHead_of_head alone free]
      simpa [other] using h.others m other
    · rw [not_or] at idle
      rw [h.waits warm idle.1 idle.2]
      simpa using h.others m other
  · rw [h.settles warm, h.others m other]

end

theorem exec_hello_of_known {s : State} {n : NodeId} {p : List Byte} (law : s.schedules none) (passes : s.passes .hello (.node n) p)
    (state : (s.node n).state = .unknown ∨ (s.node n).state = .boot) :
    ∃ w, exec (.hello (.node n) p) s = .next (w.queueIfWarm n) ∧ s.answered w n p
      ∧ ((s.node n).state = .boot → w = s.heard n p) := by
  have answered := State.answered_heard (p := p) law (n := n) (by rcases state with h | h <;> simp [h, NodeState.free])
  obtain unknown | boot := state
  · have left : ((s.heard n p).node n).state ≠ .running := (State.gone_giveVerdict _ n).not_running
    refine ⟨_, ?_, answered.noteLeftUnknown left, fun boot => ?_⟩
    · rw [exec_of_passes rfl passes]
      simp [frameOwner, onNode, State.helloTaken, unknown, State.heard]
    · rw [unknown] at boot
      cases boot
  · refine ⟨_, ?_, answered, fun _ => rfl⟩
    rw [exec_of_passes rfl passes]
    simp [frameOwner, onNode, State.helloTaken, boot, State.heard]

/-- Settles O26: the answer, its group told, and the queue step by the verdict and the channels. -/
theorem helloIsGivenItsVerdict : Obligations.HelloIsGivenItsVerdict := by
  intro n p s scheduled passes state cause verdict
  obtain ⟨w, taken, h, boot⟩ := exec_hello_of_known ((s.schedulerLaw_iff).1 scheduled) passes state
  obtain ⟨cause', drive, attempts, acquire, bootTimer⟩ := h.fields
  have listening : s.resetAsserted = false := passes.1.2
  refine ⟨_, taken, cause', drive, attempts, acquire, bootTimer, fun m other => h.others_queueIfWarm other, ?_, ?_, ?_, ?_, ?_, ?_,
    ?_, fun c b bound => State.chan_queueIfWarm_of_bound ((h.chan c).trans bound) n, fun state => ⟨?_, fun m other => ?_⟩,
    fun warm idle => ?_, fun warm first second => ?_, fun cold => ?_⟩
  · have sent := (State.sends_heard (s := s) (n := n) (p := p)).1
    rw [if_neg (by simp [listening]), ← h.port] at sent
    have kept : (w.queueIfWarm n).port (.node n) = w.port (.node n) := by simp
    exact kept.trans sent
  · simpa using h.exchange
  · simpa using h.monitor
  · simpa [State.sameSetup] using h.setup
  · simp [h.store]
  · rw [Store.freeList_of_unmarked (w.unmarked_queueIfWarm n), h.store]
  · simp [h.store]
  · rw [boot state]
    simp [State.heard]
  · rw [boot state]
    simp [State.heard, other]
  · obtain ⟨empty, bound, alone, free⟩ := h.bound warm idle
    rw [bound]
    have store : (w.enqueue n).store = s.store := by simpa using h.store
    have dir := State.dir_bindHead_of_head alone free
    have begins := State.bindHead_of_head alone free
    rw [store] at begins dir
    refine ⟨by rw [begins]; simp, by rw [begins]; simp [State.idleChan], by rw [begins]; simp [empty], ?_, fun i r held inside => ?_⟩
    · rw [begins]
      simp [State.idleChan, Binding.begins, Store.restoreSlots]
    · rw [dir, held]
      exact congrArg some (if_pos inside)
  · rw [h.waits warm first second]
    have standing := h.schedules.enqueue (h.queued warm)
    refine ⟨?_, ?_, standing.order, ?_⟩
    · simpa using h.queued warm
    · exact (w.placed_perm w.queue n).trans (h.queue.cons n)
    · simpa using h.store
  · have cold : s.helloVerdict n p ≠ .warm := cold
    rw [h.settles cold, h.node, State.node_heard, if_neg cold]
    refine ⟨rfl, rfl, rfl, ?_, h.queue, h.store, h.channels⟩
    rw [h.coldStart, State.heard, State.flag_giveVerdict, State.verdict_takeHello]
    simp [cold]

end Sys2Proof.Machine

/-! PROOF. The unannounced HELLO (R45, R54, R91). -/

namespace Sys2Proof.Machine

/-! ### What the HELLO ends -/

/-- State e is s with what an unannounced HELLO of node n ends at its end: the open record and its pass, the place in the queue, or
the restore. -/
structure State.endedForHello (s e : State) (n : NodeId) : Prop where
  openRec : (e.node n).openRec = none
  channel : (e.node n).channel = none
  port : e.port (.node n) = { s.port (.node n) with inProgress := none }
  newest : e.store.newestTime n = s.store.newestTime n

section
variable {s : State} {n : NodeId}

/-- R67, R160: a node out of service has no open record, and its link is free. -/
theorem State.unopened_of_uploadLaw (law : s.uploadLaw) (out : (s.node n).state.inService = false) :
    (s.node n).openRec = none ∧ s.port (.node n) = { s.port (.node n) with inProgress := none } := by
  have closed : (s.node n).openRec = none := by
    cases names : (s.node n).openRec with
    | none => rfl
    | some i =>
      rw [(law.1 n i names).1] at out
      cases out
  have free := law.2.2 n
  rw [closed] at free
  exact ⟨closed, by rw [← show (s.port (.node n)).inProgress = none from free]⟩

theorem State.endForHello_of_inService (inService : (s.node n).state.inService = true) :
    s.endForHello n = s.leaveService n false := by
  unfold State.endForHello
  obtain state | state := NodeState.inService_iff.1 inService <;> rw [state]

theorem State.endForHello_of_queued (queued : (s.node n).state = .queued) : s.endForHello n = s.dequeue n := by
  unfold State.endForHello
  rw [queued]

theorem State.endForHello_of_restoring {c : ChanId} (restoring : (s.node n).state = .restoring)
    (channel : (s.node n).channel = some c) : s.endForHello n = s.unbind c := by
  unfold State.endForHello State.silentAbort
  rw [restoring, channel]

theorem State.endForHello_of_settling (settling : (s.node n).state = .settling) : s.endForHello n = s := by
  unfold State.endForHello
  rw [settling]

theorem State.endedForHello_endForHello (uploads : s.uploadLaw) (law : s.schedules none)
    (state : (s.node n).state.inService = true ∨ (s.node n).state = .queued ∨ (s.node n).state = .restoring
      ∨ (s.node n).state = .settling) : s.endedForHello (s.endForHello n) n := by
  have channel : ((s.endForHello n).node n).channel = none := by
    have apart := (law.endForHello (n := n)).restoring n
    simpa using apart
  by_cases inService : (s.node n).state.inService = true
  · have uploads := State.uploads_of_uploadLaw uploads n
    rw [State.endForHello_of_inService inService] at channel ⊢
    refine ⟨?_, channel, State.port_leaveService_unanswered uploads, ?_⟩
    · rw [State.node_leaveService uploads, if_pos rfl]
      rfl
    · rw [Store.newestTime, Store.restoreSet_congr (State.committed_leaveService uploads false n), Store.newestTime]
  · obtain ⟨closed, port⟩ := State.unopened_of_uploadLaw uploads (by simpa using inService)
    obtain queued | restoring | settling := state.resolve_left inService
    · rw [State.endForHello_of_queued queued] at channel ⊢
      exact ⟨closed, channel, port, rfl⟩
    · obtain ⟨c, b, bound, chan, own⟩ := law.exists_channel restoring
      rw [State.endForHello_of_restoring restoring bound] at channel ⊢
      refine ⟨?_, channel, ?_, Store.newestTime_of_unmarked (s.unmarked_unbind c) n⟩
      · exact (congrArg (fun r => r.openRec) (s.core_unbind n c)).trans closed
      · rw [← port]
        simp
    · rw [State.endForHello_of_settling settling] at channel ⊢
      exact ⟨closed, channel, port, rfl⟩

end

/-! ### The attempt, and the verdict or the limit -/

section
variable {s : State} {n : NodeId} {p : List Byte}

/-- The HELLO has been classified. -/
def State.classified (s : State) (n : NodeId) (p : List Byte) : State := (s.endForHello n).takeHello n p

/-- R45: the attempt has been counted. -/
def State.attempted (s : State) (n : NodeId) (p : List Byte) : State :=
  (s.classified n p).modNode n fun r => { r with attempts := r.attempts + 1 }

@[simp] theorem State.attempts_classified : ((s.classified n p).node n).attempts = (s.node n).attempts := by
  have kept : ((s.classified n p).node n).attempts = ((s.endForHello n).node n).attempts := by
    rw [State.classified, State.node_takeHello]; rfl
  rw [kept]
  simp

theorem State.attempts_attempted : ((s.attempted n p).node n).attempts = (s.node n).attempts + 1 := by
  rw [State.attempted, State.node_modNode_self]
  exact congrArg (· + 1) State.attempts_classified

@[simp] theorem State.nodePlan_classified : (s.classified n p).nodePlan n = s.nodePlan n := by
  simp [State.nodePlan, State.classified]

/-- R45: below the limit the verdict is given; at the limit the node is halted. -/
theorem State.restartNoticed_eq :
    s.restartNoticed n p =
      if (s.node n).attempts < (s.nodePlan n).attemptLimit then (s.attempted n p).giveVerdict n
      else ((s.classified n p).enterHalted n).reply (.node n) .hello .badState := by
  rw [← State.attempts_classified (p := p), ← State.nodePlan_classified (p := p)]
  rfl

theorem State.hello_attempted : ((s.attempted n p).node n).hello = s.helloWrites n p := by
  rw [State.attempted, State.node_modNode_self, ← State.helloWrites_endForHello, ← State.hello_takeHello]
  rfl

theorem State.cause_attempted : ((s.attempted n p).node n).cause = some (s.helloCause n p) :=
  congrArg Prod.fst (State.hello_attempted (s := s) (n := n) (p := p))

theorem State.verdict_attempted (ended : s.endedForHello (s.endForHello n) n) :
    (s.attempted n p).verdict n = s.helloVerdict n p := by
  have capable : ((s.attempted n p).node n).warmCapable = decide (octetAt p 1 = 1) :=
    congrArg (fun x => x.2.2) (State.hello_attempted (s := s) (n := n) (p := p))
  rw [State.verdict_eq State.cause_attempted, capable]
  refine State.expectedVerdict_congr (by simp [State.attempted, State.classified]) (by simp [State.attempted, State.classified]) ?_ _ _
  simpa [State.attempted, State.classified] using ended.newest

/-! ### The record and the link afterwards -/

/-- R91: the pass that the HELLO ends is not answered, and the link is free. -/
theorem State.port_classified (ended : s.endedForHello (s.endForHello n) n) :
    (s.classified n p).port (.node n) = { s.port (.node n) with inProgress := none } := by
  simpa [State.classified] using ended.port

/-- The timers of the state left have stopped, and the open record field is clear. -/
theorem State.node_restartNoticed_fields (ended : s.endedForHello (s.endForHello n) n) :
    let r := (s.restartNoticed n p).node n
    r.openRec = none ∧ r.lapse = none ∧ r.stable = none := by
  intro r
  have taken : (s.classified n p).node n = _ := State.node_takeHello _ n p
  simp only [r, State.restartNoticed_eq]
  split
  · rw [State.node_giveVerdict, State.attempted, State.node_modNode_self, taken]
    split <;> simp [NodeRec.stopTimers, ended.openRec]
  · rw [State.node_reply, State.node_enterHalted, taken]
    simp [NodeRec.stopTimers, ended.openRec]

end

/-! ### The group told, and the queue step -/

section
variable {s : State} {n : NodeId} {p : List Byte}

/-- The state in which an unannounced HELLO finds the queue. -/
def State.restartTold (s : State) (n : NodeId) (p : List Byte) : State :=
  if (s.node n).state.inService then (s.restartNoticed n p).noteLeftService n else s.restartNoticed n p

theorem State.unannounced_eq_queueIfWarm : s.unannounced n p = (s.restartTold n p).queueIfWarm n := rfl

theorem State.node_restartTold : (s.restartTold n p).node n = (s.restartNoticed n p).node n := by
  unfold State.restartTold
  split
  exacts [State.node_noteLeftService _ n n, rfl]

theorem State.port_restartTold : (s.restartTold n p).port (.node n) = (s.restartNoticed n p).port (.node n) := by
  unfold State.restartTold
  split
  exacts [State.port_noteLeftService_self (s.gone_restartNoticed n p).not_running, rfl]

theorem State.flag_restartTold {a : Alert} (notHeld : a ≠ .held) (notUnserved : a ≠ .unserved) :
    (s.restartTold n p).flag a = (s.restartNoticed n p).flag a := by
  unfold State.restartTold
  split
  exacts [State.flag_noteLeftService _ n notHeld notUnserved, rfl]

theorem State.core_unannounced : ((s.unannounced n p).node n).core = ((s.restartNoticed n p).node n).core := by
  rw [State.unannounced_eq_queueIfWarm, State.core_queueIfWarm, State.node_restartTold]

theorem State.port_unannounced : (s.unannounced n p).port (.node n) = (s.restartNoticed n p).port (.node n) := by
  rw [State.unannounced_eq_queueIfWarm, ← State.port_restartTold]
  simp

theorem State.flag_unannounced {a : Alert} (notHeld : a ≠ .held) (notUnserved : a ≠ .unserved) :
    (s.unannounced n p).flag a = (s.restartNoticed n p).flag a := by
  rw [State.unannounced_eq_queueIfWarm, ← State.flag_restartTold notHeld notUnserved]
  exact State.flag_of_alerts (by simp) a

/-- A node that is not queued is left alone by the queue step. -/
theorem State.node_unannounced_of_cold (cold : ((s.restartNoticed n p).node n).state ≠ .queued) :
    (s.unannounced n p).node n = (s.restartNoticed n p).node n := by
  rw [State.unannounced_eq_queueIfWarm, State.queueIfWarm_of_cold (by rwa [State.node_restartTold]), State.node_restartTold]

/-- R98, R102: a node that is queued stays so, or is bound. -/
theorem State.state_unannounced_of_warm (warm : ((s.restartNoticed n p).node n).state = .queued) :
    ((s.unannounced n p).node n).state = .queued ∨ ((s.unannounced n p).node n).state = .restoring := by
  have queued : ((s.restartTold n p).node n).state = .queued := by rwa [State.node_restartTold]
  rw [State.unannounced_eq_queueIfWarm, State.queueIfWarm_of_queued queued, State.arbiter]
  obtain kept | bound := (((s.restartTold n p).enqueue n).bindHead .c0).state_bindHead_or .c1 n
  · rw [kept]
    obtain kept | bound := ((s.restartTold n p).enqueue n).state_bindHead_or .c0 n
    · exact .inl (kept.trans (by simpa using queued))
    · exact .inr bound
  · exact .inr bound

end

/-- Settles O27: what the HELLO ends, then the attempt with its verdict, or the limit. -/
theorem unannouncedHelloCountsAnAttempt : Obligations.UnannouncedHelloCountsAnAttempt := by
  intro n p s uploads scheduled passes state cause verdict
  have ended := State.endedForHello_endForHello uploads ((s.schedulerLaw_iff).1 scheduled) state
  have taken : exec (.hello (.node n) p) s = .next (s.unannounced n p) := by
    rw [exec_of_passes rfl passes]
    have states : (s.node n).state = .running ∨ (s.node n).state = .quiet ∨ (s.node n).state = .queued
        ∨ (s.node n).state = .restoring ∨ (s.node n).state = .settling := by
      rwa [NodeState.inService_iff, or_assoc] at state
    rcases states with state | state | state | state | state <;> simp [frameOwner, onNode, State.helloTaken, state]
  have listening : s.resetAsserted = false := passes.1.2
  have core := State.core_unannounced (s := s) (n := n) (p := p)
  obtain ⟨openRec, lapse, stable⟩ := State.node_restartNoticed_fields (p := p) ended
  have hello := s.hello_unannounced n p
  have noticed := State.restartNoticed_eq (s := s) (n := n) (p := p)
  have level : (s.classified n p).resetAsserted = false := by simpa [State.classified] using listening
  have port := State.port_classified (p := p) ended
  have free : ((s.unannounced n p).port (.node n)).inProgress = none := by
    rw [State.port_unannounced, noticed]
    split
    · rw [(State.sends_giveVerdict State.cause_attempted).1]
      simp [State.attempted, port]
    · rw [(State.sends_reply ..).1]
      simp [port]
  refine ⟨_, taken, congrArg Prod.fst hello, congrArg (fun x => x.2.1) hello,
    (congrArg (fun r => r.openRec) core).trans openRec, (congrArg (fun r => r.lapse) core).trans lapse,
    (congrArg (fun r => r.stable) core).trans stable, ?_, free, by simp, by simp, by simp, by simp [State.sameSetup],
    fun below => ?_, fun limit => ?_⟩
  · rw [State.flag_unannounced (by decide) (by decide), noticed]
    split
    · rw [State.flag_giveVerdict, State.attempted, State.flag_modNode, State.flag_of_alerts (s := s) (by simp [State.classified])]
      simp
    · rw [State.flag_of_alerts (s := (s.classified n p).enterHalted n) (by simp), State.flag_enterHalted _ n (by decide),
        State.flag_of_alerts (s := s) (by simp [State.classified])]
  · rw [if_pos below] at noticed
    have given : s.helloVerdict n p = verdict := rfl
    have record := (s.attempted n p).node_giveVerdict n
    rw [← noticed, State.verdict_attempted ended, given] at record
    refine ⟨(congrArg (fun r => r.attempts) core).trans ?_, ?_, fun warm => ?_, fun cold => ?_⟩
    · rw [record, ← State.attempts_attempted (p := p)]
      split <;> rfl
    · rw [State.port_unannounced, noticed, (State.sends_giveVerdict State.cause_attempted).1, State.verdict_attempted ended,
        State.attempts_attempted]
      simp [State.attempted, port, level, given, State.helloCause, cause]
    · exact State.state_unannounced_of_warm (by rw [record, if_pos warm])
    · rw [State.node_unannounced_of_cold (by rw [record, if_neg cold]; simp), record, if_neg cold,
        State.flag_unannounced (by decide) (by decide), noticed, State.flag_giveVerdict, State.verdict_attempted ended, given]
      refine ⟨rfl, rfl, ?_, by simp [cold]⟩
      simp [State.nodePlan, State.attempted, State.classified]
  · rw [if_neg (Nat.not_lt.2 limit)] at noticed
    have record : (s.restartNoticed n p).node n = _ :=
      (congrArg (fun u : State => u.node n) noticed).trans ((State.node_reply ..).trans (State.node_enterHalted _ n))
    have halted : ((s.restartNoticed n p).node n).state = .halted := by rw [record]
    rw [State.node_unannounced_of_cold (by simp [halted]), State.port_unannounced,
      State.flag_unannounced (by decide) (by decide), record, noticed]
    refine ⟨State.attempts_classified, rfl, ?_, rfl, rfl, by simp, ?_, ?_⟩
    · simpa [State.classified, NodeRec.stopTimers] using ended.channel
    · rw [State.flag_of_alerts (s := (s.classified n p).enterHalted n) (by simp)]
      exact State.flag_raise_self _ _
    · rw [(State.sends_reply ..).1]
      simp [port, level]
      rfl

end Sys2Proof.Machine

/-! PROOF. RESTART, HALT and RELEASE from link 0 (R1, R52 to R54, R56, R91). -/

namespace Sys2Proof.Machine

/-! ### The group hold manager sends nothing on link 0 -/

section
variable (s : State) (g : GroupId) (n : NodeId)

theorem State.supervisor_enterHold (base : Word) : (s.enterHold g base).port .supervisor = s.port .supervisor := by
  obtain ⟨m, _, _, _, sent⟩ | still := s.enterHold_cases g base
  · rw [sent, (State.sends_sendTake _ g m).2 _ (by simp)]
    simp
  · rw [still]
    simp

theorem State.supervisor_tellRole (o : Option NodeId) (r : Role) : (s.tellRole g o r).port .supervisor = s.port .supervisor := by
  unfold State.tellRole
  repeat' split
  exacts [(s.sends_send _ _).2 _ (by simp), rfl, rfl]

theorem State.supervisor_declineTake : (s.declineTake g).port .supervisor = s.port .supervisor := by
  by_cases waiting : ∃ m, (s.group g).roleLater = some m ∧ (s.group g).duty = some m
  · obtain ⟨m, later, duty⟩ := waiting
    rw [State.declineTake_of_waiting later duty]
    exact (State.sends_dutyRestored m).2 _ (by simp)
  · rw [State.declineTake_of_not_waiting fun m later duty => waiting ⟨m, later, duty⟩]
    simp [State.declined]

theorem State.supervisor_resolveIfKnown : (s.resolveIfKnown g).port .supervisor = s.port .supervisor := by
  have assigned (d : NodeId) (o : Option NodeId) : (s.assignRoles g d o).port .supervisor = s.port .supervisor := by simp
  unfold State.resolveIfKnown State.resolveRoles
  dsimp only
  repeat' split
  · rfl
  · rw [State.supervisor_tellRole, State.supervisor_tellRole, assigned]
  · rw [State.supervisor_tellRole, assigned]
  · rw [State.supervisor_enterHold, assigned]
  · rfl

theorem State.supervisor_noteLeftUnknown : (s.noteLeftUnknown n).port .supervisor = s.port .supervisor := by
  unfold State.noteLeftUnknown
  split
  exacts [s.supervisor_resolveIfKnown _, rfl]

theorem State.supervisor_noteLeftService : (s.noteLeftService n).port .supervisor = s.port .supervisor := by
  unfold State.noteLeftService
  dsimp only
  repeat' split
  · rfl
  · exact s.supervisor_enterHold _ _
  · simp
  · rw [State.supervisor_declineTake]
    simp
  · rfl

end

/-! ### RESTART -/

section
variable {s : State} {n : NodeId} {p : List Byte}

theorem State.restartTaken_of_present (number : octetAt p 0 = n.num) (value : octetAt p 1 ≤ 1) (present : s.present n = true) :
    s.restartTaken p = s.restartNode n (decide (octetAt p 1 = 1)) := by
  simp [State.restartTaken, number, boolField_of_le value, present]

/-- R52: the REPLY goes out before the restart. -/
def State.restartReplied (s : State) : State := s.answer .restart .ok

theorem State.restartNode_of_inService {force : Bool} (inService : (s.node n).state.inService = true)
    (allowed : force = true ∨ s.partnerServes n) : s.restartNode n force = s.restartReplied.restartFromService n .commanded := by
  have passes : force || s.partnerPasses n := by simpa [State.partnerPasses_iff] using allowed
  unfold State.restartNode
  obtain state | state := NodeState.inService_iff.1 inService <;> rw [state] <;> exact if_pos passes

theorem State.restartNode_of_settling {force : Bool} (settling : (s.node n).state = .settling)
    (allowed : force = true ∨ s.partnerServes n) : s.restartNode n force = s.restartReplied.beginRestart n .commanded := by
  have passes : force || s.partnerPasses n := by simpa [State.partnerPasses_iff] using allowed
  unfold State.restartNode
  rw [settling]
  exact if_pos passes

theorem State.restartNode_of_partnerDown (state : (s.node n).state.inService = true ∨ (s.node n).state = .settling)
    (down : ¬ s.partnerServes n) : s.restartNode n false = s.answer .restart .partnerDown := by
  have refused : ¬ (false || s.partnerPasses n) = true := by simpa [State.partnerPasses_iff] using down
  rw [NodeState.inService_iff, or_assoc] at state
  unfold State.restartNode
  obtain state | state | state := state <;> rw [state] <;> exact if_neg refused

theorem State.restartNode_of_outOfState {force : Bool} (out : (s.node n).state.inService = false)
    (notSettling : (s.node n).state ≠ .settling) : s.restartNode n force = s.answer .restart .badState := by
  unfold State.restartNode
  split
  case h_1 state | h_2 state =>
    rw [state] at out
    cases out
  case h_3 state => exact absurd state notSettling
  all_goals rfl

/-- R52, R91: what a RESTART that is accepted leaves. -/
structure State.restarted (s t : State) (n : NodeId) : Prop where
  begins : (s.node n).beginsRestart (t.node n) (s.nodePlan n) .commanded
  openRec : (t.node n).openRec = none
  endsPass : s.endsPass t n
  others : ∀ m, m ≠ n → t.node m = s.node m
  channels : t.channels = s.channels
  monitor : t.monitor = s.monitor
  setup : s.sameSetup t
  committed : ∀ m, t.store.committed m = s.store.committed m
  supervisor : t.port .supervisor = s.restartReplied.port .supervisor

theorem State.endsPass_of_free {t : State} (free : (s.port (.node n)).inProgress = none)
    (port : t.port (.node n) = s.port (.node n)) : s.endsPass t n := by
  rw [State.endsPass, if_neg (by simp [free]), port]

theorem State.restarted_of_inService (law : s.uploadLaw) :
    s.restarted (s.restartReplied.restartFromService n .commanded) n := by
  have uploads : s.restartReplied.uploads n :=
    (State.uploads_of_uploadLaw law n).congr (by simp [State.restartReplied, State.answer])
      (by simp [State.restartReplied, State.answer]) (by simp [State.restartReplied, State.answer])
  have begins := State.beginsRestart_restartFromService uploads .commanded
  have ends := State.endsPass_restartFromService uploads .commanded
  refine ⟨?_, State.openRec_restartFromService uploads _, ?_, fun m other => ?_, ?_, ?_, ?_, fun m => ?_, ?_⟩
  · simpa [State.nodePlan, State.restartReplied, State.answer] using begins
  · simpa [State.endsPass, State.restartReplied, State.answer] using ends
  · rw [State.node_restartFromService uploads .commanded other]
    simp [State.restartReplied, State.answer]
  · simp [State.restartReplied, State.answer]
  · simp [State.restartReplied, State.answer]
  · simp [State.restartReplied, State.answer, State.sameSetup]
  · rw [State.committed_restartFromService uploads .commanded m]
    simp [State.restartReplied, State.answer]
  · rw [State.restartFromService, State.supervisor_noteLeftService]
    simp

theorem State.restarted_of_settling (law : s.uploadLaw) (settling : (s.node n).state = .settling) :
    s.restarted (s.restartReplied.beginRestart n .commanded) n := by
  obtain ⟨closed, port⟩ := State.unopened_of_uploadLaw law (n := n) (by rw [settling]; rfl)
  have begins := s.restartReplied.beginsRestart_beginRestart n .commanded
  refine ⟨?_, ?_, State.endsPass_of_free (by rw [port]) ?_, fun m other => ?_, ?_, ?_, ?_, fun m => ?_, ?_⟩
  · simpa [State.nodePlan, State.restartReplied, State.answer] using begins
  · simpa [State.restartReplied, State.answer] using closed
  case refine_4 => simp [State.restartReplied, State.answer, other]
  all_goals simp [State.restartReplied, State.answer, State.sameSetup]

end

/-! ### HALT -/

/-- State e is s with what a HALT of node n ends at its end. -/
structure State.endedForHalt (s e : State) (n : NodeId) : Prop where
  record : (e.node n).core.unserved = (s.node n).core.unserved
  openRec : (e.node n).openRec = none
  schedules : e.schedules (some n)
  endsPass : (s.node n).state ≠ .restoring → s.endsPass e n
  aborted : ∀ c b, (s.node n).channel = some c → s.chan c = some b →
    e.port (.node n) = { s.port (.node n) with
      sent := (s.port (.node n)).sent ++ (if s.resetAsserted then [] else [.done .aborted (s.fullGen b)]) }

section
variable {s : State} {n : NodeId}

theorem State.endForHalt_of_inService (inService : (s.node n).state.inService = true) :
    s.endForHalt n = s.leaveService n true := by
  unfold State.endForHalt
  obtain state | state := NodeState.inService_iff.1 inService <;> rw [state]

theorem State.endForHalt_of_queued (queued : (s.node n).state = .queued) : s.endForHalt n = s.dequeue n := by
  unfold State.endForHalt
  rw [queued]

theorem State.endForHalt_of_restoring {c : ChanId} {b : Binding} (restoring : (s.node n).state = .restoring)
    (channel : (s.node n).channel = some c) (bound : s.chan c = some b) :
    s.endForHalt n = s.closed c n (.done .aborted (s.fullGen b)) := by
  unfold State.endForHalt State.abortForHalt
  simp only [restoring, channel, bound]
  rfl

theorem State.endForHalt_of_idle (out : (s.node n).state.inService = false) (free : (s.node n).state.free) :
    s.endForHalt n = s := by
  unfold State.endForHalt
  split
  case h_1 state | h_2 state =>
    rw [state] at out
    cases out
  case h_3 state => exact absurd state free.1
  case h_4 state => exact absurd state free.2
  all_goals rfl

/-- R101: a node outside RESTORING has no channel. -/
theorem State.schedules.channel_of_not_restoring (law : s.schedules none) (other : (s.node n).state ≠ .restoring) :
    (s.node n).channel = none := by
  have bound := law.restoring n
  simpa [other] using bound

theorem State.endedForHalt_endForHalt (uploads : s.uploadLaw) (law : s.schedules none) : s.endedForHalt (s.endForHalt n) n := by
  have schedules := law.endForHalt (n := n)
  have unbound (other : (s.node n).state ≠ .restoring) {c : ChanId} (channel : (s.node n).channel = some c) : False := by
    rw [law.channel_of_not_restoring other] at channel
    cases channel
  by_cases inService : (s.node n).state.inService = true
  · have other : (s.node n).state ≠ .restoring := (NodeState.free_of_inService inService).2
    have uploads := State.uploads_of_uploadLaw uploads n
    rw [State.endForHalt_of_inService inService] at schedules ⊢
    have left := State.node_leaveService uploads true n
    rw [if_pos rfl] at left
    exact ⟨by rw [left]; rfl, by rw [left]; rfl, schedules, fun _ => State.endsPass_leaveService uploads,
      fun c b channel => (unbound other channel).elim⟩
  · obtain ⟨closed, port⟩ := State.unopened_of_uploadLaw uploads (n := n) (by simpa using inService)
    have free : (s.port (.node n)).inProgress = none := by rw [port]
    have still {e : State} (core : (e.node n).core = (s.node n).core) :
        (e.node n).core.unserved = (s.node n).core.unserved ∧ (e.node n).openRec = none :=
      ⟨congrArg NodeRec.unserved core, (congrArg (fun r => r.openRec) core : _).trans closed⟩
    by_cases restoring : (s.node n).state = .restoring
    · obtain ⟨c, b, channel, bound, own⟩ := law.exists_channel restoring
      rw [State.endForHalt_of_restoring restoring channel bound] at schedules ⊢
      have core : ((s.closed c n (.done .aborted (s.fullGen b))).node n).core = (s.node n).core := by
        rw [State.closed, State.core_unbind]
        simp
      refine ⟨(still core).1, (still core).2, schedules, fun other => absurd restoring other, fun c' b' channel' bound' => ?_⟩
      · rw [channel] at channel'
        cases channel'
        rw [bound] at bound'
        cases bound'
        simpa [State.closed] using (s.sends_send (.node n) (.done .aborted (s.fullGen b))).1
    · have kept : ((s.endForHalt n).node n).core = (s.node n).core
          ∧ (s.endForHalt n).port (.node n) = s.port (.node n) := by
        by_cases queued : (s.node n).state = .queued
        · rw [State.endForHalt_of_queued queued]
          simp
        · rw [State.endForHalt_of_idle (by simpa using inService) ⟨queued, restoring⟩]
          exact ⟨rfl, rfl⟩
      exact ⟨(still kept.1).1, (still kept.1).2, schedules, fun _ => State.endsPass_of_free free kept.2,
        fun c b channel => (unbound restoring channel).elim⟩

end

end Sys2Proof.Machine

/-! PROOF. The refusals of RESTART, HALT and RELEASE, and what HALT and RELEASE leave (R1, R52 to R54, R56). -/

namespace Sys2Proof.Machine

/-! ### HALT -/

section
variable {s : State} {n : NodeId}

/-- R53, R54: the node is halted and the REPLY sent. -/
def State.haltReplied (s : State) (n : NodeId) : State := ((s.endForHalt n).enterHalted n).answer .halt .ok

theorem State.node_haltReplied :
    (s.haltReplied n).node n =
      { ((s.endForHalt n).node n).stopTimers with state := .halted, resetLine := (s.nodePlan n).resetDrive } := by
  simp [State.haltReplied, State.answer, State.nodePlan]

/-- What the group makes of a HALT leaves the node, its link, link 0 and the HALTED flag. -/
theorem State.haltNode_keeps :
    (s.haltNode n).node n = (s.haltReplied n).node n ∧ (s.haltNode n).port (.node n) = (s.haltReplied n).port (.node n)
      ∧ (s.haltNode n).port .supervisor = (s.haltReplied n).port .supervisor
      ∧ (s.haltNode n).flag .halted = (s.haltReplied n).flag .halted := by
  have left : ((s.haltReplied n).node n).state ≠ .running := by rw [State.node_haltReplied]; simp
  have service := State.port_noteLeftService_self left
  have unknown := State.spares_noteLeftUnknown left n
  have told : (s.haltNode n = (s.haltReplied n).noteLeftService n) ∨ (s.haltNode n = (s.haltReplied n).noteLeftUnknown n)
      ∨ s.haltNode n = s.haltReplied n := by
    unfold State.haltNode State.haltReplied State.answer
    dsimp only
    split
    exacts [.inl rfl, .inl rfl, .inr (.inl rfl), .inr (.inr rfl)]
  obtain same | same | same := told <;> rw [same]
  · exact ⟨State.node_noteLeftService _ n n, service, State.supervisor_noteLeftService _ n,
      State.flag_noteLeftService _ n (by decide) (by decide)⟩
  · exact ⟨State.node_noteLeftUnknown _ n n, unknown.1, State.supervisor_noteLeftUnknown _ n,
      State.flag_noteLeftUnknown _ n (by decide) (by decide)⟩
  · exact ⟨rfl, rfl, rfl, rfl⟩

end

/-! ### RELEASE -/

section
variable {s : State} {n : NodeId}

/-- R56: attempts are 0 again, the REPLY sent. -/
def State.releaseReplied (s : State) (n : NodeId) : State := (s.answer .release .ok).modNode n fun r => { r with attempts := 0 }

/-- R35: below the attempt limit a restart raises no alert. -/
theorem State.alerts_beginRestart_of_below (below : (s.node n).attempts < (s.nodePlan n).attemptLimit) (why : DriveReason) :
    (s.beginRestart n why).alerts = s.alerts := by
  cases drives : (s.nodePlan n).resetDrive with
  | true => rw [State.beginRestart_of_drive s n why drives]; rfl
  | false =>
    rw [State.beginRestart_of_noDrive s n why drives, State.enterBoot_of_below]
    · rfl
    · simpa [State.driveWritten, State.nodePlan, NodeRec.stopTimers] using below

/-- R35: below the attempt limit a restart does not halt the node. -/
theorem State.not_halted_beginRestart_of_below (below : (s.node n).attempts < (s.nodePlan n).attemptLimit) (why : DriveReason) :
    ((s.beginRestart n why).node n).state ≠ .halted := by
  rw [State.node_beginRestart, if_pos below]
  split <;> simp

end

/-! ### The refusals -/

section
variable {s : State} {n : NodeId} {p : List Byte}

theorem State.aboutNode_of_present (k : Kind) (number : octetAt p 0 = n.num) (present : s.present n = true)
    (f : NodeId → State) : s.aboutNode k (octetAt p 0) f = f n := by
  simp [State.aboutNode, number, present]

theorem State.aboutNode_of_absent (k : Kind) (number : octetAt p 0 = n.num) (absent : s.present n = false)
    (f : NodeId → State) : s.aboutNode k (octetAt p 0) f = s.answer k .notPresent := by
  simp [State.aboutNode, number, absent]

theorem State.aboutNode_of_outside (k : Kind) (outside : octetAt p 0 = 0 ∨ 8 < octetAt p 0) (f : NodeId → State) :
    s.aboutNode k (octetAt p 0) f = s.answer k .badValue := by
  simp [State.aboutNode, NodeId.ofNum_eq_none.2 outside]

theorem State.restartTaken_of_outside (outside : octetAt p 0 = 0 ∨ 8 < octetAt p 0) :
    s.restartTaken p = s.answer .restart .badValue := by
  simp [State.restartTaken, NodeId.ofNum_eq_none.2 outside]

theorem State.restartTaken_of_badForce (no : octetAt p 1 ≠ 0) (yes : octetAt p 1 ≠ 1) :
    s.restartTaken p = s.answer .restart .badValue := by
  have value : boolField p 1 = none := boolField_eq_none.2 (by omega)
  unfold State.restartTaken
  rw [value]
  cases NodeId.ofNum (octetAt p 0) <;> rfl

theorem State.restartTaken_of_absent (number : octetAt p 0 = n.num) (value : octetAt p 1 ≤ 1) (absent : s.present n = false) :
    s.restartTaken p = s.answer .restart .notPresent := by
  simp [State.restartTaken, number, boolField_of_le value, absent]

end

/-- Settles O48: the checks in their order, then the three commands. -/
theorem supervisorRestartsHaltsAndReleases : Obligations.SupervisorRestartsHaltsAndReleases := by
  refine ⟨fun p s outside => ⟨fun passes => ?_, fun passes => ?_, fun passes => ?_⟩, fun n p s uploads scheduled number =>
    ⟨fun passes => ?restart, fun passes => ?halt, fun passes => ?release⟩⟩
  · exact (exec_of_passes rfl passes).trans (congrArg _ (State.restartTaken_of_outside outside))
  · exact (exec_of_passes rfl passes).trans (congrArg _ (State.aboutNode_of_outside .halt outside _))
  · exact (exec_of_passes rfl passes).trans (congrArg _ (State.aboutNode_of_outside .release outside _))
  case restart =>
    have taken : exec (.restart .supervisor p) s = .next (s.restartTaken p) := exec_of_passes rfl passes
    have listening : s.resetAsserted = false := passes.1.2
    rw [taken]
    refine ⟨fun no yes => ?_, fun value absent => ?_, fun value present out notSettling => ?_, fun zero present state down => ?_,
      fun present state allowed => ?_⟩
    · rw [State.restartTaken_of_badForce no yes]
      rfl
    · rw [State.restartTaken_of_absent number value absent]
      rfl
    · rw [State.restartTaken_of_present number value present, State.restartNode_of_outOfState out notSettling]
      rfl
    · obtain ⟨m, partner, out⟩ := down
      have notServing : ¬ s.partnerServes n := fun serves => by simp [serves m partner] at out
      rw [State.restartTaken_of_present number (by omega) present, zero]
      exact congrArg _ (State.restartNode_of_partnerDown state notServing)
    · have force : decide (octetAt p 1 = 1) = true ∨ s.partnerServes n :=
        allowed.imp (fun yes => by simp [yes]) fun ⟨_, serves⟩ => serves
      have done : ∃ t, s.restartNode n (decide (octetAt p 1 = 1)) = t ∧ s.restarted t n := by
        obtain inService | settling := state
        · exact ⟨_, State.restartNode_of_inService inService force, State.restarted_of_inService uploads⟩
        · exact ⟨_, State.restartNode_of_settling settling force, State.restarted_of_settling uploads settling⟩
      obtain ⟨t, is, h⟩ := done
      have value : octetAt p 1 ≤ 1 := by rcases allowed with yes | ⟨zero, _⟩ <;> omega
      rw [State.restartTaken_of_present number value present, is]
      refine ⟨t, rfl, h.begins, h.openRec, h.endsPass, h.others, h.channels, h.monitor, h.setup, h.committed, ?_⟩
      rw [h.supervisor]
      exact State.port_reply_self _ _ _ _ _ listening
  case halt =>
    have law := (s.schedulerLaw_iff).1 scheduled
    have taken : exec (.halt .supervisor p) s = .next (s.haltTaken p) := exec_of_passes rfl passes
    have listening : s.resetAsserted = false := passes.1.2
    rw [taken]
    refine ⟨fun absent => congrArg _ (State.aboutNode_of_absent .halt number absent _), fun present halted => ?_,
      fun present other => ⟨s.haltNode n, ?_, ?_⟩⟩
    · exact congrArg _ ((State.aboutNode_of_present .halt number present _).trans (if_pos halted))
    · exact congrArg _ ((State.aboutNode_of_present .halt number present _).trans (if_neg other))
    · have ended := State.endedForHalt_endForHalt (n := n) uploads law
      obtain ⟨record, port, supervisor, flag⟩ := State.haltNode_keeps (s := s) (n := n)
      have replied := s.endForHalt n |>.enterHalted n |>.sends_reply .supervisor .halt .ok .none
      have own : (s.haltReplied n).port (.node n) = (s.endForHalt n).port (.node n) := by
        simp [State.haltReplied, State.answer]
      have halted : (s.haltNode n).node n = _ := record.trans State.node_haltReplied
      have away : n ∉ (s.haltNode n).queue := fun waiting => by
        have queued := ((law.haltNode (n := n)).queued n |>.1 waiting).2
        rw [halted] at queued
        cases queued
      have idle : ((s.endForHalt n).node n).channel = none := by simpa using ended.schedules.restoring n
      have kept {α : Type} (f : NodeRec → α) (reads : ∀ q : NodeRec, f q.core.unserved = f q) :
          f ((s.endForHalt n).node n) = f (s.node n) := by
        rw [← reads, ended.record, reads]
      rw [halted]
      refine ⟨rfl, rfl, kept NodeRec.attempts fun _ => rfl, kept NodeRec.cause fun _ => rfl, kept NodeRec.drive fun _ => rfl,
        kept NodeRec.lastBeat fun _ => rfl, rfl, ended.openRec, idle, away, rfl, rfl, rfl, rfl, rfl, rfl, ?_, by simp,
        by simp [State.sameSetup], by simp, fun other => ?_, fun c b channel bound => ?_, ?_⟩
      · rw [flag, State.haltReplied, State.answer, State.flag_of_alerts (s := (s.endForHalt n).enterHalted n) (by simp)]
        exact State.flag_raise_self _ _
      · have ends := ended.endsPass other
        rw [State.endsPass] at ends ⊢
        rw [port, own, ends]
      · rw [port, own, ended.aborted c b channel bound, if_neg (by simp [listening])]
      · rw [supervisor, State.haltReplied, State.answer, replied.1]
        simp [listening]
        rfl
  case release =>
    have taken : exec (.release .supervisor p) s = .next (s.releaseTaken p) := exec_of_passes rfl passes
    rw [taken]
    refine ⟨fun absent => congrArg _ (State.aboutNode_of_absent .release number absent _), fun present other => ?_,
      fun present halted limit => ⟨(s.releaseReplied n).beginRestart n .released, ?_, ?_⟩⟩
    · exact congrArg _ ((State.aboutNode_of_present .release number present _).trans (if_neg other))
    · exact congrArg _ ((State.aboutNode_of_present .release number present _).trans (if_pos halted))
    · have begins := (s.releaseReplied n).beginsRestart_beginRestart n .released
      have below : ((s.releaseReplied n).node n).attempts < ((s.releaseReplied n).nodePlan n).attemptLimit := by
        simpa [State.releaseReplied, State.answer, State.nodePlan] using Nat.lt_of_lt_of_le Nat.zero_lt_one limit
      refine ⟨?_, State.not_halted_beginRestart_of_below below _, fun m other => ?_, ?_, ?_⟩
      · simpa [State.releaseReplied, State.answer, State.nodePlan] using begins
      · simp [State.releaseReplied, State.answer, other]
      · exact (s.sends_reply .supervisor .release .ok .none).of_ports (fun _ => rfl)
          (fun m => by simp [State.releaseReplied, State.answer]) rfl
      · have alerts : ((s.releaseReplied n).beginRestart n .released).alerts = s.alerts := by
          rw [State.alerts_beginRestart_of_below below]
          simp [State.releaseReplied, State.answer]
        unfold State.releaseReplied State.answer at alerts ⊢
        exact State.eq_of_fields (alerts := alerts)

end Sys2Proof.Machine

/-! PROOF. The nodes that leave their group at an APPLY, and what goes with them (R69, R91, R168). -/

namespace Sys2Proof.Machine

/-! ### What concerns one node -/

/-- The record of node m, its link and its entries in the directory are as they were. -/
structure State.keepsNode (s t : State) (m : NodeId) : Prop where
  node : t.node m = s.node m
  port : t.port (.node m) = s.port (.node m)
  records : ∀ i : Slot, (t.store.dir[i]).filter (fun r => r.node = m) = (s.store.dir[i]).filter fun r => r.node = m
  level : t.resetAsserted = s.resetAsserted

namespace State.keepsNode

variable {s t u : State} {m : NodeId}

theorem refl (s : State) (m : NodeId) : s.keepsNode s m := ⟨rfl, rfl, fun _ => rfl, rfl⟩

theorem trans (h : s.keepsNode t m) (h' : t.keepsNode u m) : s.keepsNode u m :=
  ⟨h'.node.trans h.node, h'.port.trans h.port, fun i => (h'.records i).trans (h.records i), h'.level.trans h.level⟩

theorem recordsOf (h : s.keepsNode t m) : t.store.recordsOf m = s.store.recordsOf m := Store.recordsOf_congr h.records

theorem committed (h : s.keepsNode t m) : t.store.committed m = s.store.committed m := by
  rw [Store.committed, h.recordsOf, Store.committed]

theorem held_iff (h : s.keepsNode t m) {i : Slot} {r : Record} (own : r.node = m) :
    t.store.dir[i] = some r ↔ s.store.dir[i] = some r := by
  have filtered (o : Option Record) : o = some r ↔ o.filter (fun r => r.node = m) = some r := by
    rw [Option.filter_eq_some_iff]
    simp [own]
  rw [filtered t.store.dir[i], h.records i, ← filtered]

theorem uploads (h : s.keepsNode t m) (law : s.uploads m) : t.uploads m := by
  refine ⟨fun i names => ?_, ?_⟩
  · obtain ⟨r, held, own, uncommitted⟩ := law.held i (h.node ▸ names)
    exact ⟨r, (h.held_iff own).2 held, own, uncommitted⟩
  · rw [h.port, h.node, law.request]
    cases names : (s.node m).openRec with
    | none => rfl
    | some i =>
      obtain ⟨r, held, own, _⟩ := law.held i names
      simp only [Option.bind_some, held, (h.held_iff own).2 held]

/-- R91: a pass that is ended later is ended all the same. -/
theorem endsPass (h : s.keepsNode t m) (ends : t.endsPass u m) : s.endsPass u m := by
  rw [State.endsPass] at ends ⊢
  rw [ends, h.port, h.level, Store.newestGen_congr h.committed]

end State.keepsNode

theorem State.endsPass.keepsPort {s t u : State} {m : NodeId} (h : s.endsPass t m) (port : u.port (.node m) = t.port (.node m)) :
    s.endsPass u m := by
  rw [State.endsPass] at h ⊢
  rw [port, h]

/-! ### One node -/

section
variable {s : State} {n : NodeId}

/-- The law of uploads for node n alone. -/
structure State.uploadsWell (s : State) (n : NodeId) : Prop where
  uploads : s.uploads n
  closed : (s.node n).state.inService = false → (s.node n).openRec = none

theorem State.uploadsWell_of_uploadLaw (law : s.uploadLaw) (n : NodeId) : s.uploadsWell n :=
  ⟨State.uploads_of_uploadLaw law n, fun out => (State.unopened_of_uploadLaw law out).1⟩

theorem State.keepsNode.uploadsWell {t : State} (h : s.keepsNode t n) (law : s.uploadsWell n) : t.uploadsWell n :=
  ⟨h.uploads law.uploads, fun out => by rw [h.node] at out ⊢; exact law.closed out⟩

/-- R66: the removal of a record leaves the other nodes alone. -/
theorem State.keepsNode_removeRecord {i : Slot} {m : NodeId} (other : ∀ r, s.store.dir[i] = some r → r.node ≠ m) :
    s.keepsNode (s.removeRecord i) m := by
  refine ⟨?_, by simp, fun j => ?_, by simp⟩
  · cases held : s.store.dir[i] with
    | none => rw [State.removeRecord_of_none held]
    | some r => rw [State.node_removeRecord held, if_neg fun same => other r held same.symm]
  · rw [State.dir_removeRecord]
    split
    · next same =>
      subst same
      cases held : s.store.dir[j] with
      | none => rfl
      | some r => simp [Option.filter, other r held]
    · rfl

theorem State.keepsNode_removeRecords {slots : List Slot} {m : NodeId}
    (others : ∀ i ∈ slots, ∀ r, s.store.dir[i] = some r → r.node ≠ m) : s.keepsNode (s.removeRecords slots) m := by
  induction slots generalizing s with
  | nil => exact .refl s m
  | cons i slots ih =>
    have one := State.keepsNode_removeRecord (others i (List.mem_cons_self ..))
    refine one.trans (ih fun j later r held => others j (List.mem_cons_of_mem i later) r ?_)
    rw [State.dir_removeRecord] at held
    split at held
    · cases held
    · exact held

/-- R67: the record removed as a node leaves service is its own. -/
theorem State.keepsNode_leaveService (law : s.uploads n) {m : NodeId} (other : m ≠ n) (answered : Bool) :
    s.keepsNode (s.leaveService n answered) m := by
  refine ⟨?_, by simp [other], fun j => ?_, by simp⟩
  · rw [State.node_leaveService law, if_neg other]
  · obtain ⟨_, _, same⟩ | ⟨i, r, _, held, own, _, dropped⟩ := State.dropOpenRecord_cases answered law.timersStopped
    · rw [State.leaveService, same]
      simp
    · have removed : (s.leaveService n answered).store = (State.removeRecord
          (s.modNode n fun r => { r with lapse := none, stable := none, nudgeSent := false }) i).store := by
        rw [State.leaveService]
        obtain ⟨_, is⟩ | ⟨_, is⟩ := dropped <;> rw [is]
        split <;> simp
      have kept := (State.keepsNode_removeRecord (m := m)
        (s := s.modNode n fun r => { r with lapse := none, stable := none, nudgeSent := false }) (i := i) fun q at_i => by
          rw [held] at at_i
          cases at_i
          exact fun same => other (same.symm.trans own)).records j
      rw [removed]
      simpa using kept

/-- R168: the node out of service, its records not yet removed. -/
def State.outOfService (s : State) (n : NodeId) : State := if (s.node n).state.inService then s.leaveService n true else s

theorem State.uproot_eq : s.uproot n =
    (s.outOfService n).removeRecords (((s.outOfService n).store.recordsOf n).map Prod.fst) := rfl

/-- R69, R91: the records of the node are gone, and its pass has ended. -/
theorem State.uproot_self (law : s.uploadsWell n) : s.endsPass (s.uproot n) n ∧ (s.uproot n).store.recordsOf n = [] := by
  constructor
  · have ends : s.endsPass (s.outOfService n) n := by
      unfold State.outOfService
      split
      · exact State.endsPass_leaveService law.uploads
      · next out =>
        have free := law.uploads.request
        rw [law.closed (by simpa using out)] at free
        exact State.endsPass_of_free free rfl
    exact ends.keepsPort (by simp [State.uproot_eq])
  · refine List.eq_nil_iff_forall_not_mem.2 fun e inside => ?_
    obtain ⟨held, own⟩ := Store.mem_recordsOf.1 inside
    rw [State.uproot_eq, State.dir_removeRecords] at held
    split at held
    · cases held
    · next stays => exact stays (List.mem_map.2 ⟨e, Store.mem_recordsOf.2 ⟨held, own⟩, rfl⟩)

theorem State.keepsNode_uproot (law : s.uploads n) {m : NodeId} (other : m ≠ n) : s.keepsNode (s.uproot n) m := by
  have left : s.keepsNode (s.outOfService n) m := by
    unfold State.outOfService
    split
    exacts [State.keepsNode_leaveService law other true, .refl s m]
  refine left.trans (State.keepsNode_removeRecords fun i inside r held own => ?_)
  obtain ⟨e, listed, rfl⟩ := List.mem_map.1 inside
  obtain ⟨at_e, of_n⟩ := Store.mem_recordsOf.1 listed
  exact other (own.symm.trans ((congrArg Record.node (Option.some.inj (held.symm.trans at_e))).trans of_n))

end

/-! ### All of them -/

/-- R69, R91: each node of the list loses its records and its pass, and no other node is concerned. -/
theorem State.foldl_uproot {s : State} {ns : List NodeId} (nodup : ns.Nodup) (law : ∀ n ∈ ns, s.uploadsWell n) :
    (∀ m, m ∉ ns → s.keepsNode (ns.foldl State.uproot s) m)
      ∧ ∀ n ∈ ns, s.endsPass (ns.foldl State.uproot s) n ∧ (ns.foldl State.uproot s).store.recordsOf n = [] := by
  induction ns generalizing s with
  | nil => exact ⟨fun m _ => .refl s m, fun n inside => absurd inside (List.not_mem_nil)⟩
  | cons n ns ih =>
    obtain ⟨fresh, nodup⟩ := List.nodup_cons.1 nodup
    have here := law n (List.mem_cons_self ..)
    have one {m : NodeId} (other : m ≠ n) : s.keepsNode (s.uproot n) m := State.keepsNode_uproot here.uploads other
    obtain ⟨outside, inside⟩ := ih nodup fun m later =>
      (one fun same => fresh (same ▸ later)).uploadsWell (law m (List.mem_cons_of_mem n later))
    refine ⟨fun m out => ?_, fun m named => ?_⟩
    · rw [List.mem_cons, not_or] at out
      exact (one out.1).trans (outside m out.2)
    · rcases List.mem_cons.1 named with rfl | later
      · obtain ⟨ends, gone⟩ := State.uproot_self here
        exact ⟨ends.keepsPort (outside m fresh).port, (outside m fresh).recordsOf.trans gone⟩
      · obtain ⟨ends, gone⟩ := inside m later
        exact ⟨(one fun same => fresh (same ▸ later)).endsPass ends, gone⟩

end Sys2Proof.Machine

/-! PROOF. A group whose members change at an APPLY (R168, R121, R122). -/

namespace Sys2Proof.Machine

/-! ### The alert unit, flags only added -/

/-- The masks and the enable are as they were, and no flag is cleared. -/
structure State.addsFlags (s t : State) : Prop where
  masks : t.alerts.masks = s.alerts.masks
  enable : t.alerts.enable = s.alerts.enable
  flag : ∀ a, s.flag a = true → t.flag a = true

namespace State.addsFlags

variable {s t u : State}

theorem of_alerts (same : t.alerts = s.alerts) : s.addsFlags t :=
  ⟨by rw [same], by rw [same], fun a set => by rwa [State.flag_of_alerts same]⟩

theorem trans (h : s.addsFlags t) (h' : t.addsFlags u) : s.addsFlags u :=
  ⟨h'.masks.trans h.masks, h'.enable.trans h.enable, fun a set => h'.flag a (h.flag a set)⟩

theorem holdEntered (s : State) (g : GroupId) (base : Word) : s.addsFlags (s.holdEntered g base) := by
  refine ⟨?_, ?_, fun a set => by simp [State.flag_holdEntered, set]⟩
  all_goals
    unfold State.holdEntered
    dsimp only
    split <;> simp [State.raise]

end State.addsFlags

/-! ### The ways in which the roles of a group resolve -/

/-- What R121 can make of a group: it waits, it is served by its initial duty node or by the other member, or it enters the hold. -/
inductive State.resolvesTo (s : State) (g : GroupId) : State → Prop
  | waits : s.resolvesTo g s
  | byDuty {d : NodeId} (initial : s.active.initialDuty g = some d) :
      s.resolvesTo g (((s.assignRoles g d (s.active.otherMember g d)).tellRole g (some d) .duty).tellRole g
        (s.active.otherMember g d) .standby)
  | byOther {d o : NodeId} (initial : s.active.initialDuty g = some d) (other : s.active.otherMember g d = some o) :
      s.resolvesTo g ((s.assignRoles g o (some d)).tellRole g (some o) .duty)
  | held {d : NodeId} (initial : s.active.initialDuty g = some d) (known : ∀ m ∈ s.active.members g, (s.node m).state ≠ .unknown)
      (idle : (s.node d).state ≠ .running) (noOther : ∀ o, s.active.otherMember g d = some o → (s.node o).state ≠ .running) :
      s.resolvesTo g ((s.assignRoles g d (s.active.otherMember g d)).holdEntered g (s.designationBase d))

theorem State.resolvesTo_resolveIfKnown (s : State) (g : GroupId) : s.resolvesTo g (s.resolveIfKnown g) := by
  by_cases waits : (s.group g).state = .pending ∧ ∀ m ∈ s.active.members g, (s.node m).state ≠ .unknown
  · obtain ⟨pending, known⟩ := waits
    rw [State.resolveIfKnown_of_known pending known]
    cases initial : s.active.initialDuty g with
    | none =>
      have still : s.resolveRoles g = s := by simp [State.resolveRoles, initial]
      exact still.symm ▸ .waits
    | some d =>
      by_cases running : (s.node d).state = .running
      · rw [State.resolveRoles_of_duty initial running]
        exact .byDuty initial
      · by_cases served : ∃ o, s.active.otherMember g d = some o ∧ (s.node o).state = .running
        · obtain ⟨o, other, runs⟩ := served
          rw [State.resolveRoles_of_other initial running other runs]
          exact .byOther initial other
        · have noOther : ∀ o, s.active.otherMember g d = some o → (s.node o).state ≠ .running := fun o other runs =>
            served ⟨o, other, runs⟩
          rw [State.resolveRoles_of_none initial running noOther, State.enterHold_of_idle (.inr (by simpa using noOther))]
          exact .held initial known running noOther
  · have still : s.resolveIfKnown g = s := by
      by_cases pending : (s.group g).state = .pending
      · refine State.resolveIfKnown_of_unknown ?_
        by_contra none
        exact waits ⟨pending, fun m member unknown => none ⟨m, member, unknown⟩⟩
      · simp [State.resolveIfKnown, pending]
    exact still.symm ▸ .waits

namespace State.resolvesTo

variable {s t : State} {g : GroupId} (h : s.resolvesTo g t)
include h

theorem exchanges : t.exchanges = s.exchanges := by
  cases h <;> simp

/-- R122: only a member is told its role. -/
theorem port_of_stranger {n : NodeId} (stranger : s.active.groupOf n ≠ some g) : t.port (.node n) = s.port (.node n) := by
  have apart {m : NodeId} (member : m ∈ s.active.members g) : some m ≠ some n := fun same =>
    stranger ((s.active.mem_members g n).1 (Option.some.inj same ▸ member))
  cases h with
  | waits => rfl
  | @byDuty d initial =>
    have other : s.active.otherMember g d ≠ some n := fun is => apart (Plan.otherMember_spec is).1 rfl
    rw [State.port_tellRole_other _ _ other, State.port_tellRole_other _ _ (apart (List.mem_of_find?_eq_some initial))]
    simp
  | byOther _ other =>
    rw [State.port_tellRole_other _ _ (apart (Plan.otherMember_spec other).1)]
    simp
  | held => simp

theorem addsFlags : s.addsFlags t := by
  cases h with
  | waits => exact .of_alerts rfl
  | byDuty => exact .of_alerts (by simp)
  | byOther => exact .of_alerts (by simp)
  | held => exact .trans (.of_alerts (by simp)) (.holdEntered _ g _)

/-- R121: the alert unit is told nothing unless every member is known and none is RUNNING. -/
theorem alerts (passes : s.active.groupFault g = none)
    (calm : ∃ n ∈ s.active.members g, (s.node n).state = .unknown ∨ (s.node n).state = .running) : t.alerts = s.alerts := by
  cases h with
  | waits => rfl
  | byDuty => simp
  | byOther => simp
  | @held d initial known idle noOther =>
    obtain ⟨n, member, unknown | running⟩ := calm
    · exact absurd unknown (known n member)
    · have apart : n ≠ d := fun same => idle (same ▸ running)
      exact absurd running (noOther n (Plan.otherMember_eq passes (List.mem_of_find?_eq_some initial) member apart))

end State.resolvesTo

/-! ### The group takes the values of R9 -/

/-- A function of a record, applied to each node of a list. -/
theorem State.node_foldl_modNode {f : NodeRec → NodeRec} {ns : List NodeId} (nodup : ns.Nodup) (s : State) (m : NodeId) :
    (ns.foldl (fun s n => s.modNode n f) s).node m = if m ∈ ns then f (s.node m) else s.node m := by
  induction ns generalizing s with
  | nil => simp
  | cons n ns ih =>
    obtain ⟨fresh, nodup⟩ := List.nodup_cons.1 nodup
    rw [List.foldl_cons, ih nodup, State.node_modNode]
    by_cases same : m = n
    · subst same
      simp [fresh]
    · simp [same]

/-- R168: group g reset under its new members, its roles not yet resolved. -/
def State.regroupReset (s : State) (g : GroupId) : State :=
  ((s.active.members g).foldl (fun s n => s.modNode n NodeRec.regrouped) (s.forgetTake g)).setGroup g
    (.afterReset (s.active.members g))

theorem State.regroup_eq (s : State) (g : GroupId) : s.regroup g = (s.regroupReset g).resolveIfKnown g := rfl

section
variable (s : State) (g : GroupId)

@[simp] theorem State.regroupReset_kept : (s.regroupReset g).active = s.active ∧ (s.regroupReset g).clock = s.clock
    ∧ (s.regroupReset g).monitor = s.monitor ∧ (s.regroupReset g).alerts = s.alerts
    ∧ (s.regroupReset g).resetAsserted = s.resetAsserted ∧ (∀ l, (s.regroupReset g).port l = s.port l)
    ∧ (∀ k, k ≠ g → (s.regroupReset g).group k = s.group k)
    ∧ (s.regroupReset g).group g = .afterReset (s.active.members g) := by
  have groups (k : GroupId) :
      ((s.active.members g).foldl (fun s n => s.modNode n NodeRec.regrouped) (s.forgetTake g)).group k = s.group k := by
    simp [State.group]
  have ports (l : Link) :
      ((s.active.members g).foldl (fun s n => s.modNode n NodeRec.regrouped) (s.forgetTake g)).port l = s.port l := by
    cases l <;> simp [State.port]
  refine ⟨?_, ?_, ?_, ?_, ?_, ?_, ?_, ?_⟩ <;> simp +contextual [State.regroupReset, groups, ports]

theorem State.node_regroupReset (n : NodeId) :
    (s.regroupReset g).node n = if s.active.groupOf n = some g then (s.node n).regrouped else s.node n := by
  simp [State.regroupReset, State.node_foldl_modNode (s.active.nodup_members g)]

theorem State.exchange_regroupReset (n : NodeId) :
    (s.regroupReset g).exchange n =
      if (s.group g).outstanding = true ∧ (s.group g).standby = some n then ⟨none, none⟩ else s.exchange n := by
  have same : (s.regroupReset g).exchange n = (s.forgetTake g).exchange n := by
    simp [State.regroupReset, State.exchange]
  rw [same]
  unfold State.forgetTake
  by_cases outstanding : (s.group g).outstanding = true
  · rw [if_pos outstanding]
    cases standby : (s.group g).standby with
    | none => simp
    | some m =>
      rw [State.exchange_endExchange]
      simp [outstanding, ExchangeSlot.empty, eq_comm]
  · rw [if_neg outstanding, if_neg fun taking => outstanding taking.1]

/-! ### The group after its roles are resolved -/

theorem State.resolvesTo_regroup : (s.regroupReset g).resolvesTo g (s.regroup g) := State.resolvesTo_resolveIfKnown _ g

theorem State.node_regroup (n : NodeId) :
    (s.regroup g).node n = if s.active.groupOf n = some g then (s.node n).regrouped else s.node n := by
  rw [State.regroup_eq, ← s.node_regroupReset]
  simp

theorem State.exchange_regroup (n : NodeId) :
    (s.regroup g).exchange n =
      if (s.group g).outstanding = true ∧ (s.group g).standby = some n then ⟨none, none⟩ else s.exchange n := by
  rw [State.exchange, (s.resolvesTo_regroup g).exchanges, ← s.exchange_regroupReset]
  rfl

theorem State.group_regroup_other {k : GroupId} (other : k ≠ g) : (s.regroup g).group k = s.group k := by
  simp [State.regroup_eq, other]

theorem State.port_regroup_of_stranger {n : NodeId} (stranger : s.active.groupOf n ≠ some g) :
    (s.regroup g).port (.node n) = s.port (.node n) := by
  rw [(s.resolvesTo_regroup g).port_of_stranger (by simpa using stranger)]
  simp

theorem State.supervisor_regroup : (s.regroup g).port .supervisor = s.port .supervisor := by
  rw [State.regroup_eq, State.supervisor_resolveIfKnown]
  simp

theorem State.addsFlags_regroup : s.addsFlags (s.regroup g) :=
  .trans (.of_alerts (by simp)) (s.resolvesTo_regroup g).addsFlags

theorem State.flag_regroup {a : Alert} (notHeld : a ≠ .held) (notUnserved : a ≠ .unserved) : (s.regroup g).flag a = s.flag a := by
  rw [State.regroup_eq, State.flag_resolveIfKnown _ _ notHeld notUnserved]
  exact State.flag_of_alerts (by simp) a

end

section
variable {s : State} {g : GroupId}

/-- R9: a group without members is vacant. -/
theorem State.regroup_of_empty (empty : s.active.members g = []) : s.regroup g = s.regroupReset g := by
  simp [State.regroup_eq, State.resolveIfKnown, empty, GroupRec.afterReset]

theorem GroupRec.afterReset_of_members {ns : List NodeId} (members : ns ≠ []) :
    GroupRec.afterReset ns = { GroupRec.atReset with state := .pending } := by
  simp [GroupRec.afterReset, members]

/-- R121: the group waits for the member that is not known. -/
theorem State.regroup_of_unknown {n : NodeId} (member : s.active.groupOf n = some g) (unknown : (s.node n).state = .unknown) :
    s.regroup g = s.regroupReset g := by
  rw [State.regroup_eq]
  refine State.resolveIfKnown_of_unknown ⟨n, by simpa using member, ?_⟩
  rw [State.node_regroupReset, if_pos member]
  simp [NodeRec.regrouped, unknown]

theorem State.alerts_regroup (passes : s.active.groupFault g = none)
    (calm : s.active.members g = []
      ∨ ∃ n ∈ s.active.members g, (s.node n).regrouped.state = .unknown ∨ (s.node n).regrouped.state = .running) :
    (s.regroup g).alerts = s.alerts := by
  obtain empty | ⟨n, member, state⟩ := calm
  · simp [State.regroup_of_empty empty]
  · have inGroup := (s.active.mem_members g n).1 member
    rw [(s.resolvesTo_regroup g).alerts (by simpa using passes) ⟨n, by simpa using inGroup, ?_⟩]
    · simp
    · rwa [State.node_regroupReset, if_pos inGroup]

/-! ### A group with one member -/

theorem Plan.initialDuty_of_sole {p : Plan} {n : NodeId} (sole : p.members g = [n]) (passes : p.groupFault g = none) :
    p.initialDuty g = some n := by
  have one : (p.duties g).length = 1 := by
    obtain empty | ⟨_, one⟩ := Plan.groupFault_eq_none.1 passes
    · simp [sole] at empty
    · exact one
  rw [Plan.duties, sole] at one
  rw [Plan.initialDuty, sole]
  by_cases duty : (p.nodes.get n).role = .duty
  · simp [duty]
  · simp [duty] at one

theorem Plan.otherMember_of_sole {p : Plan} {n : NodeId} (sole : p.members g = [n]) : p.otherMember g n = none := by
  simp [Plan.otherMember, sole]

section
variable {n : NodeId} (sole : s.active.members g = [n])
include sole

theorem State.regroup_of_sole (known : (s.node n).state ≠ .unknown) : s.regroup g = (s.regroupReset g).resolveRoles g := by
  have inGroup : s.active.groupOf n = some g := (s.active.mem_members g n).1 (by simp [sole])
  rw [State.regroup_eq]
  refine State.resolveIfKnown_of_known ?_ fun m member => ?_
  · simp [sole, GroupRec.afterReset]
  · obtain rfl : m = n := by simpa [sole] using (s.active.mem_members g m).2 (by simpa using member)
    rw [State.node_regroupReset, if_pos inGroup]
    unfold NodeRec.regrouped
    dsimp only
    split
    · simp
    · exact known

variable (passes : s.active.groupFault g = none)
include passes

/-- R121, R122: the only member serves, and is told so. -/
theorem State.regroup_of_serving (level : s.resetAsserted = false) (serves : (s.node n).state = .running ∨ (s.node n).state = .quiet) :
    (s.regroup g).group g = { GroupRec.atReset with state := .served, duty := some n }
      ∧ (s.regroup g).port (.node n) = { s.port (.node n) with sent := (s.port (.node n)).sent ++ [.role g .duty] } := by
  have inGroup : s.active.groupOf n = some g := (s.active.mem_members g n).1 (by simp [sole])
  have running : ((s.regroupReset g).node n).state = .running := by
    rw [State.node_regroupReset, if_pos inGroup]
    rcases serves with state | state <;> simp [NodeRec.regrouped, state]
  obtain ⟨group, port⟩ := State.resolveRoles_of_running (s := s.regroupReset g) (g := g) (n := n) (d := n) (by simpa using passes)
    (by simpa using inGroup) running (by simpa using Plan.initialDuty_of_sole sole passes)
  rw [State.regroup_of_sole sole (by rcases serves with state | state <;> simp [state])]
  refine ⟨group.trans ?_, port.trans (by simp [level])⟩
  simp [sole, GroupRec.afterReset, Plan.otherMember_of_sole sole, GroupRec.atReset]

/-- R121: the only member is designated out of service, and no BEAT has come from it since. -/
theorem State.regroup_of_idle (known : (s.node n).state ≠ .unknown) (notRunning : (s.node n).state ≠ .running)
    (notQuiet : (s.node n).state ≠ .quiet) :
    s.entersHold (s.regroup g) g (s.groupPlan g) n none s.clock.ms ∧ ((s.regroup g).group g).outstanding = false
      ∧ (s.regroup g).port (.node n) = s.port (.node n) := by
  have inGroup : s.active.groupOf n = some g := (s.active.mem_members g n).1 (by simp [sole])
  have alone := Plan.otherMember_of_sole sole
  have idle : ((s.regroupReset g).node n).state ≠ .running := by
    rw [State.node_regroupReset, if_pos inGroup]
    simpa [NodeRec.regrouped, notQuiet] using notRunning
  have base : (s.regroupReset g).designationBase n = s.clock.ms := by
    rw [State.designationBase_eq, State.node_regroupReset, if_pos inGroup]
    simp [NodeRec.regrouped]
  let v := (s.regroupReset g).assignRoles g n none
  have resolved : s.regroup g = v.holdEntered g s.clock.ms := by
    rw [State.regroup_of_sole sole known, State.resolveRoles_of_none (d := n) (by simpa using Plan.initialDuty_of_sole sole passes)
      idle (by simp [alone]), base, State.enterHold_of_idle (.inr (by simp [alone]))]
    simp [v, alone]
  have plan : v.groupPlan g = s.groupPlan g := by simp [v, State.groupPlan]
  have entered := State.entersHold_holdEntered (s := v) (g := g) (base := s.clock.ms) (d := n) (o := none) (by simp [v]) (by simp [v])
  rw [plan] at entered
  rw [resolved]
  refine ⟨State.entersHold_congr (by simp [v]) (by simp [v]) entered, ?_, by simp [v]⟩
  rw [State.group_holdEntered]
  rfl

end

end

end Sys2Proof.Machine

/-! PROOF. The groups whose members change at an APPLY, one after another (R168). -/

namespace Sys2Proof.Machine

/-! ### What concerns one group -/

/-- The record of group g, its members, their links and what a hold is counted from are as they were, and no flag is cleared. -/
structure State.keepsGroup (s t : State) (g : GroupId) : Prop where
  active : t.active = s.active
  clock : t.clock = s.clock
  monitor : t.monitor = s.monitor
  level : t.resetAsserted = s.resetAsserted
  group : t.group g = s.group g
  node : ∀ n, s.active.groupOf n = some g → t.node n = s.node n
  port : ∀ n, s.active.groupOf n = some g → t.port (.node n) = s.port (.node n)
  addsFlags : s.addsFlags t

namespace State.keepsGroup

variable {s t u : State} {g : GroupId}

theorem refl (s : State) (g : GroupId) : s.keepsGroup s g := ⟨rfl, rfl, rfl, rfl, rfl, fun _ _ => rfl, fun _ _ => rfl, .of_alerts rfl⟩

theorem trans (h : s.keepsGroup t g) (h' : t.keepsGroup u g) : s.keepsGroup u g where
  active := h'.active.trans h.active
  clock := h'.clock.trans h.clock
  monitor := h'.monitor.trans h.monitor
  level := h'.level.trans h.level
  group := h'.group.trans h.group
  node n member := (h'.node n (h.active ▸ member)).trans (h.node n member)
  port n member := (h'.port n (h.active ▸ member)).trans (h.port n member)
  addsFlags := h.addsFlags.trans h'.addsFlags

theorem groupPlan (h : s.keepsGroup t g) : t.groupPlan g = s.groupPlan g := by rw [State.groupPlan, h.active, State.groupPlan]

/-- A hold that group g has entered is not undone. -/
theorem entersHold (h : t.keepsGroup u g) {p : GroupPlan} {d : NodeId} {o : Option NodeId} {base : Word}
    (entered : s.entersHold t g p d o base) : s.entersHold u g p d o base := by
  obtain ⟨deadline, point, duty, standby, declined, later, escalated, held, past, ahead⟩ := entered
  simp only [State.entersHold, h.group]
  exact ⟨deadline, point, duty, standby, declined, later, escalated, h.addsFlags.flag _ held,
    fun reached => (past reached).imp id (h.addsFlags.flag _), ahead⟩

/-- R168: another group is reset. -/
theorem regroup (s : State) {k : GroupId} (other : k ≠ g) : s.keepsGroup (s.regroup k) g := by
  have apart {n : NodeId} (member : s.active.groupOf n = some g) : s.active.groupOf n ≠ some k := fun same =>
    other (Option.some.inj (same.symm.trans member))
  exact ⟨by simp, by simp, by simp, by simp, s.group_regroup_other k other.symm,
    fun n member => by rw [State.node_regroup, if_neg (apart member)],
    fun n member => s.port_regroup_of_stranger k (apart member), s.addsFlags_regroup k⟩

theorem foldl {gs : List GroupId} (out : g ∉ gs) : s.keepsGroup (gs.foldl State.regroup s) g := by
  induction gs generalizing s with
  | nil => exact .refl s g
  | cons k gs ih =>
    rw [List.mem_cons, not_or] at out
    exact (regroup s (Ne.symm out.1)).trans (ih out.2)

end State.keepsGroup

/-! ### All of them -/

section
variable (gs : List GroupId) (s : State)

theorem State.supervisor_foldl_regroup : (gs.foldl State.regroup s).port .supervisor = s.port .supervisor :=
  foldl_keeps _ (fun s : State => s.port .supervisor) (fun s g => s.supervisor_regroup g) gs s

theorem State.flag_foldl_regroup {a : Alert} (notHeld : a ≠ .held) (notUnserved : a ≠ .unserved) :
    (gs.foldl State.regroup s).flag a = s.flag a :=
  foldl_keeps _ (fun s : State => s.flag a) (fun s g => s.flag_regroup g notHeld notUnserved) gs s

theorem State.masks_foldl_regroup : (gs.foldl State.regroup s).alerts.masks = s.alerts.masks :=
  foldl_keeps _ (fun s : State => s.alerts.masks) (fun s g => (s.addsFlags_regroup g).masks) gs s

theorem State.enable_foldl_regroup : (gs.foldl State.regroup s).alerts.enable = s.alerts.enable :=
  foldl_keeps _ (fun s : State => s.alerts.enable) (fun s g => (s.addsFlags_regroup g).enable) gs s

end

section
variable {gs : List GroupId} {s : State}

/-- A node that is in none of the groups. -/
theorem State.foldl_regroup_of_stranger {n : NodeId} (stranger : ∀ g ∈ gs, s.active.groupOf n ≠ some g) :
    (gs.foldl State.regroup s).node n = s.node n ∧ (gs.foldl State.regroup s).port (.node n) = s.port (.node n) := by
  induction gs generalizing s with
  | nil => exact ⟨rfl, rfl⟩
  | cons g gs ih =>
    have here := stranger g (List.mem_cons_self ..)
    obtain ⟨node, port⟩ := ih (s := s.regroup g) fun k later => by simpa using stranger k (List.mem_cons_of_mem g later)
    exact ⟨node.trans (by rw [State.node_regroup, if_neg here]), port.trans (s.port_regroup_of_stranger g here)⟩

variable (nodup : gs.Nodup)
include nodup

/-- R168: a TAKE outstanding for one of the groups is forgotten. -/
theorem State.exchange_foldl_regroup (n : NodeId) :
    (gs.foldl State.regroup s).exchange n =
      if ∃ g ∈ gs, (s.group g).outstanding = true ∧ (s.group g).standby = some n then ⟨none, none⟩ else s.exchange n := by
  induction gs generalizing s with
  | nil => simp
  | cons g gs ih =>
    obtain ⟨fresh, nodup⟩ := List.nodup_cons.1 nodup
    have later : (∃ k ∈ gs, ((s.regroup g).group k).outstanding = true ∧ ((s.regroup g).group k).standby = some n)
        ↔ ∃ k ∈ gs, (s.group k).outstanding = true ∧ (s.group k).standby = some n := by
      refine exists_congr fun k => and_congr_right fun inside => ?_
      rw [s.group_regroup_other g fun same => fresh (same ▸ inside)]
    rw [List.foldl_cons, ih nodup, State.exchange_regroup, if_congr later rfl rfl]
    by_cases rest : ∃ k ∈ gs, (s.group k).outstanding = true ∧ (s.group k).standby = some n
    · rw [if_pos rest, if_pos ((List.exists_mem_cons_iff _ _ _).2 (.inr rest))]
    · rw [if_neg rest]
      exact if_congr ((List.exists_mem_cons_iff _ _ _).trans (or_iff_left rest)).symm rfl rfl

/-- R121: the alert unit is told nothing if no group enters the hold. -/
theorem State.alerts_foldl_regroup (passes : ∀ g, s.active.groupFault g = none)
    (calm : ∀ g ∈ gs, s.active.members g = []
      ∨ ∃ n ∈ s.active.members g, (s.node n).regrouped.state = .unknown ∨ (s.node n).regrouped.state = .running) :
    (gs.foldl State.regroup s).alerts = s.alerts := by
  induction gs generalizing s with
  | nil => rfl
  | cons g gs ih =>
    obtain ⟨fresh, nodup⟩ := List.nodup_cons.1 nodup
    have later := ih nodup (s := s.regroup g) (by simpa using passes) fun k inside => by
      have kept := State.keepsGroup.regroup s (g := k) (k := g) fun same => fresh (same ▸ inside)
      rw [kept.active]
      refine (calm k (List.mem_cons_of_mem g inside)).imp id fun ⟨n, member, state⟩ => ⟨n, member, ?_⟩
      rwa [kept.node n ((s.active.mem_members k n).1 member)]
    exact later.trans (State.alerts_regroup (passes g) (calm g (List.mem_cons_self ..)))

variable {g : GroupId} (inside : g ∈ gs)
include inside

/-- One of the groups is reset when what concerns it is as at first, and nothing that concerns it changes later. -/
theorem State.foldl_regroup_at :
    ∃ w : State, s.keepsGroup w g ∧ (w.regroup g).keepsGroup (gs.foldl State.regroup s) g := by
  obtain ⟨before, after, rfl⟩ := List.append_of_mem inside
  obtain ⟨_, nodup, apart⟩ := List.nodup_append.1 nodup
  refine ⟨before.foldl State.regroup s, .foldl fun early => apart g early g (List.mem_cons_self ..) rfl, ?_⟩
  rw [List.foldl_append, List.foldl_cons]
  exact .foldl (List.nodup_cons.1 nodup).1

theorem State.node_foldl_regroup {n : NodeId} (member : s.active.groupOf n = some g) :
    (gs.foldl State.regroup s).node n = (s.node n).regrouped := by
  obtain ⟨w, first, last⟩ := State.foldl_regroup_at nodup inside (s := s)
  have member' : w.active.groupOf n = some g := by rwa [first.active]
  rw [last.node n (by simpa using member'), State.node_regroup, if_pos member', first.node n member]

theorem State.group_foldl_regroup_of_empty (empty : s.active.members g = []) :
    (gs.foldl State.regroup s).group g = GroupRec.atReset := by
  obtain ⟨w, first, last⟩ := State.foldl_regroup_at nodup inside (s := s)
  have empty' : w.active.members g = [] := by rwa [first.active]
  rw [last.group, State.regroup_of_empty empty']
  simp [empty', GroupRec.afterReset, GroupRec.atReset]

/-- R121: a group with a member in UNKNOWN waits, and none of its members is sent anything. -/
theorem State.foldl_regroup_of_unknown {n : NodeId} (member : s.active.groupOf n = some g) (unknown : (s.node n).state = .unknown) :
    (gs.foldl State.regroup s).group g = { GroupRec.atReset with state := .pending }
      ∧ (gs.foldl State.regroup s).port (.node n) = s.port (.node n) := by
  obtain ⟨w, first, last⟩ := State.foldl_regroup_at nodup inside (s := s)
  have member' : w.active.groupOf n = some g := by rwa [first.active]
  have waits := State.regroup_of_unknown member' (by rwa [first.node n member])
  rw [last.group, last.port n (by simpa using member'), waits, ← first.port n member]
  refine ⟨?_, by simp⟩
  have members : w.active.members g ≠ [] := List.ne_nil_of_mem ((w.active.mem_members g n).2 member')
  simp [GroupRec.afterReset_of_members members]

section
variable {n : NodeId} (sole : s.active.members g = [n]) (passes : s.active.groupFault g = none)
include sole passes

theorem State.foldl_regroup_of_serving (level : s.resetAsserted = false)
    (serves : (s.node n).state = .running ∨ (s.node n).state = .quiet) :
    (gs.foldl State.regroup s).group g = { GroupRec.atReset with state := .served, duty := some n }
      ∧ (gs.foldl State.regroup s).port (.node n) =
        { s.port (.node n) with sent := (s.port (.node n)).sent ++ [.role g .duty] } := by
  obtain ⟨w, first, last⟩ := State.foldl_regroup_at nodup inside (s := s)
  have member : s.active.groupOf n = some g := (s.active.mem_members g n).1 (by simp [sole])
  obtain ⟨group, port⟩ := State.regroup_of_serving (s := w) (by rwa [first.active]) (by rwa [first.active])
    (by rwa [first.level]) (by rwa [first.node n member])
  rw [last.group, last.port n (by simpa [first.active] using member), ← first.port n member]
  exact ⟨group, port⟩

theorem State.foldl_regroup_of_idle (known : (s.node n).state ≠ .unknown) (notRunning : (s.node n).state ≠ .running)
    (notQuiet : (s.node n).state ≠ .quiet) :
    s.entersHold (gs.foldl State.regroup s) g (s.groupPlan g) n none s.clock.ms
      ∧ ((gs.foldl State.regroup s).group g).outstanding = false
      ∧ (gs.foldl State.regroup s).port (.node n) = s.port (.node n) := by
  obtain ⟨w, first, last⟩ := State.foldl_regroup_at nodup inside (s := s)
  have member : s.active.groupOf n = some g := (s.active.mem_members g n).1 (by simp [sole])
  obtain ⟨entered, outstanding, port⟩ := State.regroup_of_idle (s := w) (g := g) (n := n) (by rwa [first.active])
    (by rwa [first.active]) (by rwa [first.node n member]) (by rwa [first.node n member]) (by rwa [first.node n member])
  rw [first.groupPlan, first.clock] at entered
  rw [last.group, last.port n (by simpa [first.active] using member), ← first.port n member]
  exact ⟨State.entersHold_congr first.clock first.monitor (last.entersHold entered), outstanding, port⟩

end

end

end Sys2Proof.Machine

/-! PROOF. An APPLY that passes (R168, R91, R121, R122). -/

namespace Sys2Proof.Machine

/-! ### The two plans -/

section
variable (s : State)

/-- R168: the nodes of a group that leave it. -/
def State.moving : List NodeId := NodeId.all.filter fun n => (s.active.groupOf n).isSome && s.active.moves s.staged n

/-- R168: the groups whose members change. -/
def State.changed : List GroupId := GroupId.all.filter fun g => s.active.members g ≠ s.staged.members g

/-- R168: the nodes that leave their group have left service and lost their records. -/
def State.uprooted : State := s.moving.foldl State.uproot s

/-- R168: the staged plan is active, and the groups are not yet reset. -/
def State.replanned : State :=
  { s.uprooted with
    active := s.staged, nodes := .ofFn fun n => settleNode s.active s.staged n (s.uprooted.node n) }

theorem State.activate_eq : s.activate = s.changed.foldl State.regroup s.replanned := rfl

theorem State.nodup_moving : s.moving.Nodup := NodeId.nodup_all.filter _

theorem State.nodup_changed : s.changed.Nodup := GroupId.nodup_all.filter _

theorem State.mem_moving {n : NodeId} :
    n ∈ s.moving ↔ s.active.groupOf n ≠ none ∧ s.active.groupOf n ≠ s.staged.groupOf n := by
  simp [State.moving, Plan.moves, Option.isSome_iff_ne_none]

theorem State.mem_changed {g : GroupId} : g ∈ s.changed ↔ s.active.members g ≠ s.staged.members g := by
  simp [State.changed]

@[simp] theorem State.supervisor_uprooted : s.uprooted.port .supervisor = s.port .supervisor :=
  foldl_keeps _ (fun s : State => s.port .supervisor) (fun s n => by simp) s.moving s

@[simp] theorem State.replanned_kept : s.replanned.active = s.staged ∧ s.replanned.clock = s.clock
    ∧ s.replanned.monitor = s.monitor ∧ s.replanned.alerts = s.alerts ∧ s.replanned.resetAsserted = s.resetAsserted
    ∧ s.replanned.store = s.uprooted.store ∧ (∀ l, s.replanned.port l = s.uprooted.port l)
    ∧ (∀ g, s.replanned.group g = s.group g) ∧ (∀ n, s.replanned.exchange n = s.exchange n)
    ∧ ∀ n, s.replanned.node n = settleNode s.active s.staged n (s.uprooted.node n) := by
  have port (l : Link) : s.replanned.port l = s.uprooted.port l := by cases l <;> rfl
  refine ⟨rfl, ?_, ?_, ?_, ?_, rfl, port, ?_, ?_, ?_⟩
  all_goals simp [State.replanned, State.uprooted, State.group, State.exchange, State.node]

end

section
variable {s : State} {n : NodeId}

theorem State.keepsNode_uprooted (law : s.uploadLaw) (stays : s.active.groupOf n = none ∨ s.active.groupOf n = s.staged.groupOf n) :
    s.keepsNode s.uprooted n :=
  (State.foldl_uproot s.nodup_moving fun m _ => State.uploadsWell_of_uploadLaw law m).1 n fun moves =>
    stays.elim (s.mem_moving.1 moves).1 (s.mem_moving.1 moves).2

theorem State.uprooted_of_moving (law : s.uploadLaw) (group : s.active.groupOf n ≠ none)
    (moves : s.active.groupOf n ≠ s.staged.groupOf n) : s.endsPass s.uprooted n ∧ s.uprooted.store.recordsOf n = [] :=
  (State.foldl_uproot s.nodup_moving fun m _ => State.uploadsWell_of_uploadLaw law m).2 n (s.mem_moving.2 ⟨group, moves⟩)

end

section
variable {old new : Plan} {n : NodeId}

theorem settleNode_of_stays (same : old.groupOf n = new.groupOf n) (r : NodeRec) :
    settleNode old new n r = { r with attempts := min r.attempts (new.nodes.get n).attemptLimit } := by
  simp [settleNode, Plan.moves, same]

theorem settleNode_of_enters (moves : old.groupOf n ≠ new.groupOf n) (group : new.groupOf n ≠ none) (r : NodeRec) :
    settleNode old new n r = NodeRec.entersUnknown (new.nodes.get n) := by
  have present : (new.nodes.get n).present = true := by
    by_contra absent
    exact group (if_neg absent)
  simp [settleNode, Plan.moves, moves, present]

theorem settleNode_of_leaves (moves : old.groupOf n ≠ new.groupOf n) (group : new.groupOf n = none) (r : NodeRec) :
    settleNode old new n r = NodeRec.atReset := by
  have absent : (new.nodes.get n).present = false := by
    cases present : (new.nodes.get n).present with
    | false => rfl
    | true => simp [Plan.groupOf, present] at group
  simp [settleNode, Plan.moves, moves, absent]

theorem NodeRec.regrouped_entersUnknown (p : NodePlan) :
    (NodeRec.entersUnknown p).regrouped = NodeRec.entersUnknown p := by
  simp [NodeRec.regrouped, NodeRec.entersUnknown, NodeRec.atReset]

end

/-! ### The nodes -/

section
variable {s : State} {n : NodeId} (law : s.uploadLaw)
include law

theorem State.replanned_of_staying {g : GroupId} (before : s.active.groupOf n = some g) (after : s.staged.groupOf n = some g) :
    s.replanned.node n = { s.node n with attempts := min (s.node n).attempts (s.staged.nodes.get n).attemptLimit } := by
  have same : s.active.groupOf n = s.staged.groupOf n := before.trans after.symm
  simp [settleNode_of_stays same, (State.keepsNode_uprooted law (.inr same)).node]

/-- A node of a group that it keeps. -/
theorem State.activate_of_staying {g : GroupId} (before : s.active.groupOf n = some g) (after : s.staged.groupOf n = some g) :
    let settled := { s.node n with attempts := min (s.node n).attempts (s.staged.nodes.get n).attemptLimit }
    s.activate.store.committed n = s.store.committed n
      ∧ (s.active.members g = s.staged.members g → s.activate.port (.node n) = s.port (.node n) ∧ s.activate.node n = settled)
      ∧ (s.active.members g ≠ s.staged.members g → s.activate.node n = settled.regrouped) := by
  intro settled
  have same : s.active.groupOf n = s.staged.groupOf n := before.trans after.symm
  have kept := State.keepsNode_uprooted law (.inr same)
  have node : s.replanned.node n = settled := State.replanned_of_staying law before after
  refine ⟨?_, fun keeps => ?_, fun changes => ?_⟩
  · rw [← kept.committed]
    simp [State.activate_eq]
  · obtain ⟨same_node, port⟩ := State.foldl_regroup_of_stranger (gs := s.changed) (s := s.replanned) (n := n)
      fun k changed member => by
        obtain rfl : k = g := Option.some.inj (member.symm.trans after)
        exact s.mem_changed.1 changed keeps
    exact ⟨port.trans (by simp [kept.port]), same_node.trans node⟩
  · rw [State.activate_eq, State.node_foldl_regroup s.nodup_changed (s.mem_changed.2 changes) (by simpa using after), node]

/-- A node that is in no group of the staged plan. -/
theorem State.activate_of_leaving (before : s.active.groupOf n ≠ none) (after : s.staged.groupOf n = none) :
    s.activate.node n = NodeRec.atReset ∧ s.activate.store.recordsOf n = [] ∧ s.endsPass s.activate n := by
  have moves : s.active.groupOf n ≠ s.staged.groupOf n := by rwa [after]
  obtain ⟨ends, gone⟩ := State.uprooted_of_moving law before moves
  obtain ⟨node, port⟩ := State.foldl_regroup_of_stranger (gs := s.changed) (s := s.replanned) (n := n) (by simp [after])
  exact ⟨node.trans (by simp [settleNode_of_leaves moves after]), by simpa [State.activate_eq] using gone,
    ends.keepsPort (port.trans (by simp))⟩

/-- A node that the staged plan puts into a group. -/
theorem State.activate_of_entering (after : s.staged.groupOf n ≠ none) (moves : s.active.groupOf n ≠ s.staged.groupOf n) :
    s.activate.node n = NodeRec.entersUnknown (s.staged.nodes.get n)
      ∧ (s.active.groupOf n ≠ none → s.activate.store.recordsOf n = [] ∧ s.endsPass s.activate n)
      ∧ (s.active.groupOf n = none → s.activate.port (.node n) = s.port (.node n)) := by
  obtain ⟨g, member⟩ := Option.ne_none_iff_exists'.1 after
  have changed : g ∈ s.changed := s.mem_changed.2 fun keeps => moves (by
    rw [member, ← Plan.mem_members, keeps, Plan.mem_members, member])
  have node : s.replanned.node n = NodeRec.entersUnknown (s.staged.nodes.get n) := by
    simp [settleNode_of_enters moves after]
  have port : s.activate.port (.node n) = s.uprooted.port (.node n) :=
    (State.foldl_regroup_of_unknown s.nodup_changed changed (s := s.replanned) (n := n) (by simpa using member)
      (by rw [node]; rfl)).2.trans (by simp)
  refine ⟨?_, fun before => ?_, fun before => ?_⟩
  · rw [State.activate_eq, State.node_foldl_regroup s.nodup_changed changed (by simpa using member), node,
      NodeRec.regrouped_entersUnknown]
  · obtain ⟨ends, gone⟩ := State.uprooted_of_moving law before moves
    exact ⟨by simpa [State.activate_eq] using gone, ends.keepsPort port⟩
  · exact port.trans (State.keepsNode_uprooted law (.inl before)).port

end

/-! ### The groups -/

theorem NodeRec.unknown_of_regrouped {r : NodeRec} (unknown : r.regrouped.state = .unknown) : r.state = .unknown := by
  unfold NodeRec.regrouped at unknown
  dsimp only at unknown
  split at unknown
  · cases unknown
  · exact unknown

section
variable {s : State} {g : GroupId}

theorem State.node_activate_of_changed (changes : s.active.members g ≠ s.staged.members g) {n : NodeId}
    (member : s.staged.groupOf n = some g) : s.activate.node n = (s.replanned.node n).regrouped :=
  State.node_foldl_regroup s.nodup_changed (s.mem_changed.2 changes) (by simpa using member)

theorem State.group_activate_of_kept (keeps : s.active.members g = s.staged.members g) : s.activate.group g = s.group g :=
  (State.keepsGroup.foldl (s := s.replanned) fun changed => s.mem_changed.1 changed keeps).group.trans (by simp)

theorem State.group_activate_of_empty (changes : s.active.members g ≠ s.staged.members g) (empty : s.staged.members g = []) :
    s.activate.group g = GroupRec.atReset :=
  State.group_foldl_regroup_of_empty s.nodup_changed (s.mem_changed.2 changes) (by simpa using empty)

theorem State.group_activate_of_unknown (changes : s.active.members g ≠ s.staged.members g) {n : NodeId}
    (inside : n ∈ s.staged.members g) (unknown : (s.activate.node n).state = .unknown) :
    s.activate.group g = { GroupRec.atReset with state := .pending } := by
  have member := (s.staged.mem_members g n).1 inside
  rw [State.node_activate_of_changed changes member] at unknown
  exact (State.foldl_regroup_of_unknown s.nodup_changed (s.mem_changed.2 changes) (by simpa using member)
    (NodeRec.unknown_of_regrouped unknown)).1

theorem State.exchange_activate (n : NodeId) :
    s.activate.exchange n =
      if ∃ g ∈ s.changed, (s.group g).outstanding = true ∧ (s.group g).standby = some n then ⟨none, none⟩ else s.exchange n := by
  rw [State.activate_eq, State.exchange_foldl_regroup s.nodup_changed]
  simp

theorem State.flag_activate {a : Alert} (notHeld : a ≠ .held) (notUnserved : a ≠ .unserved) : s.activate.flag a = s.flag a :=
  (State.flag_foldl_regroup s.changed s.replanned notHeld notUnserved).trans (State.flag_of_alerts (by simp) a)

variable (passes : s.staged.firstFault = none)
include passes

/-- R121: the alert unit is told nothing if each group that changes is empty, waits, or has a member that serves. -/
theorem State.alerts_activate (calm : ∀ g, s.active.members g ≠ s.staged.members g → s.staged.members g = []
      ∨ ∃ n ∈ s.staged.members g, (s.activate.node n).state = .unknown ∨ (s.activate.node n).state = .running) :
    s.activate.alerts = s.alerts := by
  have quiet := State.alerts_foldl_regroup (s := s.replanned) s.nodup_changed
    (by simpa using Plan.groupFault_of_firstFault passes) fun g changed => by
      have changes := s.mem_changed.1 changed
      refine (calm g changes).imp (by simp) fun ⟨n, inside, state⟩ => ⟨n, by simpa using inside, ?_⟩
      rwa [State.node_activate_of_changed changes ((s.staged.mem_members g n).1 inside)] at state
  exact quiet.trans (by simp)

section
variable {n : NodeId} (law : s.uploadLaw) (changes : s.active.members g ≠ s.staged.members g) (sole : s.staged.members g = [n])
  (stays : n ∈ s.active.members g)
include law changes sole stays

/-- R168, R122: the member that is left serves. -/
theorem State.activate_of_serving (level : s.resetAsserted = false)
    (serves : (s.node n).state = .running ∨ (s.node n).state = .quiet) :
    s.activate.group g = { GroupRec.atReset with state := .served, duty := some n }
      ∧ s.activate.port (.node n) = { s.port (.node n) with sent := (s.port (.node n)).sent ++ [.role g .duty] } := by
  have before := (s.active.mem_members g n).1 stays
  have after : s.staged.groupOf n = some g := (s.staged.mem_members g n).1 (by simp [sole])
  have port := (State.keepsNode_uprooted law (.inr (before.trans after.symm))).port
  have served := State.foldl_regroup_of_serving (s := s.replanned) s.nodup_changed (s.mem_changed.2 changes)
    (by simpa using sole) (by simpa using Plan.groupFault_of_firstFault passes g) (by simpa using level)
    (by simpa [State.replanned_of_staying law before after] using serves)
  simpa [← State.activate_eq, port] using served

/-- R168, log entry 12: the member that is left is out of service, and the hold is counted from now. -/
theorem State.activate_of_idle (known : (s.node n).state ≠ .unknown) (notRunning : (s.node n).state ≠ .running)
    (notQuiet : (s.node n).state ≠ .quiet) :
    s.entersHold s.activate g (s.staged.groups.get g) n none s.clock.ms ∧ (s.activate.group g).outstanding = false
      ∧ s.activate.port (.node n) = s.port (.node n) := by
  have before := (s.active.mem_members g n).1 stays
  have after : s.staged.groupOf n = some g := (s.staged.mem_members g n).1 (by simp [sole])
  have port := (State.keepsNode_uprooted law (.inr (before.trans after.symm))).port
  have state : (s.replanned.node n).state = (s.node n).state := by rw [State.replanned_of_staying law before after]
  obtain ⟨entered, outstanding, still⟩ := State.foldl_regroup_of_idle (s := s.replanned) s.nodup_changed
    (s.mem_changed.2 changes) (by simpa using sole) (by simpa using Plan.groupFault_of_firstFault passes g)
    (by rwa [state]) (by rwa [state]) (by rwa [state])
  have plan : s.replanned.groupPlan g = s.staged.groups.get g := by simp [State.groupPlan]
  have clock : s.replanned.clock = s.clock := by simp
  rw [plan, clock] at entered
  exact ⟨State.entersHold_congr (by simp) (by simp) entered, outstanding, still.trans (by simp [port])⟩

end

end

/-! ### The command -/

theorem State.applyTaken_of_passing {s : State} (unlocked : s.planLocked = false) (passes : s.staged.firstFault = none) :
    s.applyTaken = s.activate.reply .supervisor .apply .ok := by
  simp [State.applyTaken, unlocked, passes]

theorem State.supervisor_activate (s : State) : s.activate.port .supervisor = s.port .supervisor :=
  (State.supervisor_foldl_regroup s.changed s.replanned).trans (by simp)

/-- Settles O52: the nodes that leave their group are uprooted, the plan is exchanged, and each group that changes is reset and
resolved, none of which concerns another group. -/
theorem applyActivatesTheStagedPlan : Obligations.ApplyActivatesTheStagedPlan := by
  intro p s law passes unlocked faultless keeps
  have taken : exec (.apply .supervisor p) s = .next (s.activate.reply .supervisor .apply .ok) :=
    (exec_of_passes rfl passes).trans (congrArg Host.Outcome.next (State.applyTaken_of_passing unlocked faultless))
  refine ⟨_, taken, by simp, by simp, by simp, by simp, by simp, by simp, by simp, ?masks, ?enable, by simp, by simp, ?reply,
    fun n => ?errors, fun n g before after => ?stays, fun n before after => ?leaves, fun n after moves => ?enters,
    fun g same => ?kept, fun g changes empty => ?empty, fun g changes unknown => ?waits,
    fun g n changes sole inside => ⟨fun serves => ?serves, fun known notRunning notQuiet => ?idle⟩,
    fun g n changes outstanding standby => ?forgotten, fun n none => ?exchange, fun a notHeld notUnserved => ?flag,
    fun calm => ?alerts⟩
  case masks => simpa [State.activate_eq] using State.masks_foldl_regroup s.changed s.replanned
  case enable => simpa [State.activate_eq] using State.enable_foldl_regroup s.changed s.replanned
  case reply =>
    rw [State.reply, (State.sends_send s.activate .supervisor _).1, State.supervisor_activate]
    simp [passes.1.2, Kind.code]
  case errors => simpa using ((State.updates.refl (s := s)).activate.links.1 (.node n)).1
  case stays =>
    obtain ⟨committed, still, changed⟩ := State.activate_of_staying law before after
    refine ⟨by simpa using committed, fun same => by simpa using still same, fun changes => ?_⟩
    simpa [NodeRec.regrouped] using changed changes
  case leaves => simpa [State.endsPass] using State.activate_of_leaving law before after
  case enters => simpa [State.endsPass] using State.activate_of_entering law after moves
  case kept => simpa using State.group_activate_of_kept same
  case empty => simpa using State.group_activate_of_empty changes empty
  case waits =>
    obtain ⟨n, inside, unknown⟩ := unknown
    simpa using State.group_activate_of_unknown changes inside (by simpa using unknown)
  case serves => simpa using State.activate_of_serving faultless law changes sole inside passes.1.2 serves
  case idle =>
    obtain ⟨entered, still⟩ := State.activate_of_idle faultless law changes sole inside known notRunning notQuiet
    refine ⟨?_, by simpa using still⟩
    simpa [State.entersHold, State.flag] using entered
  case forgotten =>
    have taking : ∃ g ∈ s.changed, (s.group g).outstanding = true ∧ (s.group g).standby = some n :=
      ⟨g, s.mem_changed.2 changes, outstanding, standby⟩
    simpa [taking] using s.exchange_activate n
  case exchange =>
    have idle : ¬ ∃ g ∈ s.changed, (s.group g).outstanding = true ∧ (s.group g).standby = some n :=
      fun ⟨g, changed, outstanding, standby⟩ => none g (s.mem_changed.1 changed) outstanding standby
    simpa [idle] using s.exchange_activate n
  case flag => exact (State.flag_of_alerts (by simp) a).trans (State.flag_activate notHeld notUnserved)
  case alerts => simpa using State.alerts_activate faultless (by simpa using calm)

end Sys2Proof.Machine
